-- ==== Sys2Proof/Word.lean ====
section
/-! DEFINITION. The byte, the unit of every frame of the ring (R189). -/

namespace Sys2Proof

/-- One byte of a frame (R189). -/
abbrev Byte := BitVec 8

/-- A 16-bit word: a check word (R2), a meter count or a meter's instrument time (R107). -/
abbrev Word16 := BitVec 16

end Sys2Proof
end

