-- ==== Sys2Proof/Syntax.lean ====
section
/-! DEFINITION. The frame of the ring and the commands of the block: one constructor per row of the opcode table. -/

namespace Sys2Proof

/-- A frame as it arrives or leaves (R189). The body is what was received: its length may differ from
the length field, which is one of the structural tests of R2. -/
structure Frame where
  dest   : Byte
  source : Byte
  kind   : Byte
  hops   : Byte
  tag    : Byte
  length : Byte
  body   : List Byte
  check  : Word16
  deriving DecidableEq, Repr

/-- The events of the part. A request row carries no operand: it is the event in which the Management
Unit carries out the request it holds, whose parameters are the bytes of that manage frame (R182, R192; log 5).
Spots are numbered 1 to 16, compressors 1 to 4, map entries 0 to 255. -/
inductive Instr where
  /-- POWER_ON (R180). The operand is what the address straps read (R1, log 6). -/
  | powerOn (straps : Byte)
  /-- RESET_INPUT (R180): assertion of the reset input, with what the address straps read (R1, log 6). -/
  | resetInput (straps : Byte)
  /-- ESD_LINE_ASSERTED (R172). -/
  | esdLineAsserted
  /-- ESD_LINE_RELEASED (R172). -/
  | esdLineReleased
  /-- FRAME_ARRIVAL (R2): a whole frame has been received. -/
  | frameArrival (frame : Frame)
  /-- TRANSMIT_COMPLETE (R11). -/
  | transmitComplete
  /-- SILENCE_EXPIRY (R13). -/
  | silenceExpiry
  /-- STALENESS_EXPIRY (R29) of one map entry. -/
  | stalenessExpiry (index : Nat)
  /-- TRAVEL_TIMER_EXPIRY (R67) of one spot. -/
  | travelTimerExpiry (spot : Nat)
  /-- PRESSURISE_TIMER_EXPIRY (R70) of one spot. -/
  | pressuriseTimerExpiry (spot : Nat)
  /-- SUSPEND_TIMER_EXPIRY (R99) of one spot. -/
  | suspendTimerExpiry (spot : Nat)
  /-- PASS_TIMER_EXPIRY (R128) of one spot. -/
  | passTimerExpiry (spot : Nat)
  /-- SETTLE_TIMER_EXPIRY (R130) of one spot. -/
  | settleTimerExpiry (spot : Nat)
  /-- CONFIRMATION_TIMER_EXPIRY (R151) of one compressor. -/
  | confirmationTimerExpiry (compressor : Nat)
  /-- POPDOWN_TIMER_EXPIRY (R149) of one compressor. -/
  | popdownTimerExpiry (compressor : Nat)
  /-- START_HISTORY_REMOVAL (R152) of one compressor's oldest start. -/
  | startHistoryRemoval (compressor : Nat)
  /-- REFRESH_TIMER_EXPIRY (R161) of one output entry. -/
  | refreshTimerExpiry (index : Nat)
  /-- RESIDENCY_TICK (R153): one second of uptime passes. -/
  | residencyTick
  /-- READ_STATUS (R181, R184). -/
  | readStatus
  /-- READ_SPOT (R88, R184, R186). -/
  | readSpot
  /-- READ_RECORD (R55, R184). -/
  | readRecord
  /-- READ_HISTORY (R185). -/
  | readHistory
  /-- READ_COMPRESSOR (R156, R184). -/
  | readCompressor
  /-- READ_CHANNEL (R37, R168). -/
  | readChannel
  /-- LOAD_MAP_ENTRY (R20 to R23). -/
  | loadMapEntry
  /-- LOAD_SPOT (R39 to R41). -/
  | loadSpot
  /-- LOAD_METER_CURVE (R43). -/
  | loadMeterCurve
  /-- LOAD_PRODUCT_SEGMENT (R47, R48). -/
  | loadProductSegment
  /-- LOAD_COMPRESSOR (R45). -/
  | loadCompressor
  /-- ADD_CAR (R52). -/
  | addCar
  /-- REMOVE_CAR (R53). -/
  | removeCar
  /-- START (R63, R64). -/
  | start
  /-- SUSPEND (R104). -/
  | suspend
  /-- RESUME (R105). -/
  | resume
  /-- STOP (R77). -/
  | stop
  /-- ABORT (R78, R79). -/
  | abort
  /-- RELEASE (R82). -/
  | release
  /-- CLEAR (R83, R84). -/
  | clear
  /-- SET_CHANNEL_MODE (R165 to R167). -/
  | setChannelMode
  /-- ACK_CHANGES (R35). -/
  | ackChanges
  /-- TRIP (R177). -/
  | trip
  /-- TRIP_RESET (R178). -/
  | tripReset
  /-- RESET_PART (R179). -/
  | resetPart
  /-- UNKNOWN_REQUEST (R183): a manage request with an empty body or an unknown request code. -/
  | unknownRequest
  /-- LOSS_OF_SUPPLY (R170). -/
  | lossOfSupply
  /-- RESET_INPUT_RELEASE (R180). -/
  | resetInputRelease
  deriving DecidableEq, Repr

end Sys2Proof
end

