-- ==== Sys2Proof/Decode.lean ====
section
/-! DEFINITION. The command a word spells by the opcode table's bits: none, since the table gives no row any bits (log 26). -/

namespace Sys2Proof

/-- The command that the `nbits`-bit word `w` spells. Every row of the table has an empty list of fields and no
fixed bits, so no word spells a command. -/
def decodeTableWord (_nbits _w : Nat) : Option Instr := none

end Sys2Proof
end

