-- ==== Sys2Proof/Config.lean ====
section
/-! DEFINITION. The fixed sizes and times the spec gives the part, and the one value it leaves open. -/

namespace Sys2Proof.Config

/-- Frames the forward buffer holds (R7). -/
def forwardCapacity : Nat := 6
/-- Requests the request queue holds (R6). -/
def requestCapacity : Nat := 4
/-- Entries and reservations the message queue holds (R9). -/
def messageCapacity : Nat := 24
/-- Forward frames in a row while an own frame waits (R11). -/
def forwardRunLimit : Nat := 4
/-- Hop count of the part's own frames (R12). -/
def ownHops : Byte := 16
/-- The broadcast destination (R12). -/
def broadcast : Byte := 255
/-- Seconds without a valid frame that make the ring silent (R13). -/
def silenceSeconds : Nat := 5
/-- Longest body of a frame (R2). -/
def maxBody : Nat := 40
/-- Records the manifest holds (R49). -/
def manifestCapacity : Nat := 48
/-- Seconds of the refresh timer (R161). -/
def refreshSeconds : Nat := 2
/-- Age in seconds at which a start history entry is removed (R152). -/
def historyAge : Nat := 3600
/-- Spots a compressor serves at most (R145). -/
def branches : Nat := 2
/-- Recovery passes of one transfer at most (R126). -/
def passMaximum : Nat := 4
/-- Greatest value of a 32-bit count (R85, R153). -/
def max32 : Nat := 4294967295
/-- Greatest value of a 64-bit accumulator (R107, R121). -/
def max64 : Nat := 18446744073709551615

/-- FREE VALUE, log 2: what the 32-bit uptime clock shows one second after 4294967295 s.
The spec gives the clock 32 bits and states no value past them; nothing constrains this one.
Its argument is the State field `freeDraws`, so that each use is a fresh value. -/
opaque uptimePastOverflow : Nat → BitVec 32

end Sys2Proof.Config
end

