-- ==== Sys2Proof/Machine/State.lean ====
section
/-! DEFINITION. The state of the part: every block's state as its chapter gives it, the pins, and the queue of waiting commands. -/

namespace Sys2Proof.Machine

/-- Spots 1 to 16, held as 0 to 15. -/
abbrev SpotId := Fin 16
/-- Compressors 1 to 4, held as 0 to 3. -/
abbrev CompId := Fin 4

/-! ## Codes -/

/-- The spot states (R56). -/
inductive SpotState where
  | disabled | vacant | identified | ready | opening | pressurising | unloading
  | liquidClosing | recovery | closing | complete | faulted | suspended
  deriving DecidableEq, Repr

/-- What a spot asks of its compressor (R57). -/
inductive Demand where
  | none | hold | push | recover
  deriving DecidableEq, Repr

/-- What the Coordinator last reported to a spot (R56, R94). -/
inductive Grant where
  | none | waiting | compressor (c : CompId)
  deriving DecidableEq, Repr

/-- The recovery sub-state (R126). -/
inductive SubState where
  | pass | settle
  deriving DecidableEq, Repr

/-- The state a suspended spot left (R97). -/
inductive Saved where
  | pressurising | unloading | recovery (sub : SubState)
  deriving DecidableEq, Repr

/-- The outcome of a bound period (R54). -/
inductive Ending where
  | delivered | deliveredHeel | stopped | aborted | faultValveTravel | faultPressurise
  | faultCarMismatch | faultBond | faultArm | tripped | reset
  deriving DecidableEq, Repr

/-- The roles of map entries (R18). -/
inductive Role where
  | meter | tempLiq | pCar | liqPos | vapPos | bond | armLiq | armVap | tag | pTank | tankHigh
  | compState | gas | liqCmd | vapCmd | compRun | compDir
  deriving DecidableEq, Repr

/-- The commands of the output roles (R18, R191). -/
inductive Command where
  | opened | closed | run | stop | fwd | rev
  deriving DecidableEq, Repr

/-- A position sample (R26, R190). -/
inductive Position where
  | opened | closed | travel
  deriving DecidableEq, Repr

/-- A discrete sample: `normal` is code 1 (OK, CONNECTED, NORMAL), `abnormal` code 2 (LOST, DISCONNECTED, HIGH, ALARM) (R190). -/
inductive Discrete where
  | normal | abnormal
  deriving DecidableEq, Repr

/-- A compressor state sample (R26, R190). -/
inductive CompReading where
  | stopped | runningFwd | runningRev | fault
  deriving DecidableEq, Repr

/-- The levels of a compressor (R137). -/
inductive Level where
  | stopped | starting | idleRun | push | recover | reversing | stopping | unavailable
  deriving DecidableEq, Repr

/-- The results of a request (R192). -/
inductive Result where
  | done | state | inUse | range | order | duplicate | full | notFound | tooSoon | already
  | causePresent | localMode | mapIncomplete | noCurve | noProduct | stale | connected | notClosed
  | tripped | badRequest
  deriving DecidableEq, Repr

/-! ## Pins and the ring port -/

/-- The hardwired lines and straps (00_scope.md, Connections). -/
structure Pins where
  /-- What the address straps carry (R1). -/
  straps : Byte
  /-- The ESD input line is open, that is asserted (R172). -/
  esdAsserted : Bool
  /-- The reset input is held asserted (R180). -/
  resetAsserted : Bool
  /-- The trip output line is energised (R170). -/
  tripEnergised : Bool
  deriving DecidableEq, Repr

/-- A manage frame taken into the request queue (R6). -/
structure Request where
  source : Byte
  tag    : Byte
  body   : List Byte
  deriving DecidableEq, Repr

/-- A place of the message queue (R9). -/
inductive Message where
  | reply (dest tag : Byte) (body : List Byte)
  | notice (tag : Byte) (body : List Byte)
  /-- The place held empty for the reply of the request being carried out. -/
  | reservation
  deriving DecidableEq, Repr

/-- An entry of the actuation queue (R8). -/
structure Actuate where
  index   : Nat
  node    : Byte
  channel : Byte
  command : Command
  deriving DecidableEq, Repr

/-- LIVE or SILENT (R13). -/
inductive Silence where
  | live | silent
  deriving DecidableEq, Repr

/-- The Ring Port Unit (01, section 1.1). -/
structure Rpu where
  /-- The node address; `none` is BAD_ADDRESS (R1). -/
  address   : Option Byte
  forward   : List Frame
  requests  : List Request
  actuates  : List Actuate
  messages  : List Message
  runCount  : Nat
  noticeSeq : Byte
  /-- The actuate sequence of each map index (R12). -/
  actSeq    : Vector Byte 256
  silence   : Silence
  /-- Uptime of the last valid frame (R13). -/
  lastValid : Nat
  /-- The frame being sent on the transmit port; `none` is the idle port (R11). -/
  sending   : Option Frame
  deriving DecidableEq, Repr

/-! ## The instrument map -/

/-- An accepted value of an input entry (R26). A COUNT is never stored as a last value (R27). -/
inductive Value where
  | count (n t : Word16)
  | temperature (tenths : Int)
  | pressure (kPa : Int)
  | position (p : Position)
  | discrete (d : Discrete)
  | compressor (r : CompReading)
  | tag (chars : List Byte)
  deriving DecidableEq, Repr

/-- The metering baseline N_last and T_last of a METER entry (R108). -/
structure Baseline where
  count : Word16
  time  : Word16
  deriving DecidableEq, Repr

/-- The dynamic state of an input entry (R17). -/
structure Dynamic where
  last       : Option Value
  clamped    : Bool
  seq        : Option Byte
  baseline   : Option Baseline
  acceptedAt : Option Nat
  stale      : Bool
  deriving DecidableEq, Repr

/-- MONITOR or DRIVE (R157). -/
inductive Direction where
  | monitor | drive
  deriving DecidableEq, Repr

/-- The safe value of an output entry and its output image (R157). -/
structure Output where
  safe      : Command
  direction : Direction
  latch     : Command
  /-- The uptime at which the refresh timer expires; `none` when stopped (R161). -/
  refresh   : Option Nat
  deriving DecidableEq, Repr

/-- What an entry holds beside its key, role, owner and limit. -/
inductive EntryBody where
  | input (d : Dynamic)
  | output (o : Output)
  deriving DecidableEq, Repr

/-- A present map entry (R17). The owner is a spot, compressor or tank number, 0 for a general GAS entry. -/
structure MapEntry where
  node    : Byte
  channel : Byte
  role    : Role
  owner   : Nat
  limit   : Nat
  body    : EntryBody
  deriving DecidableEq, Repr

/-- Six yes-or-no conditions, or their changed latches (R31, R34). -/
structure Conditions where
  bondOk     : Bool
  armLiq     : Bool
  armVap     : Bool
  tankHigh   : Bool
  unknownTag : Bool
  anyStale   : Bool
  deriving DecidableEq, Repr

/-- The condition set of a spot and its changed latches (R31). -/
structure SpotConditions where
  values  : Conditions
  latches : Conditions
  deriving DecidableEq, Repr

/-! ## Tables and manifest -/

/-- A point of a meter curve (R42). -/
structure CurvePoint where
  rate : Nat
  mf   : Nat
  deriving DecidableEq, Repr

/-- A spot record with its meter record and curve (R38, R42). -/
structure SpotRecord where
  enabled         : Bool
  primary         : CompId
  alternate       : Option CompId
  tank            : Nat
  dpStart         : Nat
  heelRate        : Nat
  travelLimit     : Nat
  pressuriseLimit : Nat
  suspendLimit    : Nat
  resumeGuard     : Nat
  passLimit       : Nat
  settleTime      : Nat
  rebound         : Nat
  kc              : Nat
  plausibility    : Nat
  curve           : List CurvePoint
  deriving DecidableEq, Repr

/-- A compressor record (R44). -/
structure CompRecord where
  popdown      : Nat
  startLimit   : Nat
  startTimeout : Nat
  deriving DecidableEq, Repr

/-- The status of a manifest record (R50). -/
inductive CarStatus where
  | waiting | bound (spot : SpotId) | done
  deriving DecidableEq, Repr

/-- An end record (R54). -/
structure EndRecord where
  spot       : SpotId
  outcome    : Ending
  credited   : Nat
  rejected   : Nat
  gross      : Nat
  net        : Nat
  mass       : Nat
  remaining  : Nat
  passes     : Nat
  finalPressure : Option Int
  tempClamped : Bool
  short      : Bool
  excessSeen : Bool
  heel       : Bool
  deriving DecidableEq, Repr

/-- A manifest record (R50). The product group 1 to 4 is held as 0 to 3. -/
structure CarRecord where
  car         : List Byte
  group       : Fin 4
  density     : Nat
  declared    : Nat
  maxPressure : Nat
  residual    : Nat
  status      : CarStatus
  endRecord   : Option EndRecord
  deriving DecidableEq, Repr

/-- A product group: 23 points, each loaded with a CTL or not loaded (R46). -/
abbrev Group := Vector (Option Nat) 23

/-! ## Spot contexts -/

/-- The suspension cause set (R89). -/
structure Causes where
  tankHigh     : Bool
  noCompressor : Bool
  staleInput   : Bool
  pressureHigh : Bool
  requested    : Bool
  meterSuspect : Bool
  excess       : Bool
  deriving DecidableEq, Repr

/-- A running travel timer: the uptime of its expiry and the awaited role and position (R66). -/
structure Travel where
  deadline : Nat
  role     : Role
  position : Position
  deriving DecidableEq, Repr

/-- The rate window: 8 positions and the next position (R185). -/
structure RateWindow where
  places : Vector (Option Nat) 8
  next   : Fin 8
  deriving DecidableEq, Repr

/-- The accumulators and residues of a transfer (R107). -/
structure Accumulators where
  credited    : Nat
  rejected    : Nat
  raw         : Nat
  rawRes      : Nat
  gross       : Nat
  grossRes    : Nat
  net         : Nat
  netRes      : Nat
  mass        : Nat
  massRes     : Nat
  tempClamped : Bool
  deriving DecidableEq, Repr

/-- A spot context (R56). A timer is held as the uptime of its expiry, `none` when stopped.
The bound record is the manifest record whose status is BOUND to the spot (R51, log 29). -/
structure SpotContext where
  state           : SpotState
  /-- Position, counted from 1, of the DONE record the spot last held. -/
  lastHeld        : Option Nat
  saved           : Option Saved
  causes          : Causes
  grant           : Grant
  demand          : Demand
  travel          : Option Travel
  pressurise      : Option Nat
  suspendTimer    : Option Nat
  pass            : Option Nat
  settle          : Option Nat
  liquidConfirmed : Bool
  window          : RateWindow
  acc             : Accumulators
  passCount       : Nat
  sub             : Option SubState
  stopMark        : Bool
  pendingOutcome  : Option Ending
  heel            : Bool
  excessSeen      : Bool
  excessAck       : Bool
  lastResume      : Option Nat
  unassigned      : Nat
  deriving DecidableEq, Repr

/-! ## Compressors -/

/-- A running confirmation timer and the report it awaits (R151). -/
structure Confirmation where
  deadline : Nat
  awaits   : CompReading
  deriving DecidableEq, Repr

/-- A compressor context (R137). The direction is the COMP_DIR latch, held in the output image.
Attached spots stand in ascending order; their demands are those of their contexts (log 15). -/
structure Compressor where
  record    : Option CompRecord
  level     : Level
  attached  : List SpotId
  deferred  : Bool
  held      : Bool
  confirm   : Option Confirmation
  popdown   : Option Nat
  history   : List Nat
  residency : Vector Nat 8
  deriving DecidableEq, Repr

/-! ## Shutdown and management -/

/-- RUN or TRIPPED (R170). -/
inductive Device where
  | run | tripped
  deriving DecidableEq, Repr

/-- The trip cause set (R170). -/
structure TripCauses where
  powerOn    : Bool
  reset      : Bool
  esdLine    : Bool
  gas        : Bool
  ringSilent : Bool
  requested  : Bool
  badAddress : Bool
  deriving DecidableEq, Repr

/-- The Shutdown Unit (R170). The trip output line is a pin; the live conditions are computed. -/
structure Sdu where
  device      : Device
  causes      : TripCauses
  entryUptime : Nat
  /-- The ESD line state is ASSERTED (R172). -/
  esdAsserted : Bool
  ringSilent  : Bool
  deriving DecidableEq, Repr

/-- The Management Unit: IDLE, or CARRYING_OUT with the request held (R182), and the standing marks (R186). -/
structure Mgu where
  held     : Option Request
  standing : Vector Bool 16
  deriving DecidableEq, Repr

/-! ## The machine -/

/-- The whole state of the part and its pins, and the queue of waiting commands. -/
structure State where
  pins       : Pins
  /-- The part has its supply (R170, LOSS_OF_SUPPLY). -/
  powered    : Bool
  /-- Seconds since power-on or the reset input, below 2^32. -/
  uptime     : Nat
  /-- The model's own counter of free values drawn (log 2). -/
  freeDraws  : Nat
  rpu        : Rpu
  /-- Present map entries by index, indexes strictly rising (R17). -/
  imap       : List (Nat × MapEntry)
  conditions : Vector SpotConditions 16
  table      : Vector (Option SpotRecord) 16
  groups     : Vector Group 4
  manifest   : List CarRecord
  spots      : Vector SpotContext 16
  comps      : Vector Compressor 4
  waitList   : List SpotId
  sdu        : Sdu
  mgu        : Mgu
  /-- Commands that wait, first in first out. -/
  pending    : List Instr
  deriving DecidableEq, Repr

/-- Why the part stops. No rule of the spec stops it, so no reason is listed: every command either has its
effect or cannot fall in the state and leaves it as it stands. -/
inductive Fault where
  deriving DecidableEq, Repr

/-- Why a command has no meaning. -/
inductive Refusal where
  /-- Raised by an arm of `exec` whose command has no meaning yet. Safe: nothing follows from it. -/
  | notModelled (mnemonic : String)
  deriving DecidableEq, Repr

/-! ## Values after power-on and the reset input -/

/-- No condition holds; no changed latch is set (R36). -/
def Conditions.allFalse : Conditions := ⟨false, false, false, false, false, false⟩

/-- No suspension cause (R89). -/
def Causes.empty : Causes := ⟨false, false, false, false, false, false, false⟩

/-- No trip cause (R178). -/
def TripCauses.empty : TripCauses := ⟨false, false, false, false, false, false, false⟩

/-- An empty rate window (R185). -/
def RateWindow.empty : RateWindow := ⟨Vector.replicate 8 none, 0⟩

/-- All accumulators and residues 0, TEMP_CLAMPED clear (R107). -/
def Accumulators.zero : Accumulators := ⟨0, 0, 0, 0, 0, 0, 0, 0, 0, 0, false⟩

/-- A spot context after power-on (R56). -/
def SpotContext.initial : SpotContext where
  state := .disabled
  lastHeld := none
  saved := none
  causes := .empty
  grant := .none
  demand := .none
  travel := none
  pressurise := none
  suspendTimer := none
  pass := none
  settle := none
  liquidConfirmed := false
  window := .empty
  acc := .zero
  passCount := 0
  sub := none
  stopMark := false
  pendingOutcome := none
  heel := false
  excessSeen := false
  excessAck := false
  lastResume := none
  unassigned := 0

/-- A compressor context after power-on (R137). -/
def Compressor.initial : Compressor where
  record := none
  level := .unavailable
  attached := []
  deferred := false
  held := false
  confirm := none
  popdown := none
  history := []
  residency := Vector.replicate 8 0

/-- The ring port after power-on (R14), before any notice is offered. -/
def Rpu.initial (address : Option Byte) : Rpu where
  address := address
  forward := []
  requests := []
  actuates := []
  messages := []
  runCount := 0
  noticeSeq := 0
  actSeq := Vector.replicate 256 0
  silence := .live
  lastValid := 0
  sending := none

/-- The Management Unit after power-on (R182, R186). -/
def Mgu.initial : Mgu := ⟨none, Vector.replicate 16 false⟩

/-- The TRIP notice of power-on as it is being sent: tag 0, trip entry uptime 0, cause set and causes added
POWER_ON, no live condition (R180, R188), from node 1 (log 7). `Tests/Slice0.lean` holds it against the
meaning of POWER_ON. -/
def resetNotice : Frame where
  dest := 255
  source := 1
  kind := 5
  hops := 16
  tag := 0
  length := 8
  body := [4, 0, 0, 0, 0, 1, 1, 0]
  check := 0x2992

/-- The part right after power-on with straps carrying 1, the ESD line released and the reset input released
(DESIGN CHOICE, log 7). -/
def State.reset : State where
  pins := ⟨1, false, false, false⟩
  powered := true
  uptime := 0
  freeDraws := 0
  rpu := { Rpu.initial (some 1) with noticeSeq := 1, sending := some resetNotice }
  imap := []
  conditions := Vector.replicate 16 ⟨.allFalse, .allFalse⟩
  table := Vector.replicate 16 none
  groups := Vector.replicate 4 (Vector.replicate 23 none)
  manifest := []
  spots := Vector.replicate 16 .initial
  comps := Vector.replicate 4 .initial
  waitList := []
  sdu := ⟨.tripped, { TripCauses.empty with powerOn := true }, 0, false, false⟩
  mgu := .initial
  pending := []

end Sys2Proof.Machine
end

