-- ==== Sys2Proof/Machine/Operands.lean ====
section
/-! DEFINITION. The operand forms: numbers, sets and codes in frame bodies, both ways (R189 to R193), and the numbering of spots and compressors. -/

namespace Sys2Proof.Machine

/-! ## Numbering -/

/-- Spot `n` of 1 to 16. -/
def spotId (n : Nat) : Option SpotId :=
  if h : 1 ≤ n ∧ n ≤ 16 then some ⟨n - 1, by omega⟩ else none

/-- Compressor `n` of 1 to 4. -/
def compId (n : Nat) : Option CompId :=
  if h : 1 ≤ n ∧ n ≤ 4 then some ⟨n - 1, by omega⟩ else none

/-- The number of a spot, 1 to 16. -/
def spotNumber (i : SpotId) : Nat := i.val + 1

/-- The number of a compressor, 1 to 4. -/
def compNumber (c : CompId) : Nat := c.val + 1

/-- The spots in ascending order. -/
def allSpots : List SpotId := [0, 1, 2, 3, 4, 5, 6, 7, 8, 9, 10, 11, 12, 13, 14, 15]

/-- The compressors in ascending order. -/
def allComps : List CompId := [0, 1, 2, 3]

/-! ## Numbers as bytes, high byte first (R189) -/

/-- The low 8 bits of a number. -/
def byte (n : Nat) : Byte := BitVec.ofNat 8 n

/-- A 2-byte number. -/
def bytes2 (n : Nat) : List Byte := [byte (n / 256), byte n]

/-- A 4-byte number. -/
def bytes4 (n : Nat) : List Byte := bytes2 (n / 65536) ++ bytes2 n

/-- An 8-byte number. -/
def bytes8 (n : Nat) : List Byte := bytes4 (n / 4294967296) ++ bytes4 n

/-- A signed 2-byte number, two's complement. -/
def bytesS2 (i : Int) : List Byte := bytes2 (i % 65536).toNat

/-- A yes-or-no mark or a presence mark. -/
def bytesMark (b : Bool) : List Byte := [if b then 1 else 0]

/-- A field that may not stand: its presence mark, and its bytes when it stands (R193). -/
def bytesOpt (o : Option (List Byte)) : List Byte :=
  match o with
  | some l => 1 :: l
  | none => [0]

/-- A list of varying length, preceded by its one-byte count (R193). -/
def bytesCounted (items : List (List Byte)) : List Byte := byte items.length :: items.flatten

/-- A set as one byte, first member in bit 0 (R189). -/
def bytesSet (members : List Bool) : List Byte :=
  [byte (members.foldr (fun b n => 2 * n + (if b then 1 else 0)) 0)]

/-- The number two bytes carry. -/
def num2 (a b : Byte) : Nat := 256 * a.toNat + b.toNat

/-- The number four bytes carry. -/
def num4 (a b c d : Byte) : Nat := 65536 * num2 a b + num2 c d

/-- The signed number two bytes carry. -/
def numS2 (a b : Byte) : Int :=
  if num2 a b < 32768 then (num2 a b : Int) else (num2 a b : Int) - 65536

/-- Bit `k` of a set byte. -/
def bitOf (b : Byte) (k : Nat) : Bool := b.getLsbD k

/-! ## Code sets (R190, R192) -/

def SpotState.code : SpotState → Byte
  | .disabled => 0 | .vacant => 1 | .identified => 2 | .ready => 3 | .opening => 4
  | .pressurising => 5 | .unloading => 6 | .liquidClosing => 7 | .recovery => 8 | .closing => 9
  | .complete => 10 | .faulted => 11 | .suspended => 12

def Demand.code : Demand → Byte
  | .none => 0 | .hold => 1 | .push => 2 | .recover => 3

def Grant.code : Grant → Byte
  | .none => 0 | .compressor c => byte (compNumber c) | .waiting => 5

def SubState.code : SubState → Byte
  | .pass => 1 | .settle => 2

/-- The spot state a saved state names (R97). -/
def Saved.state : Saved → SpotState
  | .pressurising => .pressurising | .unloading => .unloading | .recovery _ => .recovery

/-- The recovery sub-state saved with RECOVERY (R97). -/
def Saved.sub : Saved → Option SubState
  | .recovery sub => some sub
  | .pressurising => none
  | .unloading => none

def Ending.code : Ending → Byte
  | .delivered => 1 | .deliveredHeel => 2 | .stopped => 3 | .aborted => 4 | .faultValveTravel => 5
  | .faultPressurise => 6 | .faultCarMismatch => 7 | .faultBond => 8 | .faultArm => 9
  | .tripped => 10 | .reset => 11

def Role.code : Role → Byte
  | .meter => 1 | .tempLiq => 2 | .pCar => 3 | .liqPos => 4 | .vapPos => 5 | .bond => 6
  | .armLiq => 7 | .armVap => 8 | .tag => 9 | .pTank => 10 | .tankHigh => 11 | .compState => 12
  | .gas => 13 | .liqCmd => 14 | .vapCmd => 15 | .compRun => 16 | .compDir => 17

/-- The role of a role code (R192). -/
def roleOf (b : Byte) : Option Role :=
  match b.toNat with
  | 1 => some .meter | 2 => some .tempLiq | 3 => some .pCar | 4 => some .liqPos | 5 => some .vapPos
  | 6 => some .bond | 7 => some .armLiq | 8 => some .armVap | 9 => some .tag | 10 => some .pTank
  | 11 => some .tankHigh | 12 => some .compState | 13 => some .gas | 14 => some .liqCmd
  | 15 => some .vapCmd | 16 => some .compRun | 17 => some .compDir
  | _ => none

def Command.code : Command → Byte
  | .opened => 1 | .closed => 2 | .run => 3 | .stop => 4 | .fwd => 5 | .rev => 6

/-- The command of a command code (R191). -/
def commandOf (b : Byte) : Option Command :=
  match b.toNat with
  | 1 => some .opened | 2 => some .closed | 3 => some .run | 4 => some .stop | 5 => some .fwd
  | 6 => some .rev
  | _ => none

/-- A position code of R190. -/
def Position.code : Position → Byte
  | .opened => 1 | .closed => 2 | .travel => 3

def Discrete.code : Discrete → Byte
  | .normal => 1 | .abnormal => 2

def CompReading.code : CompReading → Byte
  | .stopped => 1 | .runningFwd => 2 | .runningRev => 3 | .fault => 4

def Level.code : Level → Byte
  | .stopped => 0 | .starting => 1 | .idleRun => 2 | .push => 3 | .recover => 4 | .reversing => 5
  | .stopping => 6 | .unavailable => 7

/-- The place of a level among the residency counts, in code order (R153, R192). -/
def Level.place : Level → Fin 8
  | .stopped => 0 | .starting => 1 | .idleRun => 2 | .push => 3 | .recover => 4 | .reversing => 5
  | .stopping => 6 | .unavailable => 7

def Result.code : Result → Byte
  | .done => 0 | .state => 1 | .inUse => 2 | .range => 3 | .order => 4 | .duplicate => 5 | .full => 6
  | .notFound => 7 | .tooSoon => 8 | .already => 9 | .causePresent => 10 | .localMode => 11
  | .mapIncomplete => 12 | .noCurve => 13 | .noProduct => 14 | .stale => 15 | .connected => 16
  | .notClosed => 17 | .tripped => 18 | .badRequest => 19

def Direction.code : Direction → Byte
  | .monitor => 1 | .drive => 2

def Device.code : Device → Byte
  | .run => 1 | .tripped => 2

def Silence.code : Silence → Byte
  | .live => 1 | .silent => 2

/-- RELEASED 1, ASSERTED 2 (R192). -/
def esdCode (asserted : Bool) : Byte := if asserted then 2 else 1

/-- WAITING 1, BOUND 2, DONE 3 (R192). -/
def CarStatus.code : CarStatus → Byte
  | .waiting => 1 | .bound _ => 2 | .done => 3

/-- An observed position (R164). -/
inductive Observed where
  | unknown | opened | closed | run | stop | fwd | rev | travel | notRunning | fault
  deriving DecidableEq, Repr

def Observed.code : Observed → Byte
  | .unknown => 0 | .opened => 1 | .closed => 2 | .run => 3 | .stop => 4 | .fwd => 5 | .rev => 6
  | .travel => 7 | .notRunning => 8 | .fault => 9

/-! ## Sets in member order (R192) -/

def Conditions.members (c : Conditions) : List Bool :=
  [c.bondOk, c.armLiq, c.armVap, c.tankHigh, c.unknownTag, c.anyStale]

def Causes.members (c : Causes) : List Bool :=
  [c.tankHigh, c.noCompressor, c.staleInput, c.pressureHigh, c.requested, c.meterSuspect, c.excess]

def TripCauses.members (c : TripCauses) : List Bool :=
  [c.powerOn, c.reset, c.esdLine, c.gas, c.ringSilent, c.requested, c.badAddress]

/-- The condition set a set byte names, bits 0 to 5 (R192). -/
def conditionsOf (b : Byte) : Conditions :=
  ⟨bitOf b 0, bitOf b 1, bitOf b 2, bitOf b 3, bitOf b 4, bitOf b 5⟩

/-! ## Values of samples (R190) -/

/-- The value layout of a kind in a sample body; a TAG is its count and characters. -/
def Value.bytes : Value → List Byte
  | .count n t => bytes2 n.toNat ++ bytes2 t.toNat
  | .temperature i => bytesS2 i
  | .pressure i => bytesS2 i
  | .position p => [p.code]
  | .discrete d => [d.code]
  | .compressor r => [r.code]
  | .tag chars => byte chars.length :: chars

/-- What a sample body says once its channel and value kind are known: a value, or a code that the value test of
R26 discards. -/
inductive Reading where
  | value (v : Value)
  | invalid
  deriving DecidableEq, Repr

/-- The value kinds (R190). -/
inductive Kind where
  | count | temperature | pressure | position | discrete | compressorState | tag
  deriving DecidableEq, Repr

/-- A sample body whose kind code is known and whose length suits it (R24). -/
structure Sample where
  channel : Byte
  kind    : Kind
  reading : Reading
  deriving DecidableEq, Repr

/-- A position code (R190). -/
def positionOf (b : Byte) : Reading :=
  match b.toNat with
  | 1 => .value (.position .opened)
  | 2 => .value (.position .closed)
  | 3 => .value (.position .travel)
  | _ => .invalid

/-- A discrete code (R190). -/
def discreteOf (b : Byte) : Reading :=
  match b.toNat with
  | 1 => .value (.discrete .normal)
  | 2 => .value (.discrete .abnormal)
  | _ => .invalid

/-- A compressor state code (R190). -/
def compReadingOf (b : Byte) : Reading :=
  match b.toNat with
  | 1 => .value (.compressor .stopped)
  | 2 => .value (.compressor .runningFwd)
  | 3 => .value (.compressor .runningRev)
  | 4 => .value (.compressor .fault)
  | _ => .invalid

/-- A tag of 1 to 10 characters passes the value test (R26, R190). -/
def tagOf (chars : List Byte) : Reading :=
  if 1 ≤ chars.length ∧ chars.length ≤ 10 then .value (.tag chars) else .invalid

/-- The first reading of a sample body (R24, R190): `none` where the kind code is unknown or the body length does
not suit the kind. -/
def parseSample (body : List Byte) : Option Sample :=
  match body with
  | channel :: kind :: value =>
    match kind.toNat, value with
    | 1, [n1, n0, t1, t0] => some ⟨channel, .count, .value (.count (n1 ++ n0) (t1 ++ t0))⟩
    | 2, [b1, b0] => some ⟨channel, .temperature, .value (.temperature (numS2 b1 b0))⟩
    | 3, [b1, b0] => some ⟨channel, .pressure, .value (.pressure (numS2 b1 b0))⟩
    | 4, [b] => some ⟨channel, .position, positionOf b⟩
    | 5, [b] => some ⟨channel, .discrete, discreteOf b⟩
    | 6, [b] => some ⟨channel, .compressorState, compReadingOf b⟩
    | 7, n :: chars =>
      if chars.length = n.toNat then some ⟨channel, .tag, tagOf chars⟩ else none
    | _, _ => none
  | _ => none

/-- The value kind R18 gives for a role; `none` for an output role. -/
def Role.kind : Role → Option Kind
  | .meter => some .count
  | .tempLiq => some .temperature
  | .pCar => some .pressure
  | .liqPos => some .position
  | .vapPos => some .position
  | .bond => some .discrete
  | .armLiq => some .discrete
  | .armVap => some .discrete
  | .tag => some .tag
  | .pTank => some .pressure
  | .tankHigh => some .discrete
  | .compState => some .compressorState
  | .gas => some .discrete
  | .liqCmd => none
  | .vapCmd => none
  | .compRun => none
  | .compDir => none

/-- What kind of owner a role takes (R18). -/
inductive OwnerKind where
  | spot | tank | compressor | spotOrNone
  deriving DecidableEq, Repr

def Role.ownerKind : Role → OwnerKind
  | .pTank => .tank
  | .tankHigh => .tank
  | .compState => .compressor
  | .compRun => .compressor
  | .compDir => .compressor
  | .gas => .spotOrNone
  | .meter => .spot
  | .tempLiq => .spot
  | .pCar => .spot
  | .liqPos => .spot
  | .vapPos => .spot
  | .bond => .spot
  | .armLiq => .spot
  | .armVap => .spot
  | .tag => .spot
  | .liqCmd => .spot
  | .vapCmd => .spot

/-- The owner is of the kind R18 gives for the role and inside its numbering. -/
def ownerOk (r : Role) (owner : Nat) : Bool :=
  match r.ownerKind with
  | .spot => 1 ≤ owner && owner ≤ 16
  | .tank => 1 ≤ owner && owner ≤ 4
  | .compressor => 1 ≤ owner && owner ≤ 4
  | .spotOrNone => owner ≤ 16

/-- The commands of an output role (R18, R19). -/
def commandSuits : Role → Command → Bool
  | .liqCmd, .opened => true
  | .liqCmd, .closed => true
  | .vapCmd, .opened => true
  | .vapCmd, .closed => true
  | .compRun, .run => true
  | .compRun, .stop => true
  | .compDir, .fwd => true
  | .compDir, .rev => true
  | _, _ => false

/-- An output role (R18). -/
def Role.isOutput (r : Role) : Bool := r.kind.isNone

end Sys2Proof.Machine
end

