-- ==== Sys2Proof/Machine/Ops.lean ====
section
/-! DEFINITION. The named operations over the state: access to contexts and the map, the frame check, the ring port's queues and
arbiter (chapter 1), and the output images (chapter 9). -/

namespace Sys2Proof.Machine

/-! ## Access -/

/-- The context of a spot (R56). -/
def State.spot (s : State) (i : SpotId) : SpotContext := s.spots.get i

/-- Change the context of a spot. -/
def State.modSpot (s : State) (i : SpotId) (f : SpotContext → SpotContext) : State :=
  { s with spots := s.spots.set i.val (f (s.spot i)) i.isLt }

/-- The context of a compressor (R137). -/
def State.comp (s : State) (c : CompId) : Compressor := s.comps.get c

/-- Change the context of a compressor. -/
def State.modComp (s : State) (c : CompId) (f : Compressor → Compressor) : State :=
  { s with comps := s.comps.set c.val (f (s.comp c)) c.isLt }

/-- The spot record of a spot, or `none` for an empty slot (R38). -/
def State.record (s : State) (i : SpotId) : Option SpotRecord := s.table.get i

/-- A field of the spot record, read at the moment it is used (R38); `none` for an empty slot, which no rule that
reads a field meets. -/
def State.recordField (s : State) (i : SpotId) (f : SpotRecord → Nat) : Nat :=
  match s.record i with
  | some r => f r
  | none => 0

/-- The condition values of a spot (R31). -/
def State.values (s : State) (i : SpotId) : Conditions := (s.conditions.get i).values

/-- The changed latches of a spot (R34). -/
def State.latches (s : State) (i : SpotId) : Conditions := (s.conditions.get i).latches

/-! ## The map -/

/-- The entry at an index (R17). -/
def entryAt (m : List (Nat × MapEntry)) (i : Nat) : Option MapEntry :=
  match m with
  | [] => none
  | (k, e) :: rest => if k = i then some e else entryAt rest i

/-- Put an entry at an index, keeping the indexes rising. -/
def putEntry (m : List (Nat × MapEntry)) (i : Nat) (e : MapEntry) : List (Nat × MapEntry) :=
  match m with
  | [] => [(i, e)]
  | (k, d) :: rest =>
    if i < k then (i, e) :: (k, d) :: rest
    else if i = k then (i, e) :: rest
    else (k, d) :: putEntry rest i e

/-- Make an index absent. -/
def dropEntry (m : List (Nat × MapEntry)) (i : Nat) : List (Nat × MapEntry) :=
  m.filter (fun p => p.1 != i)

/-- The present entry of a role and owner: "the spot's METER" and the like (R18). -/
def findRole (m : List (Nat × MapEntry)) (r : Role) (owner : Nat) : Option (Nat × MapEntry) :=
  m.find? (fun p => decide (p.2.role = r) && decide (p.2.owner = owner))

/-- The present entry with a key (R24). -/
def findKey (m : List (Nat × MapEntry)) (node channel : Byte) : Option (Nat × MapEntry) :=
  m.find? (fun p => decide (p.2.node = node) && decide (p.2.channel = channel))

/-- The entry of a role a spot owns. -/
def State.spotEntry (s : State) (r : Role) (i : SpotId) : Option (Nat × MapEntry) :=
  findRole s.imap r (spotNumber i)

/-- The entry of a role a compressor owns. -/
def State.compEntry (s : State) (r : Role) (c : CompId) : Option (Nat × MapEntry) :=
  findRole s.imap r (compNumber c)

/-- The entry of a role of the spot's receiving tank; missing where the spot has no record (R31). -/
def State.tankEntry (s : State) (r : Role) (i : SpotId) : Option (Nat × MapEntry) :=
  match s.record i with
  | some rec => findRole s.imap r rec.tank
  | none => none

/-- The dynamic state of an input entry. -/
def MapEntry.dynamic (e : MapEntry) : Option Dynamic :=
  match e.body with
  | .input d => some d
  | .output _ => none

/-- The output image of an output entry. -/
def MapEntry.image (e : MapEntry) : Option Output :=
  match e.body with
  | .input _ => none
  | .output o => some o

/-- The entry is an input entry whose stale flag is set. -/
def MapEntry.isStale (e : MapEntry) : Bool :=
  match e.body with
  | .input d => d.stale
  | .output _ => false

/-- The last value of an input entry. -/
def MapEntry.lastValue (e : MapEntry) : Option Value :=
  match e.body with
  | .input d => d.last
  | .output _ => none

/-- The entry found is stale; a missing entry is not stale (R23). -/
def staleEntry (o : Option (Nat × MapEntry)) : Bool :=
  match o with
  | some p => p.2.isStale
  | none => false

/-- The last value of the entry found. -/
def lastOf (o : Option (Nat × MapEntry)) : Option Value :=
  match o with
  | some p => p.2.lastValue
  | none => none

/-- The pressure a value carries. -/
def Value.kPa? : Value → Option Int
  | .pressure p => some p
  | .count _ _ => none
  | .temperature _ => none
  | .position _ => none
  | .discrete _ => none
  | .compressor _ => none
  | .tag _ => none

/-- The last value of the spot's P_CAR entry (R69, R93). -/
def State.carPressure (s : State) (i : SpotId) : Option Int :=
  (lastOf (s.spotEntry .pCar i)).bind Value.kPa?

/-- The last value of the P_TANK entry of the spot's receiving tank (R69). -/
def State.tankPressure (s : State) (i : SpotId) : Option Int :=
  (lastOf (s.tankEntry .pTank i)).bind Value.kPa?

/-- Replace the body of the entry at an index. -/
def State.setBody (s : State) (i : Nat) (b : EntryBody) : State :=
  match entryAt s.imap i with
  | some e => { s with imap := putEntry s.imap i { e with body := b } }
  | none => s

/-! ## The check word and the frame check -/

/-- One bit of the CRC-16 of R2: polynomial 1021h, most significant bit first. -/
def crcBit (c : Word16) : Word16 :=
  if c.msb then (c <<< 1) ^^^ 0x1021#16 else c <<< 1

/-- One byte of the CRC-16 of R2. -/
def crcByte (c : Word16) (b : Byte) : Word16 :=
  let x := c ^^^ ((b.setWidth 16) <<< 8)
  crcBit (crcBit (crcBit (crcBit (crcBit (crcBit (crcBit (crcBit x)))))))

/-- The CRC-16 of R2: initial value FFFFh, not reflected, nothing XORed at the end. -/
def crc16 (bytes : List Byte) : Word16 := bytes.foldl crcByte 0xFFFF#16

/-- The bytes the check word covers: destination through the last byte of the body (R2). -/
def coveredBytes (f : Frame) : List Byte :=
  [f.dest, f.source, f.kind, f.hops, f.tag, f.length] ++ f.body

/-- The frame with its check word computed (R2). -/
def sealFrame (f : Frame) : Frame := { f with check := crc16 (coveredBytes f) }

/-- The frame passes the frame check of R2. -/
def frameValid (f : Frame) : Bool :=
  decide (f.check = crc16 (coveredBytes f)) && decide (f.length.toNat ≤ Config.maxBody) &&
    decide (f.body.length = f.length.toNat) && decide (f.source ≠ 0) && decide (f.source ≠ 255)

/-! ## The transmit arbiter (R11, R12) -/

/-- The message queue has a frame ready: its head is a reply or a notice (R11). -/
def messageReady (r : Rpu) : Bool :=
  match r.messages with
  | .reply _ _ _ :: _ => true
  | .notice _ _ :: _ => true
  | .reservation :: _ => false
  | [] => false

/-- An own frame is ready (R11). In BAD_ADDRESS the arbiter sends forwarded frames and nothing else (R1). -/
def ownReady (r : Rpu) : Bool := r.address.isSome && (!r.actuates.isEmpty || messageReady r)

/-- An own frame as R12 builds it. -/
def ownFrame (source dest kind tag : Byte) (body : List Byte) : Frame :=
  sealFrame ⟨dest, source, kind, Config.ownHops, tag, byte body.length, body, 0⟩

/-- The actuate sequence of a map index (R12). -/
def Rpu.sequenceOf (r : Rpu) (i : Nat) : Byte :=
  if h : i < 256 then r.actSeq[i] else 0

/-- Set the actuate sequence of a map index (R12). -/
def Rpu.setSequence (r : Rpu) (i : Nat) (b : Byte) : Rpu :=
  if h : i < 256 then { r with actSeq := r.actSeq.set i b h } else r

/-- An own frame is sent: the head of the actuation queue if there is one, otherwise the head of the message
queue if it is ready; the run count becomes 0. Where nothing is ready the port goes idle (R11, cases 2 to 4). -/
def sendOwn (r : Rpu) : Rpu :=
  match r.address with
  | none => { r with sending := none }
  | some a =>
    match r.actuates with
    | e :: rest =>
      { r.setSequence e.index (r.sequenceOf e.index + 1) with
        actuates := rest
        runCount := 0
        sending := some (ownFrame a e.node 2 (r.sequenceOf e.index) [e.channel, e.command.code]) }
    | [] =>
      match r.messages with
      | .reply dest tag body :: rest =>
        { r with messages := rest, runCount := 0, sending := some (ownFrame a dest 4 tag body) }
      | .notice tag body :: rest =>
        { r with messages := rest, runCount := 0, sending := some (ownFrame a Config.broadcast 5 tag body) }
      | .reservation :: _ => { r with sending := none }
      | [] => { r with sending := none }

/-- The arbiter decides at a frame boundary (R11). -/
def boundary (r : Rpu) : Rpu :=
  match r.forward with
  | f :: rest =>
    if ownReady r then
      if r.runCount < Config.forwardRunLimit then
        { r with forward := rest, runCount := r.runCount + 1, sending := some f }
      else sendOwn r
    else { r with forward := rest, runCount := 0, sending := some f }
  | [] => sendOwn r

/-- A requester may have become ready: while the port is idle that moment is a frame boundary (R11, log 23). -/
def kick (r : Rpu) : Rpu :=
  match r.sending with
  | some _ => r
  | none => boundary r

/-! ## The queues of the ring port -/

/-- R4 and R7: hop count less 1, new check word, tail of the forward buffer; discarded where the buffer is full. -/
def forwardFrame (f : Frame) (r : Rpu) : Rpu :=
  if r.forward.length < Config.forwardCapacity then
    kick { r with forward := r.forward ++ [sealFrame { f with hops := f.hops - 1 }] }
  else r

/-- The actuation queue with an offer taken: in place if the entry is queued, at the tail otherwise (R8). -/
def queueActuate (a : Actuate) (q : List Actuate) : List Actuate :=
  match q with
  | [] => [a]
  | e :: rest =>
    if e.index = a.index then { e with command := a.command } :: rest else e :: queueActuate a rest

/-- An actuate is offered (R8); discarded in BAD_ADDRESS (R1). -/
def offerActuate (a : Actuate) (r : Rpu) : Rpu :=
  match r.address with
  | none => r
  | some _ => kick { r with actuates := queueActuate a r.actuates }

/-- A queued actuate of a map index is removed; the entries behind it keep their order (R8, R160). -/
def dropActuate (i : Nat) (r : Rpu) : Rpu :=
  { r with actuates := r.actuates.filter (fun e => e.index != i) }

/-- The command a queued actuate of a map index holds (R168). -/
def queuedCommand (i : Nat) (r : Rpu) : Option Command :=
  (r.actuates.find? (fun e => e.index == i)).map (·.command)

/-- A notice is offered: it takes the next notice tag, and is queued where the message queue has a place (R10).
In BAD_ADDRESS it is discarded (R1, log 16). -/
def offerNotice (body : List Byte) (r : Rpu) : Rpu :=
  let r' := { r with noticeSeq := r.noticeSeq + 1 }
  match r.address with
  | none => r'
  | some _ =>
    if r.messages.length < Config.messageCapacity then
      kick { r' with messages := r.messages ++ [.notice r.noticeSeq body] }
    else r'

/-- The reply fills the reservation at its place (R9). -/
def fillReservation (reply : Message) (q : List Message) : List Message :=
  match q with
  | [] => []
  | .reservation :: rest => reply :: rest
  | .reply d t b :: rest => .reply d t b :: fillReservation reply rest
  | .notice t b :: rest => .notice t b :: fillReservation reply rest

/-- Every entry of the message queue is removed but the reservation (R15). -/
def onlyReservation (q : List Message) : List Message :=
  q.filter (fun m => decide (m = .reservation))

/-- The same operations over the whole state. -/
def State.modRpu (s : State) (f : Rpu → Rpu) : State := { s with rpu := f s.rpu }

/-- A block offers a notice (R10). -/
def State.notice (s : State) (body : List Byte) : State := s.modRpu (offerNotice body)

/-! ## The Management Unit takes a request (R182) -/

/-- The unit takes the head of the request queue when it is IDLE, the queue is non-empty and the message queue can
reserve a place; the reservation goes to the tail (R9, R182, log 5). -/
def State.takeRequest (s : State) : State :=
  match s.mgu.held, s.rpu.requests with
  | none, q :: rest =>
    if s.rpu.messages.length < Config.messageCapacity then
      { s with
        mgu := { s.mgu with held := some q }
        rpu := { s.rpu with requests := rest, messages := s.rpu.messages ++ [.reservation] } }
    else s
  | _, _ => s

/-- What a request is answered with. -/
structure Reply where
  result : Result
  data   : List Byte
  deriving DecidableEq, Repr

/-- The request code of a body, 0 for an empty body (R183). -/
def requestCode (body : List Byte) : Byte :=
  match body with
  | [] => 0
  | c :: _ => c

/-- The reply message of a request: its code, the result code, the data (R192), to the source with the tag (R12). -/
def replyMessage (q : Request) (p : Reply) : Message :=
  .reply q.source q.tag ([requestCode q.body, p.result.code] ++ p.data)

/-- At the end of the request's event the reply fills the reservation, the unit is IDLE, and it takes the next
request when it can (R182). -/
def State.answer (s : State) (q : Request) (p : Reply) : State :=
  State.takeRequest
    { s with
      mgu := { s.mgu with held := none }
      rpu := kick { s.rpu with messages := fillReservation (replyMessage q p) s.rpu.messages } }

/-! ## Output images (chapter 9) -/

/-- The outgoing command of an image (R160). -/
def outgoing (device : Device) (o : Output) : Option Command :=
  match device, o.direction with
  | .tripped, _ => some o.safe
  | .run, .drive => some o.latch
  | .run, .monitor => none

/-- Set the refresh timer of the image at an index (R161). -/
def State.setRefresh (s : State) (i : Nat) (t : Option Nat) : State :=
  match entryAt s.imap i with
  | some e =>
    match e.body with
    | .output o => s.setBody i (.output { o with refresh := t })
    | .input _ => s
  | none => s

/-- The OCU offers an actuate for an entry and restarts its refresh timer for 2 s (R160, R161). -/
def State.offerCommand (s : State) (i : Nat) (cmd : Command) : State :=
  match entryAt s.imap i with
  | some e =>
    (s.modRpu (offerActuate ⟨i, e.node, e.channel, cmd⟩)).setRefresh i (some (s.uptime + Config.refreshSeconds))
  | none => s

/-- R160 after an event: the outgoing command was `before`; offer the new one if it changed to a command, fall
silent if it changed to none. -/
def State.settleOutput (s : State) (i : Nat) (before : Option Command) : State :=
  match entryAt s.imap i with
  | some e =>
    match e.body with
    | .output o =>
      let now := outgoing s.sdu.device o
      if now = before then s
      else
        match now with
        | some cmd => s.offerCommand i cmd
        | none => (s.modRpu (dropActuate i)).setRefresh i none
    | .input _ => s
  | none => s

/-- Change the image at an index and apply R160 to the result. -/
def State.changeOutput (s : State) (i : Nat) (f : Output → Output) : State :=
  match entryAt s.imap i with
  | some e =>
    match e.body with
    | .output o => (s.setBody i (.output (f o))).settleOutput i (outgoing s.sdu.device o)
    | .input _ => s
  | none => s

/-- A latch write (R158): no change where the latch already holds the command or no entry is present. -/
def State.writeLatch (s : State) (r : Role) (owner : Nat) (cmd : Command) : State :=
  match findRole s.imap r owner with
  | some (i, e) =>
    match e.body with
    | .output o => if o.latch = cmd then s else s.changeOutput i (fun o => { o with latch := cmd })
    | .input _ => s
  | none => s

/-- The Spot Sequencer writes a valve latch of a spot. -/
def State.writeValve (s : State) (r : Role) (i : SpotId) (cmd : Command) : State :=
  s.writeLatch r (spotNumber i) cmd

/-- The Compressor Coordinator writes a latch of a compressor. -/
def State.writeComp (s : State) (r : Role) (c : CompId) (cmd : Command) : State :=
  s.writeLatch r (compNumber c) cmd

/-- The indexes of the present output entries, ascending. -/
def outputIndexes (m : List (Nat × MapEntry)) : List Nat :=
  (m.filter (fun p => p.2.image.isSome)).map (·.1)

/-- The safe value of the image at an index is offered and the refresh timer restarts (R162). -/
def State.forceSafe (s : State) (i : Nat) : State :=
  match entryAt s.imap i with
  | some e =>
    match e.body with
    | .output o => s.offerCommand i o.safe
    | .input _ => s
  | none => s

/-- R162 and R169: every present image, in ascending index order, is offered its safe value. -/
def State.forceAllSafe (s : State) : State :=
  (outputIndexes s.imap).foldl State.forceSafe s

/-- R163 for one image: its outgoing command was the safe value while TRIPPED. -/
def State.returnOutput (s : State) (i : Nat) : State :=
  match entryAt s.imap i with
  | some e =>
    match e.body with
    | .output o => s.settleOutput i (some o.safe)
    | .input _ => s
  | none => s

/-- R163: at TRIP_RESET the outgoing command of every image changes as R160 gives. -/
def State.returnAllOutputs (s : State) : State :=
  (outputIndexes s.imap).foldl State.returnOutput s

/-- The observed position of a position entry: UNKNOWN while stale, missing or never sampled (R26, R164). -/
def observedValve (o : Option (Nat × MapEntry)) : Observed :=
  match o with
  | some p =>
    if p.2.isStale then .unknown
    else
      match p.2.lastValue with
      | some (.position .opened) => .opened
      | some (.position .closed) => .closed
      | some (.position .travel) => .travel
      | _ => .unknown
  | none => .unknown

/-- The COMP_STATE reading of a compressor; `none` while stale or missing (R164). -/
def State.reading (s : State) (c : CompId) : Option CompReading :=
  match s.compEntry .compState c with
  | some p =>
    if p.2.isStale then none
    else
      match p.2.lastValue with
      | some (.compressor r) => some r
      | _ => none
  | none => none

/-- The observed position of COMP_RUN (R164). -/
def observedRun : Option CompReading → Observed
  | some .stopped => .stop
  | some .runningFwd => .run
  | some .runningRev => .run
  | some .fault => .fault
  | none => .unknown

/-- The observed position of COMP_DIR (R164). -/
def observedDir : Option CompReading → Observed
  | some .stopped => .notRunning
  | some .runningFwd => .fwd
  | some .runningRev => .rev
  | some .fault => .fault
  | none => .unknown

/-- The observed position of an output role and owner (R164). -/
def State.observed (s : State) (r : Role) (owner : Nat) : Observed :=
  match r with
  | .liqCmd => observedValve (findRole s.imap .liqPos owner)
  | .vapCmd => observedValve (findRole s.imap .vapPos owner)
  | .compRun =>
    match compId owner with
    | some c => observedRun (s.reading c)
    | none => .unknown
  | .compDir =>
    match compId owner with
    | some c => observedDir (s.reading c)
    | none => .unknown
  | _ => .unknown

/-! ## The manifest -/

/-- The record at a position counted from 1 (R49). -/
def recordAt (m : List CarRecord) (position : Nat) : Option CarRecord :=
  match position with
  | 0 => none
  | n + 1 => m[n]?

/-- The position, counted from 1, of the record BOUND to a spot (R51). -/
def boundPosition (m : List CarRecord) (i : SpotId) : Option Nat :=
  match m with
  | [] => none
  | c :: rest => if c.status = .bound i then some 1 else (boundPosition rest i).map (· + 1)

/-- The record BOUND to a spot (R51). -/
def State.boundRecord (s : State) (i : SpotId) : Option CarRecord :=
  s.manifest.find? (fun c => decide (c.status = .bound i))

/-- Change the record BOUND to a spot. -/
def changeBound (m : List CarRecord) (i : SpotId) (f : CarRecord → CarRecord) : List CarRecord :=
  match m with
  | [] => []
  | c :: rest => if c.status = .bound i then f c :: rest else c :: changeBound rest i f

/-! ## Timers -/

/-- A running timer whose expiry falls now (log 3). -/
def due (deadline : Option Nat) (uptime : Nat) : Bool :=
  match deadline with
  | some t => t ≤ uptime
  | none => false

/-- The seconds left on a running timer, 0 once it is due (R88, log 28). -/
def secondsLeft (uptime : Nat) (deadline : Option Nat) : List Byte :=
  bytesOpt (deadline.map (fun t => bytes2 (t - uptime)))

end Sys2Proof.Machine
end

