-- ==== Sys2Proof/Machine/Flags.lean ====
section
/-! DEFINITION. Every set of flags the spec computes: conditions and changed latches (R31 to R35), STALE_INPUT (R92), live trip
conditions (R171), unavailability conditions (R139), end record flags (R54). -/

namespace Sys2Proof.Machine

/-! ## The condition set (R31) -/

/-- The entry is present, fresh and its last value is the discrete code 1 (BOND_OK, ARM_LIQ, ARM_VAP of R31). -/
def goodDiscrete (o : Option (Nat × MapEntry)) : Bool :=
  !staleEntry o && decide (lastOf o = some (.discrete .normal))

/-- The entry is present and either stale or with last value HIGH (TANK_HIGH of R31). -/
def highTank (o : Option (Nat × MapEntry)) : Bool :=
  staleEntry o || decide (lastOf o = some (.discrete .abnormal))

/-- The entry is an input entry a spot owns. -/
def ownedInput (i : SpotId) (e : MapEntry) : Bool :=
  decide (e.owner = spotNumber i) && (decide (e.role.ownerKind = .spot) || decide (e.role.ownerKind = .spotOrNone)) &&
    e.dynamic.isSome

/-- ANY_STALE of R31. A TAG entry with limit 0 never has its stale flag set (R19). -/
def anyStale (s : State) (i : SpotId) : Bool :=
  s.imap.any (fun p => ownedInput i p.2 && p.2.isStale) ||
    staleEntry (s.tankEntry .pTank i) || staleEntry (s.tankEntry .tankHigh i)

/-- The condition set of a spot as the map and the spot table give it, with UNKNOWN_TAG as the Spot Sequencer last
reported it (R31). -/
def conditionSet (s : State) (i : SpotId) (unknownTag : Bool) : Conditions where
  bondOk := goodDiscrete (s.spotEntry .bond i)
  armLiq := goodDiscrete (s.spotEntry .armLiq i)
  armVap := goodDiscrete (s.spotEntry .armVap i)
  tankHigh := highTank (s.tankEntry .tankHigh i)
  unknownTag := unknownTag
  anyStale := anyStale s i

/-- Member by member. -/
def Conditions.zip (f : Bool → Bool → Bool) (a b : Conditions) : Conditions :=
  ⟨f a.bondOk b.bondOk, f a.armLiq b.armLiq, f a.armVap b.armVap, f a.tankHigh b.tankHigh,
   f a.unknownTag b.unknownTag, f a.anyStale b.anyStale⟩

/-- The conditions whose value differs (R33). -/
def Conditions.changed (a b : Conditions) : Conditions := a.zip (fun x y => x != y) b

/-- Some member is set. -/
def Conditions.some (c : Conditions) : Bool :=
  c.bondOk || c.armLiq || c.armVap || c.tankHigh || c.unknownTag || c.anyStale

/-- R33 and R34 with the new values given: the latches of changed conditions are set, and one CHANGED notice is
offered if a latch went from clear to set. -/
def State.storeConditions (s : State) (i : SpotId) (now : Conditions) : State :=
  let old := s.conditions.get i
  let changed := old.values.changed now
  let latches := old.latches.zip (fun x y => x || y) changed
  let s' := { s with conditions := s.conditions.set i.val ⟨now, latches⟩ i.isLt }
  if (changed.zip (fun c l => c && !l) old.latches).some then
    s'.notice ([1, byte (spotNumber i)] ++ bytesSet now.members ++ bytesSet latches.members)
  else s'

/-- The IMAP re-evaluates a spot's condition set (R33). -/
def State.reevaluate (s : State) (i : SpotId) : State :=
  s.storeConditions i (conditionSet s i (s.values i).unknownTag)

/-- The Spot Sequencer reports UNKNOWN_TAG set or cleared, and the IMAP re-evaluates (R31, R33). -/
def State.reportUnknownTag (s : State) (i : SpotId) (b : Bool) : State :=
  if (s.values i).unknownTag = b then s else s.storeConditions i (conditionSet s i b)

/-- The spots an owner of a role concerns: the owning spot, or every spot whose record names the tank (R21, R33). -/
def concernedSpots (s : State) (r : Role) (owner : Nat) : List SpotId :=
  match r.ownerKind with
  | .spot => allSpots.filter (fun i => spotNumber i == owner)
  | .spotOrNone => allSpots.filter (fun i => spotNumber i == owner)
  | .tank => allSpots.filter (fun i => s.recordField i (·.tank) == owner && (s.record i).isSome)
  | .compressor => []

/-- Re-evaluate a list of spots in order (R33, R34). -/
def State.reevaluateAll (s : State) (l : List SpotId) : State := l.foldl State.reevaluate s

/-! ## Live causes -/

/-- At least one of the spot's METER, TEMP_LIQ and P_CAR and its tank's P_TANK is stale (R92). -/
def staleInput (s : State) (i : SpotId) : Bool :=
  staleEntry (s.spotEntry .meter i) || staleEntry (s.spotEntry .tempLiq i) ||
    staleEntry (s.spotEntry .pCar i) || staleEntry (s.tankEntry .pTank i)

/-- The last car pressure is above the maximum car pressure of the bound record (R90). -/
def pressureAbove (s : State) (i : SpotId) : Bool :=
  match s.carPressure i, s.boundRecord i with
  | some p, some r => decide ((r.maxPressure : Int) < p)
  | _, _ => false

/-- The causes that START, STOP and ABORT leave in the set: each live cause whose condition holds (R90). -/
def liveCauses (s : State) (i : SpotId) : Causes where
  tankHigh := (s.values i).tankHigh
  noCompressor := false
  staleInput := staleInput s i
  pressureHigh := pressureAbove s i
  requested := false
  meterSuspect := false
  excess := false

/-- The set holds a cause (R89). -/
def Causes.any (c : Causes) : Bool :=
  c.tankHigh || c.noCompressor || c.staleInput || c.pressureHigh || c.requested || c.meterSuspect || c.excess

/-- The set holds a live cause (R105). -/
def Causes.live (c : Causes) : Bool := c.tankHigh || c.noCompressor || c.staleInput || c.pressureHigh

/-! ## Live trip conditions (R171) -/

/-- A GAS entry in alarm or stale (R173). -/
def gasActive (e : MapEntry) : Bool :=
  decide (e.role = .gas) && (e.isStale || decide (e.lastValue = some (.discrete .abnormal)))

/-- The GAS entries in alarm or stale, ascending (R37). -/
def gasIndexes (m : List (Nat × MapEntry)) : List Nat := (m.filter (fun p => gasActive p.2)).map (·.1)

/-- The live conditions in member order: ESD_LINE, GAS, RING_SILENT, BAD_ADDRESS (R171, R192). -/
def liveConditions (s : State) : List Bool :=
  [s.sdu.esdAsserted, s.imap.any (fun p => gasActive p.2), s.sdu.ringSilent, s.rpu.address.isNone]

/-- Some live condition holds (R178). -/
def anyLive (s : State) : Bool := (liveConditions s).any (fun b => b)

/-- Two trip cause sets together. -/
def TripCauses.union (a b : TripCauses) : TripCauses :=
  ⟨a.powerOn || b.powerOn, a.reset || b.reset, a.esdLine || b.esdLine, a.gas || b.gas,
   a.ringSilent || b.ringSilent, a.requested || b.requested, a.badAddress || b.badAddress⟩

/-! ## Unavailability (R139) -/

/-- The entry found is missing or in MONITOR (R139). -/
def notDriven (o : Option (Nat × MapEntry)) : Bool :=
  match o with
  | some p =>
    match p.2.image with
    | some img => decide (img.direction = .monitor)
    | none => true
  | none => true

/-- The unavailability conditions of a compressor in member order (R139, R192). -/
def unavailability (s : State) (c : CompId) : List Bool :=
  [(s.comp c).record.isNone,
   (s.compEntry .compState c).isNone || staleEntry (s.compEntry .compState c),
   notDriven (s.compEntry .compRun c),
   notDriven (s.compEntry .compDir c)]

/-- Some unavailability condition holds (R139). -/
def unusable (s : State) (c : CompId) : Bool := (unavailability s c).any (fun b => b)

/-! ## Spot states -/

/-- The active states (00_scope.md, Terms). -/
def SpotState.active : SpotState → Bool
  | .opening => true
  | .pressurising => true
  | .unloading => true
  | .liquidClosing => true
  | .recovery => true
  | .closing => true
  | .suspended => true
  | .disabled => false
  | .vacant => false
  | .identified => false
  | .ready => false
  | .complete => false
  | .faulted => false

/-- The crediting states (R85). -/
def SpotState.crediting : SpotState → Bool
  | .pressurising => true
  | .unloading => true
  | .liquidClosing => true
  | .recovery => true
  | .closing => true
  | .suspended => true
  | .opening => false
  | .disabled => false
  | .vacant => false
  | .identified => false
  | .ready => false
  | .complete => false
  | .faulted => false

/-- What a spot saves when a non-empty cause set suspends it: only in PRESSURISING, UNLOADING and RECOVERY, with the
recovery sub-state (R65, R89, R97). RECOVERY always has a sub-state (R126). -/
def savedOf (st : SpotState) (sub : Option SubState) : Option Saved :=
  match st with
  | .pressurising => some .pressurising
  | .unloading => some .unloading
  | .recovery => some (.recovery (sub.getD .pass))
  | .opening => none
  | .liquidClosing => none
  | .closing => none
  | .suspended => none
  | .disabled => none
  | .vacant => none
  | .identified => none
  | .ready => none
  | .complete => none
  | .faulted => none

/-- A spot that map and table loads find in use: any state but VACANT, DISABLED and COMPLETE (R21, R39). -/
def SpotState.inUse : SpotState → Bool
  | .vacant => false
  | .disabled => false
  | .complete => false
  | .identified => true
  | .ready => true
  | .faulted => true
  | .opening => true
  | .pressurising => true
  | .unloading => true
  | .liquidClosing => true
  | .recovery => true
  | .closing => true
  | .suspended => true

/-- The spot is in an active state. -/
def State.isActive (s : State) (i : SpotId) : Bool := (s.spot i).state.active

/-! ## Rate window (R185) -/

/-- The number of rates held. -/
def RateWindow.count (w : RateWindow) : Nat := (w.places.toList.filter Option.isSome).length

/-- The sum of the rates held. -/
def RateWindow.sum (w : RateWindow) : Nat := (w.places.toList.map (fun o => o.getD 0)).sum

/-- A rate is stored at the next position, overwriting what stood there (R185). -/
def RateWindow.add (w : RateWindow) (q : Nat) : RateWindow :=
  ⟨w.places.set w.next.val (some q) w.next.isLt, w.next + 1⟩

/-- The liquid end test of R71: 8 rates held, and their truncated mean below the heel rate. -/
def RateWindow.below (w : RateWindow) (heelRate : Nat) : Bool :=
  decide (w.count = 8) && decide (w.sum / 8 < heelRate)

end Sys2Proof.Machine
end

