-- ==== Sys2Proof/Machine/Notices.lean ====
section
/-! DEFINITION. The notices the blocks offer and the spot report they carry (R88, R184, R186 to R188). -/

namespace Sys2Proof.Machine

/-- The position of the record a spot's report shows: bound, else last-held, else none (R56). -/
def State.shownPosition (s : State) (i : SpotId) : Option Nat :=
  match boundPosition s.manifest i with
  | some p => some p
  | none => (s.spot i).lastHeld

/-- The code of a saved state (R97, R192). -/
def Saved.code (v : Saved) : Byte := v.state.code

/-- READ_SPOT section 1 (R184, R193; log 17). -/
def spotSection1 (s : State) (i : SpotId) : List Byte :=
  let x := s.spot i
  [x.state.code]
    ++ bytesOpt (x.saved.map (fun v => [v.code]))
    ++ bytesOpt ((x.saved.bind Saved.sub).map (fun v => [v.code]))
    ++ bytesOpt ((s.shownPosition i).map (fun p => [byte p]))
    ++ bytesSet x.causes.members
    ++ [x.grant.code, x.demand.code]
    ++ bytesOpt (x.sub.map (fun v => [v.code]))
    ++ [byte x.passCount]
    ++ bytesMark x.stopMark
    ++ bytesOpt (x.pendingOutcome.map (fun v => [v.code]))
    ++ bytesMark x.heel
    ++ bytesMark x.excessSeen
    ++ bytesMark x.excessAck
    ++ bytesMark x.liquidConfirmed
    ++ bytes8 x.acc.net

/-- The standing mark of a spot (R186). -/
def State.standing (s : State) (i : SpotId) : Bool := s.mgu.standing.get i

/-- Set or clear the standing mark of a spot (R186). -/
def State.setStanding (s : State) (i : SpotId) (b : Bool) : State :=
  { s with mgu := { s.mgu with standing := s.mgu.standing.set i.val b i.isLt } }

/-- The Management Unit offers the spot report where the spot's standing mark is set (R187). -/
def State.standingReport (s : State) (i : SpotId) : State :=
  if s.standing i then s.notice ([6, byte (spotNumber i)] ++ spotSection1 s i) else s

/-- The SPOT_STATE notice of a spot, followed at once by its standing report (R88, R187). -/
def State.announce (s : State) (i : SpotId) : State :=
  let x := s.spot i
  (s.notice ([2, byte (spotNumber i), x.state.code] ++ bytesOpt (x.saved.map (fun v => [v.code])))).standingReport i

/-- Set a spot's state, with no notice yet. -/
def State.setState (s : State) (i : SpotId) (st : SpotState) : State :=
  s.modSpot i (fun x => { x with state := st })

/-- A spot state change and its notices. -/
def State.changeState (s : State) (i : SpotId) (st : SpotState) : State :=
  (s.setState i st).announce i

/-- The TRANSFER_END notice (R75, R188). -/
def State.transferEndNotice (s : State) (i : SpotId) (position : Nat) (outcome : Ending) : State :=
  s.notice [3, byte (spotNumber i), byte position, outcome.code]

/-- The COMPRESSOR notice (R156). -/
def State.compressorNotice (s : State) (c : CompId) : State :=
  s.notice ([5, byte (compNumber c), (s.comp c).level.code] ++ bytesSet (unavailability s c))

/-- The TRIP notice with the causes the entering event added (R175, R180). -/
def State.tripNotice (s : State) (added : TripCauses) : State :=
  s.notice ([4] ++ bytes4 s.sdu.entryUptime ++ bytesSet s.sdu.causes.members ++ bytesSet added.members ++
    bytesSet (liveConditions s))

end Sys2Proof.Machine
end

