-- ==== Sys2Proof/Machine/Compressors.lean ====
section
/-! DEFINITION. The Compressor Coordinator: demand, levels, the attach arbiter, starts and stops (chapter 8), up to the reports it
makes to the spots. -/

namespace Sys2Proof.Machine

/-! ## Standing of a spot and resolved demand -/

/-- The Coordinator's answer to a spot (R147). -/
inductive Answer where
  | attached (c : CompId) | waiting | detached
  deriving DecidableEq, Repr

/-- The compressor a spot is attached to. -/
def State.attachedTo (s : State) (i : SpotId) : Option CompId :=
  allComps.find? (fun c => (s.comp c).attached.contains i)

/-- Where a spot stands: attached, or waiting on the list or at a deferred start, or detached (R142, R147). -/
def State.standingAnswer (s : State) (i : SpotId) : Answer :=
  match s.attachedTo i with
  | some c => if (s.comp c).deferred then .waiting else .attached c
  | none => if s.waitList.contains i then .waiting else .detached

/-- The demand of a list of attached spots together (R141). -/
def resolveDemand (l : List Demand) : Demand :=
  if l.contains .push then .push
  else if l.contains .recover then .recover
  else if l.contains .hold then .hold
  else .none

/-- The resolved demand of a compressor (R141). -/
def State.resolved (s : State) (c : CompId) : Demand :=
  resolveDemand ((s.comp c).attached.map (fun i => (s.spot i).demand))

/-- The direction of a compressor: the command in its COMP_DIR latch, none while no COMP_DIR entry is present (R137). -/
def State.direction (s : State) (c : CompId) : Option Command :=
  match s.compEntry .compDir c with
  | some p => p.2.image.map (·.latch)
  | none => none

/-- A field of the compressor record, read when a rule uses it (R44); an empty slot holds the compressor
UNAVAILABLE, where no rule reads one. -/
def State.compField (s : State) (c : CompId) (f : CompRecord → Nat) : Nat :=
  match (s.comp c).record with
  | some r => f r
  | none => 0

/-! ## Reports of the RECOVER level (R127, R144) -/

/-- The level of the compressor a grant names is RECOVER (R127). -/
def State.pulling (s : State) (g : Grant) : Bool :=
  match g with
  | .compressor c => decide ((s.comp c).level = .recover)
  | .none => false
  | .waiting => false

/-- R127: in RECOVERY with sub-state PASS the pass timer runs exactly while the spot's compressor is at RECOVER; it
starts for the full pass limit and, when it stops, the time it had run is discarded. -/
def State.syncPass (s : State) (i : SpotId) : State :=
  let x := s.spot i
  if x.state = .recovery ∧ x.sub = some .pass then
    if s.pulling x.grant then
      match x.pass with
      | some _ => s
      | none => s.modSpot i (fun x => { x with pass := some (s.uptime + s.recordField i (·.passLimit)) })
    else s.modSpot i (fun x => { x with pass := none })
  else s

/-- A change of a compressor's level; a change into or out of RECOVER is reported to each attached spot in
ascending order (R144). -/
def State.setLevel (s : State) (c : CompId) (l : Level) : State :=
  let x := s.comp c
  let s' := s.modComp c (fun x => { x with level := l })
  if (x.level = .recover ∧ l ≠ .recover) ∨ (x.level ≠ .recover ∧ l = .recover) then
    x.attached.foldl State.syncPass s'
  else s'

/-! ## Timers of a compressor -/

/-- The confirmation timer starts, for the start timeout of the record (R151). -/
def State.startConfirmation (s : State) (c : CompId) (awaits : CompReading) : State :=
  s.modComp c (fun x => { x with confirm := some ⟨s.uptime + s.compField c (·.startTimeout), awaits⟩ })

/-- The popdown timer starts, for the popdown window of the record (R149). -/
def State.startPopdown (s : State) (c : CompId) : State :=
  s.modComp c (fun x => { x with popdown := some (s.uptime + s.compField c (·.popdown)) })

/-- STOP is commanded and a stopped report awaited (R149, R152, R154). -/
def State.stopCompressor (s : State) (c : CompId) : State :=
  ((s.writeComp .compRun c .stop).setLevel c .stopping).startConfirmation c .stopped

/-- The direction is changed and the running report in it awaited (R141). -/
def State.reverseTo (s : State) (c : CompId) (cmd : Command) (awaits : CompReading) : State :=
  ((s.writeComp .compDir c cmd).setLevel c .reversing).startConfirmation c awaits

/-- The popdown timer stops and the HELD_BY_CYCLE_LIMIT mark is cleared (R141). -/
def State.clearIdle (s : State) (c : CompId) : State :=
  s.modComp c (fun x => { x with popdown := none, held := false })

/-- R141: in IDLE_RUN, PUSH and RECOVER the level is brought into line with the resolved demand. -/
def State.followDemand (s : State) (c : CompId) : State :=
  match s.resolved c with
  | .push =>
    if s.direction c = some .fwd then (s.clearIdle c).setLevel c .push
    else (s.clearIdle c).reverseTo c .fwd .runningFwd
  | .recover =>
    if s.direction c = some .rev then (s.clearIdle c).setLevel c .recover
    else (s.clearIdle c).reverseTo c .rev .runningRev
  | .hold => (s.clearIdle c).setLevel c .idleRun
  | .none => (s.setLevel c .idleRun).startPopdown c

/-- The direction a start needs (R142): FWD for PUSH, REV for RECOVER, the present one for HOLD. -/
def State.startDirection (s : State) (c : CompId) : Option Command :=
  match s.resolved c with
  | .push => some .fwd
  | .recover => some .rev
  | .hold => s.direction c
  | .none => s.direction c

/-- The running report that confirms a start or reversal in a direction (R151). -/
def awaitedRunning : Option Command → CompReading
  | some .rev => .runningRev
  | _ => .runningFwd

/-- The start decision of R142 up to its answers: the compressor starts, or the start is deferred. -/
def State.startDecision (s : State) (c : CompId) : State :=
  if (s.comp c).history.length < s.compField c (·.startLimit) then
    let d := s.startDirection c
    let s := match d with
      | some cmd => s.writeComp .compDir c cmd
      | none => s
    let s := s.writeComp .compRun c .run
    let s := s.modComp c (fun x => { x with history := x.history ++ [s.uptime], deferred := false })
    (s.setLevel c .starting).startConfirmation c (awaitedRunning d)
  else s.modComp c (fun x => { x with deferred := true })

/-- A compressor acts on its resolved demand, which was `old` before the change (R141, R142, R145). -/
def State.actOn (s : State) (c : CompId) (old : Demand) : State :=
  let now := s.resolved c
  if now = old then s
  else
    match (s.comp c).level with
    | .stopped =>
      if now = .none then s.modComp c (fun x => { x with deferred := false })
      else if old = .none then s.startDecision c
      else s
    | .idleRun => s.followDemand c
    | .push => s.followDemand c
    | .recover => s.followDemand c
    | .starting => s
    | .reversing => s
    | .stopping => s
    | .unavailable => s

/-- Each compressor acts on its new resolved demand, in ascending order; those it did not change for do nothing (R147). -/
def State.actAll (s before : State) : State :=
  allComps.foldl (fun t c => t.actOn c (before.resolved c)) s

/-! ## The attach arbiter (R145 to R147) -/

/-- The opposite direction's demand (R145). -/
def opposite : Demand → Option Demand
  | .push => some .recover
  | .recover => some .push
  | .hold => none
  | .none => none

/-- Some spot attached to the compressor, other than `i`, demands the opposite of `d` (R145, R147). -/
def State.conflicts (s : State) (c : CompId) (i : SpotId) (d : Demand) : Bool :=
  (s.comp c).attached.any (fun j => decide (j ≠ i) && decide (some (s.spot j).demand = opposite d))

/-- The compressor can take the spot, which demands PUSH or RECOVER (R145). -/
def State.canTake (s : State) (c : CompId) (i : SpotId) : Bool :=
  decide ((s.comp c).level ≠ .unavailable) && decide ((s.comp c).attached.length < Config.branches) &&
    !s.conflicts c i (s.spot i).demand

/-- The compressor that takes the spot: its primary, else its alternate (R145, R148). -/
def State.taker (s : State) (i : SpotId) : Option CompId :=
  match s.record i with
  | some r =>
    if s.canTake r.primary i then some r.primary
    else
      match r.alternate with
      | some a => if s.canTake a i then some a else none
      | none => none
  | none => none

/-- A spot among attached spots, in ascending order (log 15). -/
def insertSpot (i : SpotId) (l : List SpotId) : List SpotId :=
  match l with
  | [] => [i]
  | j :: rest => if i < j then i :: j :: rest else if i = j then j :: rest else j :: insertSpot i rest

/-- Attach a spot to a compressor. -/
def State.attach (s : State) (c : CompId) (i : SpotId) : State :=
  s.modComp c (fun x => { x with attached := insertSpot i x.attached })

/-- Detach a spot from a compressor. -/
def State.detach (s : State) (c : CompId) (i : SpotId) : State :=
  s.modComp c (fun x => { x with attached := x.attached.filter (fun j => j != i) })

/-- A spot leaves the wait list (R146). -/
def State.leaveList (s : State) (i : SpotId) : State :=
  { s with waitList := s.waitList.filter (fun j => j != i) }

/-- A spot joins the tail of the wait list, where it is not already on it (R146). -/
def State.joinList (s : State) (i : SpotId) : State :=
  if s.waitList.contains i then s else { s with waitList := s.waitList ++ [i] }

/-- A spot applies: its primary, its alternate, or the tail of the wait list (R145). -/
def State.applySpot (s : State) (i : SpotId) : State :=
  match s.taker i with
  | some c => s.attach c i
  | none => s.joinList i

/-- The demand asks for flow: PUSH or RECOVER. -/
def Demand.flows : Demand → Bool
  | .push => true
  | .recover => true
  | .hold => false
  | .none => false

/-- The Coordinator first detaches and attaches (R147): what a change of the spot's demand, already stored, does
to its place. -/
def State.place (s : State) (i : SpotId) : State :=
  let d := (s.spot i).demand
  match s.attachedTo i with
  | some c =>
    match d with
    | .none => s.detach c i
    | .hold => s
    | .push => if s.conflicts c i d then (s.detach c i).applySpot i else s
    | .recover => if s.conflicts c i d then (s.detach c i).applySpot i else s
  | none =>
    if s.waitList.contains i then
      if d.flows then s else s.leaveList i
    else if d.flows then s.applySpot i
    else s

/-- The grant an answer gives a spot with a demand (R94). Demand NONE is answered detached, so no grant stands beside it
(R147). -/
def grantOf (a : Answer) (d : Demand) : Grant :=
  match a with
  | .attached c => if d = .none then .none else .compressor c
  | .waiting => if d.flows then .waiting else .none
  | .detached => .none

/-- The spot's grant takes the Coordinator's answer, and its pass timer follows (R94, R127). -/
def State.takeGrant (s : State) (i : SpotId) : State :=
  (s.modSpot i (fun x => { x with grant := grantOf (s.standingAnswer i) x.demand })).syncPass i

/-- The Spot Sequencer sets a spot's demand and hands the change to the Coordinator, which detaches and attaches,
lets each compressor act and answers (R57, R147). What the spot makes of the answer is `takeReport`. The
grant scan falls at the end of the event (R148, log 12). -/
def State.handDemand (s : State) (i : SpotId) (d : Demand) : State :=
  if (s.spot i).demand = d then s
  else
    let t := (s.modSpot i (fun x => { x with demand := d })).place i
    (t.actAll s).takeGrant i

end Sys2Proof.Machine
end

