-- ==== Sys2Proof/Machine/Spots.lean ====
section
/-! DEFINITION. The Spot Sequencer: suspension and return (chapter 5), the transfer sequence (chapter 4), recovery (chapter 7), transfer
endings and end records (R54, R75), tags and readiness (R59 to R62), and the grant scan that answers waiting spots (R148). -/

namespace Sys2Proof.Machine

/-! ## Timers of a spot -/

/-- The travel timer starts with its awaited position, for the valve travel limit (R66). -/
def State.startTravel (s : State) (i : SpotId) (r : Role) (p : Position) : State :=
  s.modSpot i (fun x => { x with travel := some ⟨s.uptime + s.recordField i (·.travelLimit), r, p⟩ })

/-- The pressurise timer starts (R70). -/
def State.startPressurise (s : State) (i : SpotId) : State :=
  s.modSpot i (fun x => { x with pressurise := some (s.uptime + s.recordField i (·.pressuriseLimit)) })

/-- The suspend timer starts (R99). -/
def State.startSuspend (s : State) (i : SpotId) : State :=
  s.modSpot i (fun x => { x with suspendTimer := some (s.uptime + s.recordField i (·.suspendLimit)) })

/-- The settle timer starts (R129, R102). -/
def State.startSettle (s : State) (i : SpotId) : State :=
  s.modSpot i (fun x => { x with settle := some (s.uptime + s.recordField i (·.settleTime)) })

/-! ## Suspension and return (R97 to R102) -/

/-- The demand a saved state needs (R98, R100). -/
def Saved.demand : Saved → Demand
  | .pressurising => .push
  | .unloading => .push
  | .recovery .pass => .recover
  | .recovery .settle => .none

/-- The demand becomes HOLD; where the Coordinator does not answer an attachment it becomes NONE (R94). -/
def State.handHold (s : State) (i : SpotId) : State :=
  let t := s.handDemand i .hold
  match t.standingAnswer i with
  | .attached _ => t
  | .waiting => t.handDemand i .none
  | .detached => t.handDemand i .none

/-- R98: the demand of a suspended spot follows its grant. -/
def State.followGrant (s : State) (i : SpotId) (v : Saved) : State :=
  match (s.spot i).grant with
  | .compressor _ => s.handHold i
  | .waiting => s.handDemand i v.demand
  | .none => s.handDemand i .none

/-- R97: the transfer enters SUSPENDED with `v` saved. The state is set before the demand is handed, so that the
pass timer stays stopped; the notice comes last (log 14). -/
def State.enterSuspended (s : State) (i : SpotId) (v : Saved) : State :=
  let s := s.modSpot i (fun x =>
    { x with saved := some v, travel := none, pressurise := none, pass := none, settle := none,
             liquidConfirmed := false })
  let s := s.writeValve .liqCmd i .closed
  let s := s.setState i .suspended
  let s := s.followGrant i v
  (s.startSuspend i).announce i

/-- A completed return (R100 to R102). -/
def State.completeReturn (s : State) (i : SpotId) (v : Saved) : State :=
  let s := s.modSpot i (fun x => { x with suspendTimer := none, saved := none, state := v.state, sub := v.sub })
  let s :=
    match v with
    | .pressurising => s.startPressurise i
    | .unloading =>
      let s := s.writeValve .liqCmd i .opened
      let s := s.modSpot i (fun x => { x with liquidConfirmed := false, window := .empty })
      s.startTravel i .liqPos .opened
    | .recovery .pass => s.syncPass i
    | .recovery .settle => s.startSettle i
  s.announce i

/-- Set or clear NO_COMPRESSOR, with no test yet. -/
def State.setNoCompressor (s : State) (i : SpotId) (b : Bool) : State :=
  s.modSpot i (fun x => { x with causes := { x.causes with noCompressor := b } })

/-- R100: the return attempt of a suspended spot whose cause set is empty. -/
def State.returnAttempt (s : State) (i : SpotId) : State :=
  match (s.spot i).saved with
  | none => s
  | some v =>
    if v.demand = .none then s.completeReturn i v
    else
      let t := s.handDemand i v.demand
      match (t.spot i).grant with
      | .compressor _ => (t.setNoCompressor i false).completeReturn i v
      | .waiting => t.setNoCompressor i true
      | .none => t.setNoCompressor i true

/-- R89: the suspension test after an event that changes the cause set. -/
def State.causeTest (s : State) (i : SpotId) : State :=
  let x := s.spot i
  if x.causes.any then
    match savedOf x.state x.sub with
    | some v => s.enterSuspended i v
    | none => s
  else if x.state = .suspended then s.returnAttempt i
  else s

/-- The cause set of a spot in an active state changes, and the test is made (R89). -/
def State.changeCauses (s : State) (i : SpotId) (f : Causes → Causes) : State :=
  if s.isActive i then
    let x := s.spot i
    if f x.causes = x.causes then s
    else (s.modSpot i (fun x => { x with causes := f x.causes })).causeTest i
  else s

/-- R94: what a spot in an active state makes of the Coordinator's answer. -/
def State.takeReport (s : State) (i : SpotId) : State :=
  let t := s.takeGrant i
  if s.isActive i then
    let x := s.spot i
    match s.standingAnswer i with
    | .attached _ =>
      let t := t.setNoCompressor i false
      if x.state = .suspended then
        if (t.spot i).causes.any then t.handHold i else t.returnAttempt i
      else t
    | .waiting =>
      match x.demand with
      | .push => (t.setNoCompressor i true).causeTest i
      | .recover => (t.setNoCompressor i true).causeTest i
      | .hold => t.handDemand i .none
      | .none => t
    | .detached =>
      match x.demand with
      | .push => t
      | .recover => t
      | .hold => t.handDemand i .none
      | .none => t.setNoCompressor i false
  else t

/-! ## The grant scan (R148) -/

/-- The first spot along a list that its primary or its alternate can take (R148). -/
def State.firstTakeable (s : State) : List SpotId → Option (SpotId × CompId)
  | [] => none
  | i :: rest =>
    match s.taker i with
    | some c => some (i, c)
    | none => s.firstTakeable rest

/-- One grant: the spot leaves the list and is attached, the compressor acts, and the spot is answered (R148). -/
def State.grantSpot (s : State) (i : SpotId) (c : CompId) : State :=
  (((s.leaveList i).attach c i).actAll s).takeReport i

/-- The grant scan, at most `n` grants long: the first spot that can be taken is granted, and the scan begins again from
the head (R148). -/
def grantScan : Nat → State → State
  | 0, s => s
  | n + 1, s =>
    match s.firstTakeable s.waitList with
    | none => s
    | some (i, c) => grantScan n (s.grantSpot i c)

/-- The grant scan at the end of an event (R148, log 12). Each grant takes a spot off the list and no answer puts one
on it, so the list's length bounds the grants. -/
def State.endScan (s : State) : State := grantScan s.waitList.length s

/-! ## The main sequence (R68 to R74) -/

/-- HOLD if the spot holds a grant of a compressor, NONE if it does not (R72, R77). -/
def State.holdOrNone (s : State) (i : SpotId) : State :=
  match (s.spot i).grant with
  | .compressor _ => s.handHold i
  | .waiting => s.handDemand i .none
  | .none => s.handDemand i .none

/-- R68: VAP_POS OPEN is confirmed in OPENING. -/
def State.enterPressurising (s : State) (i : SpotId) : State :=
  let s := s.modSpot i (fun x => { x with travel := none, state := .pressurising })
  let s := (s.startPressurise i).handDemand i .push
  ((s.announce i).takeReport i).causeTest i

/-- R69: the pressure differential reaches the start difference. -/
def State.enterUnloading (s : State) (i : SpotId) : State :=
  let s := s.modSpot i (fun x => { x with pressurise := none })
  let s := s.writeValve .liqCmd i .opened
  let s := s.modSpot i (fun x => { x with liquidConfirmed := false, window := .empty, state := .unloading })
  (s.startTravel i .liqPos .opened).announce i

/-- R71: LIQ_POS OPEN is confirmed in UNLOADING. -/
def State.liquidOpened (s : State) (i : SpotId) : State :=
  s.modSpot i (fun x => { x with travel := none, liquidConfirmed := true, window := .empty })

/-- The entry to LIQUID_CLOSING that liquid end and STOP share (R72, R77). -/
def State.enterLiquidClosing (s : State) (i : SpotId) : State :=
  let s := s.writeValve .liqCmd i .closed
  let s := (s.setState i .liquidClosing).startTravel i .liqPos .closed
  (s.holdOrNone i).announce i

/-- R73: LIQ_POS CLOSED is confirmed in LIQUID_CLOSING. -/
def State.enterRecovery (s : State) (i : SpotId) : State :=
  let s := s.modSpot i (fun x => { x with travel := none, state := .recovery, sub := some .pass, passCount := 0 })
  let s := s.handDemand i .recover
  ((s.announce i).takeReport i).causeTest i

/-- R129: a recovery pass ends. -/
def State.endPass (s : State) (i : SpotId) : State :=
  let s := s.modSpot i (fun x => { x with pass := none, passCount := x.passCount + 1, sub := some .settle })
  (s.handDemand i .none).startSettle i

/-- R130: a new pass begins at a settle expiry. -/
def State.beginPass (s : State) (i : SpotId) : State :=
  let s := s.modSpot i (fun x => { x with settle := none, sub := some .pass })
  (s.handDemand i .recover).takeReport i

/-- The pending outcome recovery gives (R131). -/
def recoveryOutcome (settled stopMark : Bool) : Ending :=
  if stopMark then .stopped else if settled then .delivered else .deliveredHeel

/-- R131 and R74: recovery ends and the spot enters CLOSING. -/
def State.endRecovery (s : State) (i : SpotId) (settled : Bool) : State :=
  let s := s.modSpot i (fun x =>
    { x with settle := none, sub := none, heel := !settled,
             pendingOutcome := some (recoveryOutcome settled x.stopMark) })
  let s := s.writeValve .vapCmd i .closed
  ((s.setState i .closing).startTravel i .vapPos .closed).announce i

/-- R130 at the expiry of the settle timer: the last car pressure against the residual target plus the rebound
allowance. Nothing falls where the spot has no bound record or P_CAR value, which R63 rules out (log 24). -/
def State.settleTest (s : State) (i : SpotId) : State :=
  match s.carPressure i, s.boundRecord i with
  | some p, some r =>
    if p ≤ (r.residual : Int) + (s.recordField i (·.rebound) : Int) then s.endRecovery i true
    else if (s.spot i).passCount < Config.passMaximum then s.beginPass i
    else s.endRecovery i false
  | _, _ => s

/-! ## Transfer endings (R54, R75) -/

/-- The end record of a bound period with the given figures, passes and marks (R54). -/
def endRecordOf (s : State) (i : SpotId) (r : CarRecord) (o : Ending) (a : Accumulators) (passes : Nat)
    (excessSeen heel : Bool) : EndRecord where
  spot := i
  outcome := o
  credited := a.credited
  rejected := a.rejected
  gross := a.gross
  net := a.net
  mass := a.mass
  remaining := r.declared * 1000 - a.net
  passes := passes
  finalPressure := s.carPressure i
  tempClamped := a.tempClamped
  short := decide (a.net < r.declared * 900)
  excessSeen := excessSeen
  heel := heel

/-- The end record is written into the record BOUND to the spot, which becomes DONE, and the spot's link names it
(R54, R75). A record never started is written from zero figures (R54, R79, log 33). -/
def State.writeEndRecord (s : State) (i : SpotId) (o : Ending) (started : Bool) : State :=
  let x := s.spot i
  let write := fun (r : CarRecord) =>
    { r with
      status := .done
      endRecord := some
        (if started then endRecordOf s i r o x.acc x.passCount x.excessSeen x.heel
         else endRecordOf s i r o .zero 0 false false) }
  let held := boundPosition s.manifest i
  ({ s with manifest := changeBound s.manifest i write }).modSpot i (fun x => { x with lastHeld := held })

/-- Every running timer of the spot stops (R75). -/
def State.stopTimers (s : State) (i : SpotId) : State :=
  s.modSpot i (fun x =>
    { x with travel := none, pressurise := none, suspendTimer := none, pass := none, settle := none })

/-- CLOSED is written into both valve latches of the spot (R75, R78). -/
def State.closeValves (s : State) (i : SpotId) : State :=
  (s.writeValve .liqCmd i .closed).writeValve .vapCmd i .closed

/-- R75: a transfer ends, up to the notices. -/
def State.finishTransfer (s : State) (i : SpotId) (o : Ending) (st : SpotState) (started : Bool) : State :=
  let s := ((s.stopTimers i).closeValves i).handDemand i .none
  let s := s.modSpot i (fun x => { x with grant := .none, causes := .empty, saved := none, sub := none })
  (s.writeEndRecord i o started).setState i st

/-- R75: a transfer ends with an outcome in a state; the state notice and then the transfer end notice are offered. -/
def State.endTransfer (s : State) (i : SpotId) (o : Ending) (st : SpotState) (started : Bool) : State :=
  match boundPosition s.manifest i with
  | some p => ((s.finishTransfer i o st started).announce i).transferEndNotice i p o
  | none => (s.finishTransfer i o st started).announce i

/-- R80: a fault ends a transfer in an active state. -/
def State.faultSpot (s : State) (i : SpotId) (o : Ending) : State :=
  if s.isActive i then s.endTransfer i o .faulted true else s

/-- VACANT if the spot's record has enabled set to yes, DISABLED otherwise (R82, R83, R87). -/
def State.restState (s : State) (i : SpotId) : SpotState :=
  match s.record i with
  | some r => if r.enabled then .vacant else .disabled
  | none => .disabled

/-! ## Readiness, bond and arms (R62, R80) -/

/-- BOND_OK, ARM_LIQ and ARM_VAP are all true (R62). -/
def State.allConnected (s : State) (i : SpotId) : Bool :=
  (s.values i).bondOk && (s.values i).armLiq && (s.values i).armVap

/-- R62: the spot moves between IDENTIFIED and READY as the conditions stand. -/
def State.readiness (s : State) (i : SpotId) : State :=
  match (s.spot i).state with
  | .identified => if s.allConnected i then s.changeState i .ready else s
  | .ready => if s.allConnected i then s else s.changeState i .identified
  | _ => s

/-- A bond or arm sample is delivered: a false condition is a fault in an active state (R80), otherwise R62. -/
def State.connectionReport (s : State) (i : SpotId) (holds : Bool) (o : Ending) : State :=
  if s.isActive i then (if holds then s else s.faultSpot i o) else s.readiness i

/-- A bond or arm entry goes stale: bond lost, or arm disconnected (R30). -/
def State.connectionLost (s : State) (i : SpotId) (o : Ending) : State :=
  if s.isActive i then s.faultSpot i o
  else if (s.spot i).state = .ready then s.changeState i .identified
  else s

/-! ## Tags (R59 to R61) -/

/-- The first WAITING record whose car number equals the tag becomes BOUND to the spot (R59). -/
def bindFirst (m : List CarRecord) (i : SpotId) (chars : List Byte) : Option (List CarRecord) :=
  match m with
  | [] => none
  | c :: rest =>
    if c.status = .waiting ∧ c.car = chars then some ({ c with status := .bound i } :: rest)
    else (bindFirst rest i chars).map (fun l => c :: l)

/-- R59: a tag is matched against the manifest for a VACANT spot. The report of UNKNOWN_TAG is a re-evaluation of its own
(log 35). -/
def State.matchTag (s : State) (i : SpotId) (chars : List Byte) : State :=
  match bindFirst s.manifest i chars with
  | some m =>
    let s := ({ s with manifest := m }).modSpot i (fun x => { x with lastHeld := none })
    ((s.reportUnknownTag i false).changeState i .identified).readiness i
  | none => s.reportUnknownTag i true

/-- The bound record returns to WAITING at its place, and the spot's links become none (R60, R87). -/
def State.unbind (s : State) (i : SpotId) : State :=
  ({ s with manifest := changeBound s.manifest i (fun c => { c with status := .waiting }) }).modSpot i
    (fun x => { x with lastHeld := none })

/-- The tag equals the car number of the bound record (R60, R61). -/
def State.sameCar (s : State) (i : SpotId) (chars : List Byte) : Bool :=
  match s.boundRecord i with
  | some r => decide (r.car = chars)
  | none => false

/-- A tag sample is delivered to a spot (R58 to R61). Where another tag matches no record, the SPOT_STATE notice of VACANT is
offered before the CHANGED notice of UNKNOWN_TAG (R60 against R28 and R188: log 43, DESIGN CHOICE). -/
def State.deliverTag (s : State) (i : SpotId) (chars : List Byte) : State :=
  match (s.spot i).state with
  | .vacant => s.matchTag i chars
  | .identified => if s.sameCar i chars then s else ((s.unbind i).changeState i .vacant).matchTag i chars
  | .ready => if s.sameCar i chars then s else ((s.unbind i).changeState i .vacant).matchTag i chars
  | .disabled => s
  | .complete => s
  | .faulted => s
  | .opening => if s.sameCar i chars then s else s.faultSpot i .faultCarMismatch
  | .pressurising => if s.sameCar i chars then s else s.faultSpot i .faultCarMismatch
  | .unloading => if s.sameCar i chars then s else s.faultSpot i .faultCarMismatch
  | .liquidClosing => if s.sameCar i chars then s else s.faultSpot i .faultCarMismatch
  | .recovery => if s.sameCar i chars then s else s.faultSpot i .faultCarMismatch
  | .closing => if s.sameCar i chars then s else s.faultSpot i .faultCarMismatch
  | .suspended => if s.sameCar i chars then s else s.faultSpot i .faultCarMismatch

/-! ## Pressures and positions -/

/-- R69: the pressure differential test in PRESSURISING. -/
def State.differentialTest (s : State) (i : SpotId) : State :=
  match s.carPressure i, s.tankPressure i with
  | some p, some t => if (s.recordField i (·.dpStart) : Int) ≤ p - t then s.enterUnloading i else s
  | _, _ => s

/-- R93: PRESSURE_HIGH after a car pressure sample. -/
def pressureCause (maximum : Nat) (p : Int) (c : Causes) : Causes :=
  if (maximum : Int) < p then { c with pressureHigh := true }
  else if p ≤ (maximum : Int) - 20 then { c with pressureHigh := false }
  else c

/-- A P_CAR sample is delivered to a spot: PRESSURE_HIGH first (R93), then the test of the state the spot was and
still is in: the differential test of R69 in PRESSURISING, the pass test of R128 in RECOVERY PASS (log 37). -/
def State.deliverCarPressure (s : State) (i : SpotId) (p : Int) : State :=
  match s.boundRecord i with
  | none => s
  | some r =>
    let x := s.spot i
    let t := s.changeCauses i (pressureCause r.maxPressure p)
    let y := t.spot i
    if x.state = .pressurising ∧ y.state = .pressurising then t.differentialTest i
    else if x.state = .recovery ∧ y.state = .recovery ∧ y.sub = some .pass ∧ p ≤ (r.residual : Int) then t.endPass i
    else t

/-- A P_TANK sample is delivered to a spot of the tank (R69). -/
def State.deliverTankPressure (s : State) (i : SpotId) : State :=
  if (s.spot i).state = .pressurising then s.differentialTest i else s

/-- A position sample is delivered to a spot: it confirms the awaited position of a running travel timer, and the rule
of the state acts (R66 to R68, R71, R73, R76). -/
def State.deliverPosition (s : State) (i : SpotId) (r : Role) (p : Position) : State :=
  let x := s.spot i
  match x.travel with
  | none => s
  | some t =>
    if t.role = r ∧ t.position = p then
      match x.state with
      | .opening => s.enterPressurising i
      | .unloading => s.liquidOpened i
      | .liquidClosing => s.enterRecovery i
      | .closing => s.endTransfer i (x.pendingOutcome.getD .aborted) .complete true
      | _ => s
    else s

/-! ## Trip entry and RESET_PART (R86, R87) -/

/-- R86: on trip entry each active transfer ends TRIPPED, in ascending spot order. -/
def State.tripSpots (s : State) : State :=
  allSpots.foldl (fun s i => s.faultSpot i .tripped) s

/-- R87 for one spot. -/
def State.resetSpot (s : State) (i : SpotId) : State :=
  let rest := s.restState i
  if s.isActive i then (s.endTransfer i .reset rest true).reportUnknownTag i false
  else
    let s :=
      match (s.spot i).state with
      | .identified => s.unbind i
      | .ready => s.unbind i
      | _ => s
    let s := s.reportUnknownTag i false
    if (s.spot i).state = rest then s else s.changeState i rest

/-- R87: RESET_PART at the spots, in ascending spot order. -/
def State.resetSpots (s : State) : State := allSpots.foldl State.resetSpot s

end Sys2Proof.Machine
end

