-- ==== Sys2Proof/Machine/Coordinator.lean ====
section
/-! DEFINITION. The Compressor Coordinator's events: COMP_STATE reports, unavailability, confirmations, popdown, start history, trip
(R138 to R140, R142, R143, R149 to R155). The grant scan stands at the end of the command that holds the event (log 12). -/

namespace Sys2Proof.Machine

/-- The Coordinator answers every spot attached to a compressor (R142). The ascending order of two answers is the model's
(log 39, DESIGN CHOICE). -/
def State.reportAttached (s : State) (c : CompId) : State :=
  (s.comp c).attached.foldl State.takeReport s

/-! ## UNAVAILABLE (R139, R140) -/

/-- R139, steps 1 to 5: the compressor enters UNAVAILABLE and its spots go to the tail of the wait list. -/
def State.enterUnavailable (s : State) (c : CompId) : State :=
  let spots := (s.comp c).attached
  let s := s.modComp c (fun x => { x with confirm := none, popdown := none, deferred := false, held := false })
  let s := s.writeComp .compRun c .stop
  let s := (s.modComp c (fun x => { x with level := .unavailable })).compressorNotice c
  let s := s.modComp c (fun x => { x with attached := [] })
  let s := spots.foldl State.joinList s
  spots.foldl State.takeReport s

/-- A compressor for which a condition of R139 has come to hold enters UNAVAILABLE; one already there stays. -/
def State.checkUsable (s : State) (c : CompId) : State :=
  if (s.comp c).level ≠ .unavailable ∧ unusable s c = true then s.enterUnavailable c else s

/-- The level changes from UNAVAILABLE and the compressor notice is offered (R140, R156). -/
def State.returnToLevel (s : State) (c : CompId) (l : Level) : State :=
  (s.setLevel c l).compressorNotice c

/-- A compressor found running in a direction is taken over in RUN, and stopped while TRIPPED (R140). -/
def State.takeOver (s : State) (c : CompId) (d : Command) : State :=
  let s := s.writeComp .compDir c d
  match s.sdu.device with
  | .run => ((s.writeComp .compRun c .run).startPopdown c).returnToLevel c .idleRun
  | .tripped =>
    (((s.writeComp .compRun c .stop).startConfirmation c .stopped)).returnToLevel c .stopping

/-- R140: a COMP_STATE sample at an UNAVAILABLE compressor. -/
def State.leaveUnavailable (s : State) (c : CompId) (r : CompReading) : State :=
  if unusable s c then s
  else
    match r with
    | .stopped => (s.writeComp .compRun c .stop).returnToLevel c .stopped
    | .runningFwd => s.takeOver c .fwd
    | .runningRev => s.takeOver c .rev
    | .fault => s

/-! ## Confirmations (R142, R143, R150) -/

/-- A confirmed start or reversal: the level becomes IDLE_RUN and the resolved demand of this moment is applied
(R142, R143). -/
def State.confirmRunning (s : State) (c : CompId) : State :=
  let s := s.modComp c (fun x => { x with confirm := none })
  (s.setLevel c .idleRun).followDemand c

/-- A confirmed stop; with spots attached the start decision follows (R150). -/
def State.confirmStop (s : State) (c : CompId) : State :=
  let s := s.modComp c (fun x => { x with confirm := none })
  let s := s.setLevel c .stopped
  if (s.comp c).attached.isEmpty then s else (s.startDecision c).reportAttached c

/-- The command a running reading names. -/
def readingDirection : CompReading → Option Command
  | .runningFwd => some .fwd
  | .runningRev => some .rev
  | .stopped => none
  | .fault => none

/-- The reading is of the compressor running in its direction (R138). -/
def State.runsAsDirected (s : State) (c : CompId) (r : CompReading) : Bool :=
  (readingDirection r).isSome && decide (readingDirection r = s.direction c)

/-- R138: a COMP_STATE sample is judged against the compressor's level. -/
def State.stateReport (s : State) (c : CompId) (r : CompReading) : State :=
  match (s.comp c).level with
  | .stopped =>
    match r with
    | .stopped => s
    | .runningFwd => s.enterUnavailable c
    | .runningRev => s.enterUnavailable c
    | .fault => s.enterUnavailable c
  | .starting =>
    match r with
    | .stopped => s
    | .runningFwd => if s.runsAsDirected c r then s.confirmRunning c else s.enterUnavailable c
    | .runningRev => if s.runsAsDirected c r then s.confirmRunning c else s.enterUnavailable c
    | .fault => s.enterUnavailable c
  | .idleRun => if s.runsAsDirected c r then s else s.enterUnavailable c
  | .push => if s.runsAsDirected c r then s else s.enterUnavailable c
  | .recover => if s.runsAsDirected c r then s else s.enterUnavailable c
  | .reversing =>
    match r with
    | .stopped => s
    | .runningFwd => if s.runsAsDirected c r then s.confirmRunning c else s
    | .runningRev => if s.runsAsDirected c r then s.confirmRunning c else s
    | .fault => s.enterUnavailable c
  | .stopping =>
    match r with
    | .stopped => s.confirmStop c
    | .runningFwd => s
    | .runningRev => s
    | .fault => s.enterUnavailable c
  | .unavailable => s.leaveUnavailable c r

/-! ## Popdown and start history (R149, R152) -/

/-- The start history is full: it holds as many entries as the start limit, or more (R142, R149). -/
def State.historyFull (s : State) (c : CompId) : Bool :=
  decide (s.compField c (·.startLimit) ≤ (s.comp c).history.length)

/-- R149 at the expiry of the popdown timer. -/
def State.popdownExpired (s : State) (c : CompId) : State :=
  let s := s.modComp c (fun x => { x with popdown := none })
  if s.historyFull c then s.modComp c (fun x => { x with held := true }) else s.stopCompressor c

/-- R152: the oldest start is removed and the compressor is tested again. -/
def State.removeStart (s : State) (c : CompId) : State :=
  let s := s.modComp c (fun x => { x with history := x.history.drop 1 })
  if (s.comp c).deferred then (s.startDecision c).reportAttached c
  else if (s.comp c).held && !s.historyFull c then
    (s.modComp c (fun x => { x with held := false })).stopCompressor c
  else s

/-! ## Trip entry and RESET_PART (R154, R155) -/

/-- A running level that trip entry stops (R154). -/
def Level.tripStops : Level → Bool
  | .starting => true
  | .idleRun => true
  | .push => true
  | .recover => true
  | .reversing => true
  | .stopped => false
  | .stopping => false
  | .unavailable => false

/-- R154 for one compressor: its spots are detached and answered so, its marks and popdown are cleared, and a
running compressor is commanded STOP. -/
def State.tripComp (s : State) (c : CompId) : State :=
  let spots := (s.comp c).attached
  let s := s.modComp c (fun x => { x with attached := [], popdown := none, deferred := false, held := false })
  let s := spots.foldl State.takeReport s
  if (s.comp c).level.tripStops then s.stopCompressor c else s

/-- R154: each compressor in ascending order, then the wait list is emptied and each spot removed is answered. -/
def State.tripComps (s : State) : State :=
  let s := allComps.foldl State.tripComp s
  let waiting := s.waitList
  waiting.foldl State.takeReport { s with waitList := [] }

end Sys2Proof.Machine
end

