-- ==== Sys2Proof/Machine/Metering.lean ====
section
/-! DEFINITION. The Metering Unit: the path of one meter sample (chapter 6). -/

namespace Sys2Proof.Machine

/-- The plausibility bound: limit times elapsed milliseconds, divided by 1000 and floored (R110). -/
def plausibleBound (limit e : Nat) : Nat := limit * e / 1000

/-- The flow rate in L/min, saturated at 9999 (R113). -/
def flowRate (r e : Nat) : Nat := Nat.min (r * 60 / e) 9999

/-- A linear step from `a` at 0 to `b` at `span`, taken at `x`; the quotient truncates toward zero (R114, R117, R120). -/
def interpolate (a b x span : Nat) : Nat :=
  ((a : Int) + Int.tdiv (((b : Int) - (a : Int)) * (x : Int)) (span : Int)).toNat

/-- The factor between the first point of a list and the points after it, at a rate not below the first point's. -/
def factorFrom (p : CurvePoint) (rest : List CurvePoint) (q : Nat) : Nat :=
  match rest with
  | [] => p.mf
  | p' :: rest' =>
    if q < p'.rate then interpolate p.mf p'.mf (q - p.rate) (p'.rate - p.rate) else factorFrom p' rest' q

/-- The meter factor at a rate: held at the ends of the curve, interpolated between its points (R114). -/
def meterFactor (curve : List CurvePoint) (q : Nat) : Nat :=
  match curve with
  | [] => 0
  | p :: rest => if q ≤ p.rate then p.mf else factorFrom p rest q

/-- The index of the lower temperature correction point (R117). -/
def pointIndex (t : Int) : Nat := Nat.min ((t + 500).toNat / 50) 21

/-- The temperature of a correction point, in tenths of a degree (R46). -/
def pointTemperature (j : Nat) : Int := -500 + 50 * (j : Int)

/-- The value of a correction point of a group; every point of a usable group is loaded (R46). -/
def pointValue (g : Group) (j : Nat) : Nat :=
  if h : j < 23 then g[j].getD 0 else 0

/-- The temperature correction factor at a temperature (R117). -/
def correction (g : Group) (t : Int) : Nat :=
  let j := pointIndex t
  interpolate (pointValue g j) (pointValue g (j + 1)) (t - pointTemperature j).toNat 50

/-- The inputs of a credit: Kc, the curve, the temperature and its mark, the group and the density (R111). -/
structure CreditInputs where
  kc      : Nat
  curve   : List CurvePoint
  temp    : Int
  clamped : Bool
  group   : Group
  density : Nat

/-- The rate of a credited sample, from its raw increment (R112, R113). -/
def creditRate (a : Accumulators) (kc d e : Nat) : Nat := flowRate ((d * 100000 + a.rawRes) / kc) e

/-- R112 to R119: the accumulators after a credited sample of `d` pulses in `e` ms. -/
def credit (a : Accumulators) (k : CreditInputs) (d e : Nat) : Accumulators :=
  let rawNum := d * 100000 + a.rawRes
  let r := rawNum / k.kc
  let q := flowRate r e
  let grossNum := r * meterFactor k.curve q + a.grossRes
  let g := grossNum / 10000
  let netNum := g * correction k.group k.temp + a.netRes
  let n := netNum / 100000
  let massNum := n * k.density + a.massRes
  { credited := a.credited + d
    rejected := a.rejected
    raw := a.raw + r
    rawRes := rawNum % k.kc
    gross := a.gross + g
    grossRes := grossNum % 10000
    net := a.net + n
    netRes := netNum % 100000
    mass := a.mass + massNum / 10000
    massRes := massNum % 10000
    tempClamped := a.tempClamped || k.clamped }

/-- The five accumulators a credit adds to are held to 64 bits (R121). -/
def fits64 (a : Accumulators) : Bool :=
  decide (a.credited ≤ Config.max64) && decide (a.raw ≤ Config.max64) && decide (a.gross ≤ Config.max64) &&
    decide (a.net ≤ Config.max64) && decide (a.mass ≤ Config.max64)

/-- The temperature a value carries, in tenths of a degree. -/
def Value.tenths? : Value → Option Int
  | .temperature t => some t
  | .count _ _ => none
  | .pressure _ => none
  | .position _ => none
  | .discrete _ => none
  | .compressor _ => none
  | .tag _ => none

/-- The inputs of a credit at a spot (R111). START and the IN_USE refusals keep every one of them present in a
crediting state; where one is missing no run of the part leads (log 24). -/
def State.creditInputs (s : State) (i : SpotId) : Option CreditInputs :=
  match s.record i, s.boundRecord i, s.spotEntry .tempLiq i with
  | some r, some b, some (_, e) =>
    match e.body with
    | .input d =>
      match d.last.bind Value.tenths? with
      | some t => some ⟨r.kc, r.curve, t, d.clamped, s.groups.get b.group, b.density⟩
      | none => none
    | .output _ => none
  | _, _, _ => none

/-- R71: a rate joins the window, and the liquid end test is made (R72). -/
def State.addRate (s : State) (i : SpotId) (q : Nat) : State :=
  let s := s.modSpot i (fun x => { x with window := x.window.add q })
  let x := s.spot i
  if x.liquidConfirmed && x.window.below (s.recordField i (·.heelRate)) then s.enterLiquidClosing i else s

/-- R96: the excess test after a credited sample. -/
def State.excessTest (s : State) (i : SpotId) : State :=
  match s.boundRecord i with
  | none => s
  | some r =>
    let x := s.spot i
    if r.declared * 1050 < x.acc.net ∧ x.causes.excess = false ∧ x.excessAck = false then
      (s.modSpot i (fun x => { x with excessSeen := true })).changeCauses i (fun c => { c with excess := true })
    else s

/-- R122: the hand-offs after a credited sample: rate, excess, thousand litres. -/
def State.handOff (s : State) (i : SpotId) (q before : Nat) : State :=
  let s := if (s.spot i).state = .unloading then s.addRate i q else s
  let s := s.excessTest i
  if before / 1000000 < (s.spot i).acc.net / 1000000 then s.standingReport i else s

/-- R95: a rejection is reported to the Spot Sequencer. -/
def State.suspectMeter (s : State) (i : SpotId) : State :=
  match (s.spot i).state with
  | .pressurising => s.changeCauses i (fun c => { c with meterSuspect := true })
  | .unloading => s.changeCauses i (fun c => { c with meterSuspect := true })
  | .recovery => s.changeCauses i (fun c => { c with meterSuspect := true })
  | .suspended => s.changeCauses i (fun c => { c with meterSuspect := true })
  | _ => s

/-- R110: a sample of `d` pulses is rejected; its pulses are counted as rejected at a crediting spot. -/
def State.rejectSample (s : State) (i : SpotId) (d : Nat) : State :=
  let s :=
    if (s.spot i).state.crediting then
      s.modSpot i (fun x => { x with acc := { x.acc with rejected := Nat.min (x.acc.rejected + d) Config.max64 } })
    else s
  s.suspectMeter i

/-- R111, R121: a sample is credited to the transfer, or rejected where an accumulator would pass 64 bits. -/
def State.creditSample (s : State) (i : SpotId) (d e : Nat) : State :=
  match s.creditInputs i with
  | none => s
  | some k =>
    let a := (s.spot i).acc
    let a' := credit a k d e
    if fits64 a' then
      (s.modSpot i (fun x => { x with acc := a' })).handOff i (creditRate a k.kc d e) a.net
    else s.rejectSample i d

/-- R85: pulses outside a transfer, saturating. -/
def State.addUnassigned (s : State) (i : SpotId) (d : Nat) : State :=
  s.modSpot i (fun x => { x with unassigned := Nat.min (x.unassigned + d) Config.max32 })

/-- A sample with elapsed time is rejected, credited or unassigned (R110, R111). A spot with an empty record slot has
no plausibility limit. -/
def State.disposeSample (s : State) (i : SpotId) (d e : Nat) : State :=
  match s.record i with
  | some r =>
    if plausibleBound r.plausibility e < d then s.rejectSample i d
    else if (s.spot i).state.crediting then s.creditSample i d e
    else s.addUnassigned i d
  | none => s.addUnassigned i d

/-- Set the metering baseline of the entry at an index (R108). -/
def State.setBaseline (s : State) (idx : Nat) (b : Baseline) : State :=
  match entryAt s.imap idx with
  | some e =>
    match e.body with
    | .input d => s.setBody idx (.input { d with baseline := some b })
    | .output _ => s
  | none => s

/-- The metering baseline of the entry at an index (R108). -/
def State.baselineAt (s : State) (idx : Nat) : Option Baseline :=
  match entryAt s.imap idx with
  | some e => e.dynamic.bind (·.baseline)
  | none => none

/-- R109: a meter sample accepted for the METER entry at an index of a spot. The baseline moves before the sample's
effects are handed on; no effect reads it. -/
def State.meterSample (s : State) (idx : Nat) (i : SpotId) (n t : Word16) : State :=
  match s.baselineAt idx with
  | none => s.setBaseline idx ⟨n, t⟩
  | some b =>
    let e := (t - b.time).toNat
    let d := (n - b.count).toNat
    if e = 0 then s else (s.setBaseline idx ⟨n, t⟩).disposeSample i d e

end Sys2Proof.Machine
end

