-- ==== Sys2Proof/Machine/Shutdown.lean ====
section
/-! DEFINITION. The Shutdown Unit: trip causes, trip entry, return to RUN, and power-on (chapter 10). -/

namespace Sys2Proof.Machine

/-- R175: the device enters TRIPPED. The trip notice is offered before the hand-offs, which are made in the order the
rule lists them (log 13). -/
def State.tripEntry (s : State) (added : TripCauses) : State :=
  let s := { s with
    sdu := { s.sdu with device := .tripped, entryUptime := s.uptime, causes := s.sdu.causes.union added }
    pins := { s.pins with tripEnergised := false } }
  let s := s.tripNotice added
  s.tripSpots.tripComps.forceAllSafe

/-- R171: a cause is added; in RUN that enters TRIPPED. -/
def State.addTripCause (s : State) (added : TripCauses) : State :=
  match s.sdu.device with
  | .run => s.tripEntry added
  | .tripped => { s with sdu := { s.sdu with causes := s.sdu.causes.union added } }

/-- The cause sets of one cause. -/
def causeEsd : TripCauses := { TripCauses.empty with esdLine := true }
def causeGas : TripCauses := { TripCauses.empty with gas := true }
def causeSilent : TripCauses := { TripCauses.empty with ringSilent := true }
def causeRequested : TripCauses := { TripCauses.empty with requested := true }
def causeReset : TripCauses := { TripCauses.empty with reset := true }

/-- R178: the effect of an accepted TRIP_RESET. -/
def State.enterRun (s : State) : State :=
  let s := { s with
    sdu := { s.sdu with causes := .empty, device := .run }
    pins := { s.pins with tripEnergised := true } }
  s.returnAllOutputs

/-- The node address the straps give: 1 to 254, or BAD_ADDRESS (R1). -/
def addressOf (straps : Byte) : Option Byte :=
  if straps = 0 ∨ straps = 255 then none else some straps

/-- R180: the part at power-on and at the reset input. The pins keep their levels but for the straps, which are read
(log 6), and the trip output line; the queue of waiting commands and the count of free values drawn are the
model's own. -/
def State.powerOnState (s : State) (straps : Byte) : State :=
  let address := addressOf straps
  let causes : TripCauses :=
    { TripCauses.empty with powerOn := true, esdLine := s.pins.esdAsserted, badAddress := address.isNone }
  let t : State :=
    { pins := { s.pins with straps := straps, tripEnergised := false }
      powered := true
      uptime := 0
      freeDraws := s.freeDraws
      rpu := Rpu.initial address
      imap := []
      conditions := Vector.replicate 16 ⟨.allFalse, .allFalse⟩
      table := Vector.replicate 16 none
      groups := Vector.replicate 4 (Vector.replicate 23 none)
      manifest := []
      spots := Vector.replicate 16 .initial
      comps := Vector.replicate 4 .initial
      waitList := []
      sdu := ⟨.tripped, causes, 0, s.pins.esdAsserted, false⟩
      mgu := .initial
      pending := s.pending }
  t.tripNotice causes

/-- A command acts on a powered part only; a part without its supply ceases to act (R170, log 8). -/
def State.whenPowered (s : State) (f : State → State) : Host.Outcome State Fault Refusal :=
  if s.powered then .next (f s) else .next s

/-! ## Supply and lines -/

/-- POWER_ON (R180). -/
def execPowerOn (straps : Byte) (s : State) : Host.Outcome State Fault Refusal :=
  .next (s.powerOnState straps)

/-- RESET_INPUT (R180): an assertion after a release has the effect of power-on; a line held asserted has no further
effect. Without supply only the line's level changes. -/
def execResetInput (straps : Byte) (s : State) : Host.Outcome State Fault Refusal :=
  if s.pins.resetAsserted then .next s
  else
    let s := { s with pins := { s.pins with resetAsserted := true } }
    if s.powered then .next (s.powerOnState straps) else .next s

/-- RESET_INPUT_RELEASE (R180). -/
def execResetInputRelease (s : State) : Host.Outcome State Fault Refusal :=
  .next { s with pins := { s.pins with resetAsserted := false } }

/-- LOSS_OF_SUPPLY (R170): the part ceases to act, the frame being sent is cut, and the trip output contact is
de-energised until the next power-on (log 8). -/
def execLossOfSupply (s : State) : Host.Outcome State Fault Refusal :=
  .next { s with
    powered := false
    pins := { s.pins with tripEnergised := false }
    rpu := { s.rpu with sending := none } }

/-- ESD_LINE_ASSERTED (R172). -/
def execEsdLineAsserted (s : State) : Host.Outcome State Fault Refusal :=
  let s := { s with pins := { s.pins with esdAsserted := true } }
  s.whenPowered (fun s => ({ s with sdu := { s.sdu with esdAsserted := true } }).addTripCause causeEsd)

/-- ESD_LINE_RELEASED (R172). -/
def execEsdLineReleased (s : State) : Host.Outcome State Fault Refusal :=
  let s := { s with pins := { s.pins with esdAsserted := false } }
  s.whenPowered (fun s => { s with sdu := { s.sdu with esdAsserted := false } })

end Sys2Proof.Machine
end

