-- ==== Sys2Proof/Machine/Samples.lean ====
section
/-! DEFINITION. The Instrument Map's events: sample acceptance and its effects (R24 to R28), staleness (R29, R30). -/

namespace Sys2Proof.Machine

/-! ## Sample acceptance (R24 to R27) -/

/-- The sequence test of R25: no last number, or 1 to 127 ahead of it modulo 256. -/
def sequenceOk (last : Option Byte) (s : Byte) : Bool :=
  match last with
  | none => true
  | some l => 1 ≤ (s - l).toNat && (s - l).toNat ≤ 127

/-- An integer held between two bounds. -/
def clampInt (lo hi v : Int) : Int := if v < lo then lo else if hi < v then hi else v

/-- The accepted value of a value that passes, clamped where R26 clamps it. -/
def clampValue : Value → Value
  | .temperature t => .temperature (clampInt (-500) 600 t)
  | .pressure p => .pressure (clampInt (-100) 4000 p)
  | .count n t => .count n t
  | .position p => .position p
  | .discrete d => .discrete d
  | .compressor r => .compressor r
  | .tag c => .tag c

/-- The value test of R26: the sample's kind is the role's, and its value passes. -/
def valueTest (r : Role) (x : Sample) : Option Value :=
  if r.kind = some x.kind then
    match x.reading with
    | .value v => some v
    | .invalid => none
  else none

/-- The dynamic state after an acceptance (R27): METER keeps no last value. -/
def acceptInto (d : Dynamic) (r : Role) (seq : Byte) (v : Value) (uptime : Nat) : Dynamic :=
  { d with
    last := if r = .meter then d.last else some (clampValue v)
    clamped := decide (clampValue v ≠ v)
    seq := some seq
    acceptedAt := some uptime
    stale := false }

/-! ## Reports to the owners (R28, R30) -/

/-- STALE_INPUT goes from a spot when none of its four entries is stale (R30, R92). -/
def State.freshSpot (s : State) (i : SpotId) : State :=
  if staleInput s i then s else s.changeCauses i (fun c => { c with staleInput := false })

/-- An entry is fresh again (R28 step 1, R30): the Spot Sequencer drops STALE_INPUT where it may. -/
def State.tellFresh (s : State) (r : Role) (spots : List SpotId) : State :=
  match r with
  | .meter => spots.foldl State.freshSpot s
  | .tempLiq => spots.foldl State.freshSpot s
  | .pCar => spots.foldl State.freshSpot s
  | .pTank => spots.foldl State.freshSpot s
  | _ => s

/-- TANK_HIGH follows the spot's condition (R91). -/
def State.tankReport (s : State) (i : SpotId) : State :=
  s.changeCauses i (fun c => { c with tankHigh := (s.values i).tankHigh })

/-- The delivery of an accepted sample of a role for its spots (R18, R28 step 3). -/
def State.deliver (s : State) (idx : Nat) (e : MapEntry) (spots : List SpotId) (v : Value) : State :=
  match v with
  | .count n t => spots.foldl (fun s i => s.meterSample idx i n t) s
  | .temperature _ => s
  | .pressure p =>
    if e.role = .pCar then spots.foldl (fun s i => s.deliverCarPressure i p) s
    else spots.foldl State.deliverTankPressure s
  | .position p => spots.foldl (fun s i => s.deliverPosition i e.role p) s
  | .tag chars => spots.foldl (fun s i => s.deliverTag i chars) s
  | .compressor r =>
    match compId e.owner with
    | some c => s.stateReport c r
    | none => s
  | .discrete d =>
    match e.role with
    | .bond => spots.foldl (fun s i => s.connectionReport i (s.values i).bondOk .faultBond) s
    | .armLiq => spots.foldl (fun s i => s.connectionReport i (s.values i).armLiq .faultArm) s
    | .armVap => spots.foldl (fun s i => s.connectionReport i (s.values i).armVap .faultArm) s
    | .tankHigh => spots.foldl State.tankReport s
    | .gas => if d = .abnormal then s.addTripCause causeGas else s
    | _ => s

/-- The effects of an acceptance (R27, R28): the entry is stored; the conditions of the spots it concerns are
re-evaluated; the owners act on a return to freshness; the sample is delivered (log 10). A pressure sample whose freshness
completes a return is delivered after it, and so tested in the state returned to (R69, R101, R128: log 38, DEDUCED). -/
def State.acceptSample (s : State) (idx : Nat) (e : MapEntry) (d : Dynamic) (seq : Byte) (v : Value) : State :=
  let s := s.setBody idx (.input (acceptInto d e.role seq v s.uptime))
  let spots := concernedSpots s e.role e.owner
  let s := s.reevaluateAll spots
  let s := if d.stale then s.tellFresh e.role spots else s
  s.deliver idx e spots (clampValue v)

/-- R24 to R28: a sample frame is offered to the Instrument Map, and the grant scan ends the event. -/
def State.offerSample (s : State) (f : Frame) : State :=
  match parseSample f.body with
  | none => s
  | some x =>
    if 15 < x.channel.toNat then s
    else
      match findKey s.imap f.source x.channel with
      | none => s
      | some (idx, e) =>
        match e.body with
        | .output _ => s
        | .input d =>
          if sequenceOk d.seq f.tag then
            match valueTest e.role x with
            | some v => (s.acceptSample idx e d f.tag v).endScan
            | none => s
          else s

/-! ## Staleness (R29, R30) -/

/-- The owner of an entry is told that it is stale (R30). -/
def State.tellStale (s : State) (r : Role) (owner : Nat) (spots : List SpotId) : State :=
  match r with
  | .bond => spots.foldl (fun s i => s.connectionLost i .faultBond) s
  | .armLiq => spots.foldl (fun s i => s.connectionLost i .faultArm) s
  | .armVap => spots.foldl (fun s i => s.connectionLost i .faultArm) s
  | .tankHigh => spots.foldl (fun s i => s.changeCauses i (fun c => { c with tankHigh := true })) s
  | .gas => s.addTripCause causeGas
  | .compState =>
    match compId owner with
    | some c => s.checkUsable c
    | none => s
  | .meter => spots.foldl (fun s i => s.changeCauses i (fun c => { c with staleInput := true })) s
  | .tempLiq => spots.foldl (fun s i => s.changeCauses i (fun c => { c with staleInput := true })) s
  | .pCar => spots.foldl (fun s i => s.changeCauses i (fun c => { c with staleInput := true })) s
  | .pTank => spots.foldl (fun s i => s.changeCauses i (fun c => { c with staleInput := true })) s
  | .liqPos => s
  | .vapPos => s
  | .tag => s
  | .liqCmd => s
  | .vapCmd => s
  | .compRun => s
  | .compDir => s

/-- The staleness timer of an input entry: its limit after its last acceptance, while it is fresh and its limit is not
0 (R29). -/
def stalenessDeadline (e : MapEntry) : Option Nat :=
  match e.body with
  | .input d => if d.stale || e.limit == 0 then none else d.acceptedAt.map (· + e.limit)
  | .output _ => none

/-- R29: the entry goes stale, its owner is told, and the conditions of the spots it concerns are re-evaluated (log 11). -/
def State.goStale (s : State) (idx : Nat) (e : MapEntry) (d : Dynamic) : State :=
  let s := s.setBody idx (.input { d with stale := true })
  let spots := concernedSpots s e.role e.owner
  ((s.tellStale e.role e.owner spots).reevaluateAll spots).endScan

/-- The staleness timer of the entry at an index expires (R29). -/
def State.stalenessExpiry (s : State) (idx : Nat) : State :=
  match entryAt s.imap idx with
  | none => s
  | some e =>
    match e.body with
    | .output _ => s
    | .input d => if due (stalenessDeadline e) s.uptime then s.goStale idx e d else s

/-- STALENESS_EXPIRY (R29). -/
def execStalenessExpiry (idx : Nat) (s : State) : Host.Outcome State Fault Refusal :=
  s.whenPowered (fun s => s.stalenessExpiry idx)

end Sys2Proof.Machine
end

