-- ==== Sys2Proof/Machine/Timers.lean ====
section
/-! DEFINITION. The expiries of spots, compressors and output images, and the second of uptime. An expiry falls only while its timer
runs and is due; otherwise the command leaves the part as it stands (log 3). -/

namespace Sys2Proof.Machine

/-! ## Spots -/

/-- Act on the spot a number names; no spot has a number outside 1 to 16 (log 30). -/
def State.atSpot (s : State) (n : Nat) (f : State → SpotId → State) : State :=
  match spotId n with
  | some i => f s i
  | none => s

/-- Act on the compressor a number names; no compressor has a number outside 1 to 4 (log 30). -/
def State.atComp (s : State) (n : Nat) (f : State → CompId → State) : State :=
  match compId n with
  | some c => f s c
  | none => s

/-- R67: the travel timer expires in the state that started it. -/
def State.travelExpired (s : State) (i : SpotId) : State :=
  if due ((s.spot i).travel.map (·.deadline)) s.uptime then (s.faultSpot i .faultValveTravel).endScan else s

/-- R70: the pressurise timer expires in PRESSURISING. -/
def State.pressuriseExpired (s : State) (i : SpotId) : State :=
  if due (s.spot i).pressurise s.uptime then (s.faultSpot i .faultPressurise).endScan else s

/-- R99: the suspend timer expires in SUSPENDED: the demand becomes NONE, NO_COMPRESSOR goes with the place on the wait
list, and the return attempt follows if the set is empty. -/
def State.suspendExpired (s : State) (i : SpotId) : State :=
  let x := s.spot i
  if due x.suspendTimer s.uptime && decide (x.state = .suspended) then
    let s := s.modSpot i (fun x => { x with suspendTimer := none })
    let s := (s.handDemand i .none).setNoCompressor i false
    (s.causeTest i).endScan
  else s

/-- R128: the pass timer expires and the pass ends. -/
def State.passExpired (s : State) (i : SpotId) : State :=
  let x := s.spot i
  if due x.pass s.uptime && decide (x.state = .recovery) then (s.endPass i).endScan else s

/-- R130: the settle timer expires. -/
def State.settleExpired (s : State) (i : SpotId) : State :=
  let x := s.spot i
  if due x.settle s.uptime && decide (x.state = .recovery) then (s.settleTest i).endScan else s

/-- TRAVEL_TIMER_EXPIRY (R67). -/
def execTravelTimerExpiry (n : Nat) (s : State) : Host.Outcome State Fault Refusal :=
  s.whenPowered (fun s => s.atSpot n State.travelExpired)

/-- PRESSURISE_TIMER_EXPIRY (R70). -/
def execPressuriseTimerExpiry (n : Nat) (s : State) : Host.Outcome State Fault Refusal :=
  s.whenPowered (fun s => s.atSpot n State.pressuriseExpired)

/-- SUSPEND_TIMER_EXPIRY (R99). -/
def execSuspendTimerExpiry (n : Nat) (s : State) : Host.Outcome State Fault Refusal :=
  s.whenPowered (fun s => s.atSpot n State.suspendExpired)

/-- PASS_TIMER_EXPIRY (R128). -/
def execPassTimerExpiry (n : Nat) (s : State) : Host.Outcome State Fault Refusal :=
  s.whenPowered (fun s => s.atSpot n State.passExpired)

/-- SETTLE_TIMER_EXPIRY (R130). -/
def execSettleTimerExpiry (n : Nat) (s : State) : Host.Outcome State Fault Refusal :=
  s.whenPowered (fun s => s.atSpot n State.settleExpired)

/-! ## Compressors -/

/-- R151: the confirmation timer expires in the level that started it. -/
def State.confirmationExpired (s : State) (c : CompId) : State :=
  if due ((s.comp c).confirm.map (·.deadline)) s.uptime then (s.enterUnavailable c).endScan else s

/-- R149: the popdown timer expires. -/
def State.popdownDue (s : State) (c : CompId) : State :=
  if due (s.comp c).popdown s.uptime then s.popdownExpired c else s

/-- R152: the oldest start reaches the age of 3600 s. -/
def State.startAged (s : State) (c : CompId) : State :=
  if due ((s.comp c).history.head?.map (· + Config.historyAge)) s.uptime then (s.removeStart c).endScan else s

/-- CONFIRMATION_TIMER_EXPIRY (R151). -/
def execConfirmationTimerExpiry (n : Nat) (s : State) : Host.Outcome State Fault Refusal :=
  s.whenPowered (fun s => s.atComp n State.confirmationExpired)

/-- POPDOWN_TIMER_EXPIRY (R149). -/
def execPopdownTimerExpiry (n : Nat) (s : State) : Host.Outcome State Fault Refusal :=
  s.whenPowered (fun s => s.atComp n State.popdownDue)

/-- START_HISTORY_REMOVAL (R152). -/
def execStartHistoryRemoval (n : Nat) (s : State) : Host.Outcome State Fault Refusal :=
  s.whenPowered (fun s => s.atComp n State.startAged)

/-! ## Output images -/

/-- R161: the refresh timer of an image expires; the outgoing command of that moment is offered and the timer
restarts. -/
def State.refreshExpired (s : State) (idx : Nat) : State :=
  match entryAt s.imap idx with
  | none => s
  | some e =>
    match e.body with
    | .input _ => s
    | .output o =>
      if due o.refresh s.uptime then
        match outgoing s.sdu.device o with
        | some cmd => s.offerCommand idx cmd
        | none => s
      else s

/-- REFRESH_TIMER_EXPIRY (R161). -/
def execRefreshTimerExpiry (idx : Nat) (s : State) : Host.Outcome State Fault Refusal :=
  s.whenPowered (fun s => s.refreshExpired idx)

/-! ## The second of uptime -/

/-- One second at a compressor's level, saturating (R153). -/
def addSecond (x : Compressor) : Compressor :=
  { x with residency := x.residency.set x.level.place.val
             (Nat.min (x.residency.get x.level.place + 1) Config.max32) x.level.place.isLt }

/-- The uptime clock moves by one second. Past 32 bits the spec states no value: a free value is drawn (log 2). -/
def State.tickUptime (s : State) : State :=
  if s.uptime < Config.max32 then { s with uptime := s.uptime + 1 }
  else { s with uptime := (Config.uptimePastOverflow s.freeDraws).toNat, freeDraws := s.freeDraws + 1 }

/-- RESIDENCY_TICK (R153): one second of uptime passes (log 1). -/
def execResidencyTick (s : State) : Host.Outcome State Fault Refusal :=
  s.whenPowered (fun s => (allComps.foldl (fun s c => s.modComp c addSecond) s).tickUptime)

end Sys2Proof.Machine
end

