-- ==== Sys2Proof/Machine/Ring.lean ====
section
/-! DEFINITION. The Ring Port Unit's events: a frame's arrival (R2 to R7), the end of a sending (R11), ring silence (R13). -/

namespace Sys2Proof.Machine

/-- A valid frame restarts the ring-silence timer; in SILENT it ends the silence and reports so (R13, R174). -/
def State.noteValidFrame (s : State) : State :=
  { s with
    rpu := { s.rpu with lastValid := s.uptime, silence := .live }
    sdu := { s.sdu with ringSilent := match s.rpu.silence with
                                      | .silent => false
                                      | .live => s.sdu.ringSilent } }

/-- The frame is forwarded under R4 and R7. -/
def State.forward (s : State) (f : Frame) : State := s.modRpu (forwardFrame f)

/-- R6: a manage frame addressed to the part is taken if the request queue has room, and forwarded if not. The
Management Unit takes it on at once where it can (R182). -/
def State.takeManage (s : State) (f : Frame) : State :=
  if s.rpu.requests.length < Config.requestCapacity then
    (s.modRpu (fun r => { r with requests := r.requests ++ [⟨f.source, f.tag, f.body⟩] })).takeRequest
  else s.forward f

/-- R5: a valid frame that is neither stripped nor out of hops, by its kind and destination. A sample is offered
before it is forwarded (log 9). -/
def State.disposeFrame (s : State) (address : Byte) (f : Frame) : State :=
  if f.kind = 1 then (s.offerSample f).forward f
  else if f.kind = 3 ∧ f.dest = address then s.takeManage f
  else s.forward f

/-- R2 to R5, and R1 in BAD_ADDRESS. -/
def State.frameArrival (s : State) (f : Frame) : State :=
  if frameValid f then
    let s := s.noteValidFrame
    match s.rpu.address with
    | none => if f.hops = 0 then s else s.forward f
    | some a =>
      if f.source = a then s
      else if f.hops = 0 then s
      else s.disposeFrame a f
  else s

/-- FRAME_ARRIVAL (R2). -/
def execFrameArrival (f : Frame) (s : State) : Host.Outcome State Fault Refusal :=
  s.whenPowered (fun s => s.frameArrival f)

/-- R11: the sending of a frame completes, and the arbiter decides; an idle port completes nothing. A place freed in
the message queue may let the Management Unit take its next request (R182). -/
def State.transmitComplete (s : State) : State :=
  match s.rpu.sending with
  | none => s
  | some _ => (s.modRpu (fun r => boundary { r with sending := none })).takeRequest

/-- TRANSMIT_COMPLETE (R11). -/
def execTransmitComplete (s : State) : Host.Outcome State Fault Refusal :=
  s.whenPowered State.transmitComplete

/-- R13: 5 s of uptime since the last valid frame while LIVE: the ring is reported silent (R174). -/
def State.silenceExpired (s : State) : State :=
  match s.rpu.silence with
  | .silent => s
  | .live =>
    if s.rpu.lastValid + Config.silenceSeconds ≤ s.uptime then
      let s := { s with rpu := { s.rpu with silence := .silent }, sdu := { s.sdu with ringSilent := true } }
      s.addTripCause causeSilent
    else s

/-- SILENCE_EXPIRY (R13). -/
def execSilenceExpiry (s : State) : Host.Outcome State Fault Refusal :=
  s.whenPowered State.silenceExpired

end Sys2Proof.Machine
end

