-- ==== Sys2Proof/Machine/Requests.lean ====
section
/-! DEFINITION. Carrying out a request (R182, R183): what every request row shares, and UNKNOWN_REQUEST. -/

namespace Sys2Proof.Machine

/-- A refusal: the state as it was, and the result alone (R183). -/
def State.refuse (s : State) (r : Result) : State × Reply := (s, ⟨r, []⟩)

/-- An accepted request with its effect and the data of its reply. -/
def State.done (s : State) (data : List Byte) : State × Reply := (s, ⟨.done, data⟩)

/-- The Management Unit carries out the request it holds if its code is `code`: `f` gets the bytes after the code. A
request event with another code, or with no request held, does not fall (log 5). -/
def State.serve (s : State) (code : Byte) (f : List Byte → State → State × Reply) : State :=
  match s.mgu.held with
  | none => s
  | some q =>
    match q.body with
    | [] => s
    | c :: args => if c = code then (f args s).1.answer q (f args s).2 else s

/-- A request row of the table. -/
def State.request (s : State) (code : Byte) (f : List Byte → State → State × Reply) :
    Host.Outcome State Fault Refusal :=
  s.whenPowered (fun s => s.serve code f)

/-- The request codes of R192. -/
def requestCodes : List Byte :=
  [0x01, 0x02, 0x03, 0x04, 0x05, 0x06, 0x10, 0x11, 0x12, 0x13, 0x14, 0x20, 0x21,
   0x30, 0x31, 0x32, 0x33, 0x34, 0x35, 0x36, 0x40, 0x41, 0x50, 0x51, 0x52]

/-- A body of length 0 or an unknown request code (R183). -/
def unknownBody (body : List Byte) : Bool :=
  match body with
  | [] => true
  | c :: _ => !requestCodes.contains c

/-- R183: an empty body or an unknown code is answered BAD_REQUEST, with code 0 or the code echoed. -/
def State.answerUnknown (s : State) : State :=
  match s.mgu.held with
  | none => s
  | some q => if unknownBody q.body then s.answer q ⟨.badRequest, []⟩ else s

/-- UNKNOWN_REQUEST (R183). -/
def execUnknownRequest (s : State) : Host.Outcome State Fault Refusal :=
  s.whenPowered State.answerUnknown

/-- The check on the spot number that the requests of a spot share: RANGE outside 1 to 16. -/
def State.onSpot (s : State) (n : Byte) (f : SpotId → State × Reply) : State × Reply :=
  match spotId n.toNat with
  | none => s.refuse .range
  | some i => f i

/-- A request that is refused with TRIPPED while the part is TRIPPED (R181). -/
def State.inRun (s : State) (f : State × Reply) : State × Reply :=
  match s.sdu.device with
  | .tripped => s.refuse .tripped
  | .run => f

end Sys2Proof.Machine
end

