-- ==== Sys2Proof/Machine/Reads.lean ====
section
/-! DEFINITION. The read requests and the layouts of their replies (R16, R37, R55, R88, R156, R168, R181, R184 to R186, R193;
logs 17, 18). -/

namespace Sys2Proof.Machine

/-! ## Shared fields -/

/-- A list cut or filled to a fixed number of places, each with its presence mark (R193). -/
def places (n : Nat) (items : List (List Byte)) : List Byte :=
  match n, items with
  | 0, _ => []
  | n + 1, [] => bytesOpt none ++ places n []
  | n + 1, x :: rest => bytesOpt (some x) ++ places n rest

/-- The last value of an input entry with its presence mark (R193). -/
def lastField (e : MapEntry) : List Byte := bytesOpt (e.lastValue.map Value.bytes)

/-- The metering baseline of a METER entry in place of its last value: N_last and T_last (R184). -/
def baselineField (e : MapEntry) : List Byte :=
  bytesOpt ((e.dynamic.bind (·.baseline)).map (fun b => bytes2 b.count.toNat ++ bytes2 b.time.toNat))

/-- A role of READ_SPOT sections 6 to 8: presence mark of the entry, map index, last value, stale flag (R193). -/
def roleField (value : MapEntry → List Byte) (o : Option (Nat × MapEntry)) : List Byte :=
  bytesOpt (o.map (fun p => byte p.1 :: (value p.2 ++ bytesMark p.2.isStale)))

/-- A timer whose seconds left stand, or that is stopped (R193). -/
def State.left (s : State) (deadline : Option Nat) : List Byte := secondsLeft s.uptime deadline

/-! ## READ_STATUS -/

/-- The number of loaded points of a group (R48). -/
def loadedCount (g : Group) : Nat := (g.toList.filter Option.isSome).length

/-- READ_STATUS section 1 (R16, R48, R181, R184). -/
def statusSection1 (s : State) : List Byte :=
  [s.sdu.device.code] ++ bytes4 s.sdu.entryUptime ++ bytesSet s.sdu.causes.members ++ bytesSet (liveConditions s)
    ++ [esdCode s.sdu.esdAsserted] ++ bytesMark s.pins.tripEnergised ++ bytes4 s.uptime
    ++ [s.rpu.address.getD 0, s.rpu.silence.code]
    ++ [byte s.rpu.forward.length, byte s.rpu.requests.length, byte s.rpu.actuates.length,
        byte s.rpu.messages.length]
    ++ [s.rpu.noticeSeq] ++ s.groups.toList.map (fun g => byte (loadedCount g))

/-- READ_STATUS section 2: up to 32 GAS entries in alarm or stale from the start index (R184). -/
def statusSection2 (s : State) (start : Nat) : List Byte :=
  let l := (gasIndexes s.imap).filter (fun k => start ≤ k)
  bytesCounted ((l.take 32).map (fun k => [byte k])) ++ bytesMark (32 < l.length)

/-- READ_STATUS (R181, R184). -/
def readStatus (args : List Byte) (s : State) : State × Reply :=
  match args with
  | [part, start] =>
    if part = 1 then s.done (statusSection1 s)
    else if part = 2 then s.done (statusSection2 s start.toNat)
    else s.refuse .range
  | _ => s.refuse .badRequest

/-- READ_STATUS. -/
def execReadStatus (s : State) : Host.Outcome State Fault Refusal := s.request 0x01 readStatus

/-! ## READ_SPOT -/

/-- READ_SPOT section 2: the five timers, the awaited position, last RESUME (R184). -/
def spotSection2 (s : State) (i : SpotId) : List Byte :=
  let x := s.spot i
  s.left (x.travel.map (·.deadline)) ++ s.left x.pressurise ++ s.left x.suspendTimer ++ s.left x.pass ++ s.left x.settle
    ++ bytesOpt (x.travel.map (fun t => [t.role.code, t.position.code])) ++ bytesOpt (x.lastResume.map bytes4)

/-- READ_SPOT section 3: pulses and TEMP_CLAMPED (R184). -/
def spotSection3 (s : State) (i : SpotId) : List Byte :=
  let x := s.spot i
  bytes8 x.acc.credited ++ bytes8 x.acc.rejected ++ bytes4 x.unassigned ++ bytesMark x.acc.tempClamped

/-- READ_SPOT section 4: volumes and mass (R184). -/
def spotSection4 (s : State) (i : SpotId) : List Byte :=
  let a := (s.spot i).acc
  bytes8 a.raw ++ bytes8 a.gross ++ bytes8 a.net ++ bytes8 a.mass

/-- READ_SPOT section 5: conditions, latches, observed valve positions (R184). -/
def spotSection5 (s : State) (i : SpotId) : List Byte :=
  bytesSet (s.values i).members ++ bytesSet (s.latches i).members
    ++ [(observedValve (s.spotEntry .liqPos i)).code, (observedValve (s.spotEntry .vapPos i)).code]

/-- READ_SPOT section 6: METER with its baseline, TEMP_LIQ, P_CAR, P_TANK (R184). -/
def spotSection6 (s : State) (i : SpotId) : List Byte :=
  roleField baselineField (s.spotEntry .meter i) ++ roleField lastField (s.spotEntry .tempLiq i)
    ++ roleField lastField (s.spotEntry .pCar i) ++ roleField lastField (s.tankEntry .pTank i)

/-- READ_SPOT section 7: positions, bond, arms, tank high (R184). -/
def spotSection7 (s : State) (i : SpotId) : List Byte :=
  roleField lastField (s.spotEntry .liqPos i) ++ roleField lastField (s.spotEntry .vapPos i)
    ++ roleField lastField (s.spotEntry .bond i) ++ roleField lastField (s.spotEntry .armLiq i)
    ++ roleField lastField (s.spotEntry .armVap i) ++ roleField lastField (s.tankEntry .tankHigh i)

/-- READ_SPOT section 8: the tag (R184). -/
def spotSection8 (s : State) (i : SpotId) : List Byte := roleField lastField (s.spotEntry .tag i)

/-- READ_SPOT section 9: up to 9 GAS entries the spot owns (R184). -/
def spotSection9 (s : State) (i : SpotId) : List Byte :=
  let l := s.imap.filter (fun p => decide (p.2.role = .gas) && decide (p.2.owner = spotNumber i))
  bytesCounted ((l.take 9).map (fun p => byte p.1 :: (lastField p.2 ++ bytesMark p.2.isStale))) ++
    bytesMark (9 < l.length)

/-- A spot record without its curve, in the order and sizes of LOAD_SPOT (R192, R193). -/
def recordBytes (r : SpotRecord) : List Byte :=
  bytesMark r.enabled
    ++ [byte (compNumber r.primary), byte ((r.alternate.map compNumber).getD 0), byte r.tank]
    ++ bytes2 r.dpStart ++ bytes2 r.heelRate ++ [byte r.travelLimit] ++ bytes2 r.pressuriseLimit
    ++ bytes2 r.suspendLimit ++ [byte r.resumeGuard] ++ bytes2 r.passLimit ++ bytes2 r.settleTime
    ++ [byte r.rebound] ++ bytes4 r.kc ++ bytes2 r.plausibility

/-- READ_SPOT section 10: the spot record, or slot empty (R184). -/
def spotSection10 (s : State) (i : SpotId) : List Byte := bytesOpt ((s.record i).map recordBytes)

/-- READ_SPOT section 11: the meter curve, a list that may be empty (R184). -/
def spotSection11 (s : State) (i : SpotId) : List Byte :=
  let curve := match s.record i with
    | some r => r.curve
    | none => []
  bytesCounted (curve.map (fun p => bytes2 p.rate ++ bytes2 p.mf))

/-- A section of READ_SPOT; `none` outside 1 to 11 (R184). -/
def spotSection (s : State) (i : SpotId) (n : Nat) : Option (List Byte) :=
  match n with
  | 1 => some (spotSection1 s i)
  | 2 => some (spotSection2 s i)
  | 3 => some (spotSection3 s i)
  | 4 => some (spotSection4 s i)
  | 5 => some (spotSection5 s i)
  | 6 => some (spotSection6 s i)
  | 7 => some (spotSection7 s i)
  | 8 => some (spotSection8 s i)
  | 9 => some (spotSection9 s i)
  | 10 => some (spotSection10 s i)
  | 11 => some (spotSection11 s i)
  | _ => none

/-- A mark byte of a request: 0 no, 1 yes, `none` otherwise (R189, log 19). -/
def markOf (b : Byte) : Option Bool :=
  if b = 0 then some false else if b = 1 then some true else none

/-- READ_SPOT (R184, R186): past its RANGE checks it sets or clears the standing mark as the repeat mark says. -/
def readSpot (args : List Byte) (s : State) : State × Reply :=
  match args with
  | [n, part, mark] =>
    s.onSpot n (fun i =>
      match spotSection s i part.toNat, markOf mark with
      | some data, some b => (s.setStanding i b).done data
      | _, _ => s.refuse .range)
  | _ => s.refuse .badRequest

/-- READ_SPOT. -/
def execReadSpot (s : State) : Host.Outcome State Fault Refusal := s.request 0x02 readSpot

/-! ## READ_RECORD -/

/-- A car number: count, then characters (R193). -/
def carBytes (car : List Byte) : List Byte := byte car.length :: car

/-- READ_RECORD section 1 (R184). -/
def recordSection1 (count : Nat) (r : CarRecord) : List Byte :=
  [byte count] ++ carBytes r.car ++ [byte (r.group.val + 1)] ++ bytes2 r.density ++ bytes4 r.declared
    ++ bytes2 r.maxPressure ++ bytes2 r.residual ++ [r.status.code]
    ++ bytesOpt (match r.status with
                 | .bound i => some [byte (spotNumber i)]
                 | .waiting => none
                 | .done => none)

/-- The end record flags in member order (R192). -/
def EndRecord.flags (e : EndRecord) : List Bool := [e.tempClamped, e.short, e.excessSeen, e.heel]

/-- READ_RECORD section 2 (R184). -/
def recordSection2 (r : CarRecord) : List Byte :=
  bytesOpt (r.endRecord.map (fun e =>
    [byte (spotNumber e.spot), e.outcome.code] ++ bytesSet e.flags ++ [byte e.passes]
      ++ bytesOpt (e.finalPressure.map bytesS2) ++ bytes8 e.remaining))

/-- READ_RECORD section 3 (R184). -/
def recordSection3 (r : CarRecord) : List Byte :=
  bytesOpt (r.endRecord.map (fun e => bytes8 e.credited ++ bytes8 e.rejected ++ bytes8 e.gross))

/-- READ_RECORD section 4 (R184). -/
def recordSection4 (r : CarRecord) : List Byte :=
  bytesOpt (r.endRecord.map (fun e => bytes8 e.net ++ bytes8 e.mass))

/-- READ_RECORD (R55, R184). -/
def readRecord (args : List Byte) (s : State) : State × Reply :=
  match args with
  | [position, part] =>
    match recordAt s.manifest position.toNat with
    | none => s.refuse .notFound
    | some r =>
      match part.toNat with
      | 1 => s.done (recordSection1 s.manifest.length r)
      | 2 => s.done (recordSection2 r)
      | 3 => s.done (recordSection3 r)
      | 4 => s.done (recordSection4 r)
      | _ => s.refuse .range
  | _ => s.refuse .badRequest

/-- READ_RECORD. -/
def execReadRecord (s : State) : Host.Outcome State Fault Refusal := s.request 0x03 readRecord

/-! ## READ_HISTORY -/

/-- The contents of a window position: a rate, or FFFFh for an empty one (R192). -/
def placeBytes (o : Option Nat) : List Byte :=
  match o with
  | some q => bytes2 q
  | none => bytes2 65535

/-- The 8 positions from a start index, wrapping from 7 to 0 (R185). -/
def RateWindow.fromIndex (w : RateWindow) (k : Fin 8) : List Byte :=
  ([0, 1, 2, 3, 4, 5, 6, 7] : List (Fin 8)).flatMap (fun j => placeBytes (w.places.get (k + j)))

/-- READ_HISTORY (R185). The next position takes one byte (log 42, DESIGN CHOICE). -/
def readHistory (args : List Byte) (s : State) : State × Reply :=
  match args with
  | [n, start] =>
    s.onSpot n (fun i =>
      if h : start.toNat < 8 then
        let w := (s.spot i).window
        s.done ([byte (spotNumber i), byte w.next.val, byte w.count] ++ w.fromIndex ⟨start.toNat, h⟩)
      else s.refuse .range)
  | _ => s.refuse .badRequest

/-- READ_HISTORY. -/
def execReadHistory (s : State) : Host.Outcome State Fault Refusal := s.request 0x04 readHistory

/-! ## READ_COMPRESSOR -/

/-- A compressor record in the order and sizes of LOAD_COMPRESSOR (R193). -/
def compRecordBytes (r : CompRecord) : List Byte := bytes2 r.popdown ++ [byte r.startLimit, byte r.startTimeout]

/-- A spot with its demand (R184). -/
def State.spotDemand (s : State) (i : SpotId) : List Byte := [byte (spotNumber i), (s.spot i).demand.code]

/-- READ_COMPRESSOR section 1 (R156, R184; log 18). -/
def compSection1 (s : State) (c : CompId) : List Byte :=
  let x := s.comp c
  let state := s.compEntry .compState c
  bytesOpt (x.record.map compRecordBytes) ++ [x.level.code]
    ++ bytesOpt ((s.direction c).map (fun d => [d.code]))
    ++ places Config.branches (x.attached.map s.spotDemand)
    ++ [(s.resolved c).code] ++ bytesMark x.deferred ++ bytesMark x.held
    ++ s.left x.popdown ++ s.left (x.confirm.map (·.deadline))
    ++ bytesOpt (x.confirm.map (fun t => [t.awaits.code]))
    ++ bytesOpt ((lastOf state).map Value.bytes)
    ++ bytesOpt (state.map (fun p => bytesMark p.2.isStale))
    ++ bytesSet (unavailability s c)

/-- READ_COMPRESSOR section 2: the residency counts (R184). -/
def compSection2 (s : State) (c : CompId) : List Byte := (s.comp c).residency.toList.flatMap bytes4

/-- READ_COMPRESSOR section 3: start limit, number of entries, entries 1 to 6 (R184; log 18). -/
def compSection3 (s : State) (c : CompId) : List Byte :=
  let x := s.comp c
  bytesOpt (x.record.map (fun r => [byte r.startLimit])) ++ [byte x.history.length] ++
    places 6 (x.history.map bytes4)

/-- READ_COMPRESSOR section 4: entries 7 to 12 (R184). -/
def compSection4 (s : State) (c : CompId) : List Byte := places 6 (((s.comp c).history.drop 6).map bytes4)

/-- READ_COMPRESSOR section 5: the wait list in order (R184). -/
def compSection5 (s : State) : List Byte := bytesCounted (s.waitList.map s.spotDemand)

/-- The residency counts of a compressor are zeroed (R153). -/
def State.clearResidency (s : State) (c : CompId) : State :=
  s.modComp c (fun x => { x with residency := Vector.replicate 8 0 })

/-- READ_COMPRESSOR (R156, R184): the clear mark is taken with section 2 alone, and zeroes the counts after they
have been placed in the reply. -/
def readCompressor (args : List Byte) (s : State) : State × Reply :=
  match args with
  | [n, part, mark] =>
    match compId n.toNat, markOf mark with
    | some c, some clear =>
      match part.toNat, clear with
      | 1, false => s.done (compSection1 s c)
      | 2, false => s.done (compSection2 s c)
      | 2, true => (s.clearResidency c).done (compSection2 s c)
      | 3, false => s.done (compSection3 s c)
      | 4, false => s.done (compSection4 s c)
      | 5, false => s.done (compSection5 s)
      | _, _ => s.refuse .range
    | _, _ => s.refuse .range
  | _ => s.refuse .badRequest

/-- READ_COMPRESSOR. -/
def execReadCompressor (s : State) : Host.Outcome State Fault Refusal := s.request 0x05 readCompressor

/-! ## READ_CHANNEL -/

/-- The key, role and owner of an entry (R37). -/
def keyBytes (e : MapEntry) : List Byte := [e.node, e.channel, e.role.code, byte e.owner]

/-- READ_CHANNEL of an input entry (R37; log 18). -/
def inputBytes (e : MapEntry) (d : Dynamic) : List Byte :=
  keyBytes e ++ bytes2 e.limit ++ bytesOpt (d.last.map Value.bytes) ++ bytesMark d.clamped
    ++ bytesOpt (d.seq.map (fun b => [b])) ++ bytesOpt (d.acceptedAt.map bytes4) ++ bytesMark d.stale
    ++ (if e.role = .meter then
          bytesOpt (d.baseline.map (fun b => bytes2 b.count.toNat))
            ++ bytesOpt (d.baseline.map (fun b => bytes2 b.time.toNat))
        else [])

/-- READ_CHANNEL of an output entry (R168): the reported value is the observed position in MONITOR and the latch in
DRIVE; the other value stands alongside. -/
def outputBytes (s : State) (idx : Nat) (e : MapEntry) (o : Output) : List Byte :=
  let seen := (s.observed e.role e.owner).code
  keyBytes e ++ [o.safe.code, o.direction.code]
    ++ (match o.direction with
        | .monitor => [seen, o.latch.code]
        | .drive => [o.latch.code, seen])
    ++ bytesOpt ((outgoing s.sdu.device o).map (fun c => [c.code]))
    ++ bytesOpt ((queuedCommand idx s.rpu).map (fun c => [c.code]))
    ++ s.left o.refresh ++ [s.rpu.sequenceOf idx]

/-- The data READ_CHANNEL returns for an entry (R37, R168). -/
def channelBytes (s : State) (idx : Nat) (e : MapEntry) : List Byte :=
  match e.body with
  | .input d => inputBytes e d
  | .output o => outputBytes s idx e o

/-- READ_CHANNEL (R37, R168). -/
def readChannel (args : List Byte) (s : State) : State × Reply :=
  match args with
  | [idx] =>
    match entryAt s.imap idx.toNat with
    | some e => s.done (channelBytes s idx.toNat e)
    | none => s.refuse .notFound
  | _ => s.refuse .badRequest

/-- READ_CHANNEL. -/
def execReadChannel (s : State) : Host.Outcome State Fault Refusal := s.request 0x06 readChannel

end Sys2Proof.Machine
end

