-- ==== Sys2Proof/Machine/Loads.lean ====
section
/-! DEFINITION. The load requests: map, spots, curves, product groups, compressors, cars (R20 to R23, R39 to R53, R157). -/

namespace Sys2Proof.Machine

/-- A number lies in a range. -/
def within (lo hi n : Nat) : Bool := decide (lo ≤ n) && decide (n ≤ hi)

/-! ## LOAD_MAP_ENTRY: checks (R20, R21) -/

/-- The fields of a write of LOAD_MAP_ENTRY, its role code known (R192). -/
structure MapWrite where
  node    : Byte
  channel : Byte
  role    : Role
  owner   : Nat
  limit   : Nat
  safe    : Byte
  deriving DecidableEq, Repr

/-- The limit of an entry is inside its range: 1 to 600, 0 for TAG alone (R19, R20; log 31). -/
def limitOk (r : Role) (limit : Nat) : Bool :=
  decide (limit ≤ 600) && (decide (limit ≠ 0) || decide (r = .tag))

/-- The safe value of an output role, `none` where the byte is no command of the role; an input role carries none and
its byte is ignored (R19, R20; log 20). -/
def safeOk (r : Role) (b : Byte) : Bool :=
  if r.isOutput then
    match commandOf b with
    | some c => commandSuits r c
    | none => false
  else true

/-- The RANGE check of a write (R20). -/
def writeInRange (address : Option Byte) (w : MapWrite) : Bool :=
  decide (w.node ≠ 0) && decide (w.node ≠ 255) && decide (some w.node ≠ address)
    && decide (w.channel.toNat ≤ 15) && ownerOk w.role w.owner && limitOk w.role w.limit && safeOk w.role w.safe

/-- A compressor is in use: a spot is attached, or its level is other than STOPPED or UNAVAILABLE (R21, R45). -/
def State.compInUse (s : State) (c : CompId) : Bool :=
  !(s.comp c).attached.isEmpty ||
    !(decide ((s.comp c).level = .stopped) || decide ((s.comp c).level = .unavailable))

/-- A spot is in use (R21, R39). -/
def State.spotInUse (s : State) (i : SpotId) : Bool := (s.spot i).state.inUse

/-- An owner concerned in a load is in use (R21). The test of an output entry in DRIVE adds nothing to it: an active
state is a state in use, and an attached spot is a compressor in use. -/
def State.ownerInUse (s : State) (r : Role) (owner : Nat) : Bool :=
  (concernedSpots s r owner).any s.spotInUse ||
    (decide (r.ownerKind = .compressor) && (compId owner).any s.compInUse)

/-- The owner of the entry at an index, if there is one, is in use (R21). -/
def State.entryInUse (s : State) (old : Option MapEntry) : Bool :=
  match old with
  | some e => s.ownerInUse e.role e.owner
  | none => false

/-- A write duplicates an entry at another index: its key, or the role and owner of a role with one entry per owner
(R20). -/
def duplicates (m : List (Nat × MapEntry)) (idx : Nat) (w : MapWrite) : Bool :=
  m.any (fun p => decide (p.1 ≠ idx) &&
    ((decide (p.2.node = w.node) && decide (p.2.channel = w.channel)) ||
      (decide (w.role ≠ .gas) && decide (p.2.role = w.role) && decide (p.2.owner = w.owner))))

/-! ## LOAD_MAP_ENTRY: effects (R22, R23) -/

/-- Any actuate queued for the index is removed and its actuate sequence becomes 0 (R22, R23). -/
def State.clearIndex (s : State) (idx : Nat) : State :=
  s.modRpu (fun r => (dropActuate idx r).setSequence idx 0)

/-- A compressor whose entry was written, removed or changed direction is tested for its unavailability conditions
(R23, R30, R139, R167). -/
def State.checkOwner (s : State) (r : Role) (owner : Nat) : State :=
  if r.ownerKind = .compressor then
    match compId owner with
    | some c => s.checkUsable c
    | none => s
  else s

/-- The entry at an index is withdrawn. A compressor that loses its entry becomes UNAVAILABLE (R23, R139); nothing else an
owner is told has an effect on a spot that R21 lets through. -/
def State.withdraw (s : State) (idx : Nat) (e : MapEntry) : State :=
  ({ s with imap := dropEntry s.imap idx }).checkOwner e.role e.owner

/-- The body of a new entry: an input entry stale with its dynamic state cleared, but for a TAG with limit 0; an output
entry in MONITOR with its latch at its safe value (R22, R157). -/
def newBody (w : MapWrite) : EntryBody :=
  match w.role.isOutput, commandOf w.safe with
  | true, some c => .output ⟨c, .monitor, c, none⟩
  | _, _ => .input ⟨none, false, none, none, none, decide (w.limit ≠ 0)⟩

/-- The new entry of a write (R22). -/
def newEntry (w : MapWrite) : MapEntry := ⟨w.node, w.channel, w.role, w.owner, w.limit, newBody w⟩

/-- R22 step 4 for the entry just stored: an image is taken afresh, a LIQ_CMD latch receives CLOSED, and the owner of an
input entry is told that it is stale. -/
def State.takeEntry (s : State) (idx : Nat) (w : MapWrite) : State :=
  match newBody w with
  | .output _ =>
    let s := s.settleOutput idx none
    let s := if w.role = .liqCmd then s.writeLatch .liqCmd w.owner .closed else s
    s.checkOwner w.role w.owner
  | .input d => if d.stale then s.tellStale w.role w.owner (concernedSpots s w.role w.owner) else s

/-- The spots of two lists, ascending, each once (R22 step 5). -/
def bothSpots (a b : List SpotId) : List SpotId := allSpots.filter (fun i => a.contains i || b.contains i)

/-- The spots the old entry of an index concerns. -/
def State.oldSpots (s : State) (old : Option MapEntry) : List SpotId :=
  match old with
  | some e => concernedSpots s e.role e.owner
  | none => []

/-- R22 step 2. A compressor whose entry is replaced by one of the same role and owner never lacks it (log 34). -/
def State.withdrawOld (s : State) (idx : Nat) (w : MapWrite) (old : Option MapEntry) : State :=
  match old with
  | some e => if e.role = w.role ∧ e.owner = w.owner then s else s.withdraw idx e
  | none => s

/-- R22: an accepted write. -/
def State.writeEntry (s : State) (idx : Nat) (w : MapWrite) : State :=
  let old := entryAt s.imap idx
  let spots := bothSpots (s.oldSpots old) (concernedSpots s w.role w.owner)
  let s := (s.clearIndex idx).withdrawOld idx w old
  let s := { s with imap := putEntry s.imap idx (newEntry w) }
  ((s.takeEntry idx w).reevaluateAll spots).endScan

/-- R23: an accepted removal. -/
def State.removeEntry (s : State) (idx : Nat) (e : MapEntry) : State :=
  (((s.clearIndex idx).withdraw idx e).reevaluateAll (concernedSpots s e.role e.owner)).endScan

/-- The checks of a write after BAD_REQUEST, and its effect (R20, R22). -/
def loadEntry (idx : Nat) (w : MapWrite) (s : State) : State × Reply :=
  if !writeInRange s.rpu.address w then s.refuse .range
  else if s.entryInUse (entryAt s.imap idx) || s.ownerInUse w.role w.owner then s.refuse .inUse
  else if duplicates s.imap idx w then s.refuse .duplicate
  else (s.writeEntry idx w).done []

/-- The checks of a removal, and its effect (R20, R23). -/
def unloadEntry (idx : Nat) (s : State) : State × Reply :=
  match entryAt s.imap idx with
  | some e => if s.ownerInUse e.role e.owner then s.refuse .inUse else (s.removeEntry idx e).done []
  | none => s.refuse .notFound

/-- LOAD_MAP_ENTRY (R20 to R23). -/
def loadMap (args : List Byte) (s : State) : State × Reply :=
  match args with
  | [idx] => unloadEntry idx.toNat s
  | [idx, node, channel, role, owner, l1, l0, safe] =>
    match roleOf role with
    | some r => loadEntry idx.toNat ⟨node, channel, r, owner.toNat, num2 l1 l0, safe⟩ s
    | none => s.refuse .badRequest
  | _ => s.refuse .badRequest

/-- LOAD_MAP_ENTRY. -/
def execLoadMapEntry (s : State) : Host.Outcome State Fault Refusal := s.request 0x10 loadMap

/-! ## LOAD_SPOT (R38 to R41) -/

/-- A two-byte field with a default: FFFFh is the default mark (R192). -/
def default2 (d n : Nat) : Nat := if n = 65535 then d else n

/-- A one-byte field with a default: FFh is the default mark (R192). -/
def default1 (d n : Nat) : Nat := if n = 255 then d else n

/-- The alternate compressor of a record: 0 and the default mark are absent (R38, R192). The outer option is the range. -/
def alternateOf (primary n : Nat) : Option (Option CompId) :=
  if n = 0 ∨ n = 255 then some none
  else if n = primary then none
  else (compId n).map some

/-- The numbers of a LOAD_SPOT after the spot number, as the body gives them (R192). -/
structure SpotFields where
  enabled   : Byte
  primary   : Nat
  alternate : Nat
  tank      : Nat
  dpStart   : Nat
  heelRate  : Nat
  travel    : Nat
  pressurise : Nat
  suspend   : Nat
  guard     : Nat
  pass      : Nat
  settle    : Nat
  rebound   : Nat
  kc        : Nat
  plausible : Nat
  deriving DecidableEq, Repr

/-- Every numeric field of a LOAD_SPOT is inside its range, defaults taken (R38, R42). The default mark of a field
without a default is outside the field's range, but for the plausibility limit, where FFFFh is a value (log 22). -/
def SpotFields.inRange (f : SpotFields) : Bool :=
  within 1 4 f.tank && within 50 400 (default2 150 f.dpStart) && within 10 500 f.heelRate
    && within 5 120 f.travel && within 60 1800 f.pressurise && within 60 7200 f.suspend
    && within 0 120 (default1 30 f.guard) && within 60 1800 f.pass && within 30 600 f.settle
    && within 0 100 f.rebound && within 1000 100000 f.kc && within 1 65535 f.plausible

/-- The record the fields give, with a curve kept from the old record; `none` where a field is out of range (R39). -/
def SpotFields.record (f : SpotFields) (curve : List CurvePoint) : Option SpotRecord :=
  match markOf f.enabled, compId f.primary, alternateOf f.primary f.alternate with
  | some enabled, some primary, some alternate =>
    if f.inRange then
      some { enabled := enabled
             primary := primary
             alternate := alternate
             tank := f.tank
             dpStart := default2 150 f.dpStart
             heelRate := f.heelRate
             travelLimit := f.travel
             pressuriseLimit := f.pressurise
             suspendLimit := f.suspend
             resumeGuard := default1 30 f.guard
             passLimit := f.pass
             settleTime := f.settle
             rebound := f.rebound
             kc := f.kc
             plausibility := f.plausible
             curve := curve }
    else none
  | _, _, _ => none

/-- The curve a spot keeps across LOAD_SPOT: its record's, or empty for a first record (R40). -/
def State.keptCurve (s : State) (i : SpotId) : List CurvePoint :=
  match s.record i with
  | some r => r.curve
  | none => []

/-- Set the record of a spot. -/
def State.setRecord (s : State) (i : SpotId) (r : SpotRecord) : State :=
  { s with table := s.table.set i.val (some r) i.isLt }

/-- The state a spot has after LOAD_SPOT (R41). -/
def stateAfterLoad (st : SpotState) (enabled : Bool) : SpotState :=
  match st with
  | .disabled => if enabled then .vacant else .disabled
  | .vacant => if enabled then .vacant else .disabled
  | _ => st

/-- R40 and R41: an accepted LOAD_SPOT. UNKNOWN_TAG is cleared on the way from VACANT to DISABLED, in the one re-evaluation
of the request, and the CHANGED notice of a condition is offered before the SPOT_STATE notice (log 45, DESIGN CHOICE). -/
def State.storeRecord (s : State) (i : SpotId) (r : SpotRecord) : State :=
  let before := (s.spot i).state
  let after := stateAfterLoad before r.enabled
  let unknown := (s.values i).unknownTag && !(decide (before = .vacant) && decide (after = .disabled))
  let s := s.setRecord i r
  let s := s.storeConditions i (conditionSet s i unknown)
  if after = before then s else s.changeState i after

/-- The checks of LOAD_SPOT after BAD_REQUEST, and its effect (R39). -/
def loadSpotFields (n : Byte) (f : SpotFields) (s : State) : State × Reply :=
  s.onSpot n (fun i =>
    match f.record (s.keptCurve i) with
    | none => s.refuse .range
    | some r => if s.spotInUse i then s.refuse .inUse else (s.storeRecord i r).done [])

/-- LOAD_SPOT (R39 to R41). -/
def loadSpotRecord (args : List Byte) (s : State) : State × Reply :=
  match args with
  | [n, enabled, primary, alternate, tank, d1, d0, h1, h0, travel, p1, p0, u1, u0, guard, q1, q0, t1, t0, rebound,
     k3, k2, k1, k0, l1, l0] =>
    loadSpotFields n
      { enabled := enabled
        primary := primary.toNat
        alternate := alternate.toNat
        tank := tank.toNat
        dpStart := num2 d1 d0
        heelRate := num2 h1 h0
        travel := travel.toNat
        pressurise := num2 p1 p0
        suspend := num2 u1 u0
        guard := guard.toNat
        pass := num2 q1 q0
        settle := num2 t1 t0
        rebound := rebound.toNat
        kc := num4 k3 k2 k1 k0
        plausible := num2 l1 l0 } s
  | _ => s.refuse .badRequest

/-- LOAD_SPOT. -/
def execLoadSpot (s : State) : Host.Outcome State Fault Refusal := s.request 0x11 loadSpotRecord

/-! ## LOAD_METER_CURVE (R42, R43) -/

/-- Exactly `n` points of four bytes each. -/
def pointsOf (n : Nat) (l : List Byte) : Option (List CurvePoint) :=
  match n, l with
  | 0, [] => some []
  | n + 1, r1 :: r0 :: m1 :: m0 :: rest => (pointsOf n rest).map (fun ps => ⟨num2 r1 r0, num2 m1 m0⟩ :: ps)
  | _, _ => none

/-- A point is inside the ranges of R42. -/
def pointOk (p : CurvePoint) : Bool := decide (p.rate ≤ 9999) && within 9500 10500 p.mf

/-- The rates strictly increase along the list (R42, R43). -/
def ratesRise : List CurvePoint → Bool
  | [] => true
  | [_] => true
  | p :: q :: rest => decide (p.rate < q.rate) && ratesRise (q :: rest)

/-- The checks of LOAD_METER_CURVE after BAD_REQUEST, and its effect (R43). -/
def loadCurvePoints (n : Byte) (points : List CurvePoint) (s : State) : State × Reply :=
  s.onSpot n (fun i =>
    if !points.all pointOk then s.refuse .range
    else if !ratesRise points then s.refuse .order
    else
      match s.record i with
      | none => s.refuse .notFound
      | some r =>
        if s.spotInUse i then s.refuse .inUse else (s.setRecord i { r with curve := points }).done [])

/-- LOAD_METER_CURVE (R43). -/
def loadCurve (args : List Byte) (s : State) : State × Reply :=
  match args with
  | n :: count :: rest =>
    match within 1 8 count.toNat, pointsOf count.toNat rest with
    | true, some points => loadCurvePoints n points s
    | _, _ => s.refuse .badRequest
  | _ => s.refuse .badRequest

/-- LOAD_METER_CURVE. -/
def execLoadMeterCurve (s : State) : Host.Outcome State Fault Refusal := s.request 0x12 loadCurve

/-! ## LOAD_PRODUCT_SEGMENT (R46 to R48) -/

/-- Exactly `n` values of four bytes each. -/
def valuesOf (n : Nat) (l : List Byte) : Option (List Nat) :=
  match n, l with
  | 0, [] => some []
  | n + 1, a :: b :: c :: d :: rest => (valuesOf n rest).map (fun vs => num4 a b c d :: vs)
  | _, _ => none

/-- The values are written into the points from the start index on (R48). -/
def writePoints (g : Group) (start : Nat) (values : List Nat) : Group :=
  match values with
  | [] => g
  | v :: rest => writePoints (if h : start < 23 then g.set start (some v) h else g) (start + 1) rest

/-- Some spot in an active state holds a BOUND record of the group (R47). -/
def State.groupInUse (s : State) (g : Fin 4) : Bool :=
  allSpots.any (fun i => s.isActive i && (s.boundRecord i).any (fun r => decide (r.group = g)))

/-- The checks of LOAD_PRODUCT_SEGMENT after BAD_REQUEST, and its effect (R47, R48). -/
def loadValues (group start : Nat) (values : List Nat) (s : State) : State × Reply :=
  match compId group with
  | none => s.refuse .range
  | some g =>
    if 23 < start + values.length || !values.all (within 90000 115000) then s.refuse .range
    else if s.groupInUse g then s.refuse .inUse
    else
      ({ s with groups := s.groups.set g.val (writePoints (s.groups.get g) start values) g.isLt }).done []

/-- LOAD_PRODUCT_SEGMENT (R47, R48). -/
def loadSegment (args : List Byte) (s : State) : State × Reply :=
  match args with
  | group :: start :: count :: rest =>
    match within 1 8 count.toNat, valuesOf count.toNat rest with
    | true, some values => loadValues group.toNat start.toNat values s
    | _, _ => s.refuse .badRequest
  | _ => s.refuse .badRequest

/-- LOAD_PRODUCT_SEGMENT. -/
def execLoadProductSegment (s : State) : Host.Outcome State Fault Refusal := s.request 0x13 loadSegment

/-! ## LOAD_COMPRESSOR (R44, R45) -/

/-- The record of three fields, defaults taken; `none` out of range (R44, R192). -/
def compRecordOf (popdown limit timeout : Nat) : Option CompRecord :=
  let p := default2 120 popdown
  let l := default1 6 limit
  let t := default1 30 timeout
  if within 30 900 p && within 1 12 l && within 10 120 t then some ⟨p, l, t⟩ else none

/-- An accepted write of a compressor record; the rest of the context is kept (R45). -/
def State.storeCompRecord (s : State) (c : CompId) (r : CompRecord) : State :=
  s.modComp c (fun x => { x with record := some r })

/-- An accepted removal empties the slot, and a STOPPED compressor becomes UNAVAILABLE (R45, R139). -/
def State.removeCompRecord (s : State) (c : CompId) : State :=
  ((s.modComp c (fun x => { x with record := none })).checkUsable c).endScan

/-- LOAD_COMPRESSOR (R45). A removal is a compressor and FFh (R192, log 21). -/
def loadCompRecord (args : List Byte) (s : State) : State × Reply :=
  match args with
  | [n, mark] =>
    if mark = 255 then
      match compId n.toNat with
      | none => s.refuse .range
      | some c =>
        if (s.comp c).record.isNone then s.refuse .notFound
        else if s.compInUse c then s.refuse .inUse
        else (s.removeCompRecord c).done []
    else s.refuse .badRequest
  | [n, p1, p0, limit, timeout] =>
    match compId n.toNat, compRecordOf (num2 p1 p0) limit.toNat timeout.toNat with
    | some c, some r => if s.compInUse c then s.refuse .inUse else (s.storeCompRecord c r).done []
    | _, _ => s.refuse .range
  | _ => s.refuse .badRequest

/-- LOAD_COMPRESSOR. -/
def execLoadCompressor (s : State) : Host.Outcome State Fault Refusal := s.request 0x14 loadCompRecord

/-! ## ADD_CAR and REMOVE_CAR (R49 to R53) -/

/-- A character code of a car number (R50). -/
def carCharOk (b : Byte) : Bool := within 32 126 b.toNat

/-- The fields after the car number are inside their ranges (R50). -/
def carFieldsOk (r : CarRecord) : Bool :=
  r.car.all carCharOk && within 4800 6000 r.density && within 1 150000 r.declared && within 500 2500 r.maxPressure
    && decide (r.residual ≤ 400)

/-- A record that is WAITING or BOUND has the car number (R52). -/
def carKnown (m : List CarRecord) (car : List Byte) : Bool :=
  m.any (fun r => decide (r.status ≠ .done) && decide (r.car = car))

/-- The checks of ADD_CAR after BAD_REQUEST, and its effect: the record joins the end of the list, and the reply
carries its position (R52). -/
def addRecord (group : Nat) (f : Fin 4 → CarRecord) (s : State) : State × Reply :=
  match compId group with
  | none => s.refuse .range
  | some g =>
    let r := f g
    if !carFieldsOk r then s.refuse .range
    else if Config.manifestCapacity ≤ s.manifest.length then s.refuse .full
    else if carKnown s.manifest r.car then s.refuse .duplicate
    else ({ s with manifest := s.manifest ++ [r] }).done [byte (s.manifest.length + 1)]

/-- ADD_CAR (R52). -/
def addCarRecord (args : List Byte) (s : State) : State × Reply :=
  match args with
  | count :: rest =>
    let n := count.toNat
    match within 1 10 n, rest.drop n with
    | true, [group, r1, r0, d3, d2, d1, d0, p1, p0, t1, t0] =>
      addRecord group.toNat
        (fun g => ⟨rest.take n, g, num2 r1 r0, num4 d3 d2 d1 d0, num2 p1 p0, num2 t1 t0, .waiting, none⟩) s
    | _, _ => s.refuse .badRequest
  | [] => s.refuse .badRequest

/-- ADD_CAR. -/
def execAddCar (s : State) : Host.Outcome State Fault Refusal := s.request 0x20 addCarRecord

/-- A last-held link after the record at a position has left the list: dropped, moved one place forward, or kept (R53). -/
def shiftLink (position : Nat) (link : Option Nat) : Option Nat :=
  match link with
  | none => none
  | some p => if p = position then none else if position < p then some (p - 1) else some p

/-- An accepted REMOVE_CAR (R53). -/
def State.removeRecord (s : State) (position : Nat) : State :=
  { s with
    manifest := s.manifest.eraseIdx (position - 1)
    spots := s.spots.map (fun x => { x with lastHeld := shiftLink position x.lastHeld }) }

/-- A record is BOUND. -/
def CarStatus.isBound : CarStatus → Bool
  | .bound _ => true
  | .waiting => false
  | .done => false

/-- REMOVE_CAR (R53). -/
def removeCarRecord (args : List Byte) (s : State) : State × Reply :=
  match args with
  | position :: count :: chars =>
    if within 1 10 count.toNat && decide (chars.length = count.toNat) then
      match recordAt s.manifest position.toNat with
      | none => s.refuse .notFound
      | some r =>
        if r.car ≠ chars then s.refuse .notFound
        else if r.status.isBound then s.refuse .inUse
        else (s.removeRecord position.toNat).done []
    else s.refuse .badRequest
  | _ => s.refuse .badRequest

/-- REMOVE_CAR. -/
def execRemoveCar (s : State) : Host.Outcome State Fault Refusal := s.request 0x21 removeCarRecord

end Sys2Proof.Machine
end

