-- ==== Sys2Proof/Machine/Transfers.lean ====
section
/-! DEFINITION. The transfer requests: START, SUSPEND, RESUME, STOP, ABORT, RELEASE, CLEAR (R63, R64, R77 to R84, R90, R104, R105).
-/

namespace Sys2Proof.Machine

/-- A request whose one parameter is a spot: BAD_REQUEST on any other length, then RANGE. -/
def spotRequest (f : SpotId → State → State × Reply) (args : List Byte) (s : State) : State × Reply :=
  match args with
  | [n] => s.onSpot n (fun i => f i s)
  | _ => s.refuse .badRequest

/-- A request of a spot that is refused with TRIPPED while the part is TRIPPED (R181). -/
def transferRequest (f : SpotId → State → State × Reply) : List Byte → State → State × Reply :=
  spotRequest (fun i s => s.inRun (f i s))

/-! ## START (R63, R64) -/

/-- An entry START requires is missing (R63). -/
def State.mapIncomplete (s : State) (i : SpotId) : Bool :=
  [Role.meter, .tempLiq, .pCar, .liqPos, .vapPos, .liqCmd, .vapCmd].any (fun r => (s.spotEntry r i).isNone) ||
    (s.tankEntry .pTank i).isNone

/-- A valve entry of the spot is in MONITOR (R63). -/
def State.valveLocal (s : State) (i : SpotId) : Bool :=
  notDriven (s.spotEntry .liqCmd i) || notDriven (s.spotEntry .vapCmd i)

/-- The meter curve of the spot is empty (R42). -/
def State.curveEmpty (s : State) (i : SpotId) : Bool := (s.keptCurve i).isEmpty

/-- Every point of a group is loaded (R46). -/
def usableGroup (g : Group) : Bool := g.toList.all Option.isSome

/-- The group of the bound record is usable (R46, R63). -/
def State.productReady (s : State) (i : SpotId) : Bool :=
  match s.boundRecord i with
  | some r => usableGroup (s.groups.get r.group)
  | none => false

/-- The context at START (R64): figures zeroed, context prepared, each live cause whose condition holds added (R90). -/
def startContext (live : Causes) (x : SpotContext) : SpotContext :=
  { x with
    acc := .zero
    causes := live
    saved := none
    passCount := 0
    sub := none
    stopMark := false
    heel := false
    excessSeen := false
    excessAck := false
    liquidConfirmed := false
    pendingOutcome := none
    lastResume := none
    window := .empty }

/-- R64: an accepted START. -/
def State.startTransfer (s : State) (i : SpotId) : State :=
  let s := s.modSpot i (startContext (liveCauses s i))
  let s := (s.writeValve .liqCmd i .closed).writeValve .vapCmd i .opened
  ((s.setState i .opening).startTravel i .vapPos .opened).announce i

/-- The checks of START after TRIPPED, and its effect (R63, R64). -/
def startSpot (i : SpotId) (s : State) : State × Reply :=
  if (s.spot i).state ≠ .ready then s.refuse .state
  else if s.mapIncomplete i then s.refuse .mapIncomplete
  else if s.valveLocal i then s.refuse .localMode
  else if s.curveEmpty i then s.refuse .noCurve
  else if !s.productReady i then s.refuse .noProduct
  else if staleEntry (s.spotEntry .tempLiq i) || staleEntry (s.spotEntry .pCar i) then s.refuse .stale
  else (s.startTransfer i).done []

/-- START. -/
def execStart (s : State) : Host.Outcome State Fault Refusal := s.request 0x30 (transferRequest startSpot)

/-! ## SUSPEND and RESUME (R104, R105) -/

/-- The states in which SUSPEND is accepted (R104). -/
def SpotState.suspendable : SpotState → Bool
  | .pressurising => true
  | .unloading => true
  | .recovery => true
  | .suspended => true
  | _ => false

/-- The resume guard still refuses SUSPEND (R104). -/
def State.guarded (s : State) (i : SpotId) : Bool :=
  match (s.spot i).lastResume with
  | some t => decide (s.uptime - t < s.recordField i (·.resumeGuard))
  | none => false

/-- The checks of SUSPEND after TRIPPED, and its effect (R104). -/
def suspendSpot (i : SpotId) (s : State) : State × Reply :=
  if !(s.spot i).state.suspendable then s.refuse .state
  else if (s.spot i).causes.requested then s.refuse .already
  else if s.guarded i then s.refuse .tooSoon
  else ((s.changeCauses i (fun c => { c with requested := true })).endScan).done []

/-- SUSPEND. -/
def execSuspend (s : State) : Host.Outcome State Fault Refusal := s.request 0x31 (transferRequest suspendSpot)

/-- R105: an accepted RESUME removes the latched causes and attempts the return (R89, R100). -/
def State.resumeTransfer (s : State) (i : SpotId) : State :=
  let s := s.modSpot i (fun x =>
    { x with
      causes := { x.causes with requested := false, meterSuspect := false, excess := false }
      excessAck := x.excessAck || x.causes.excess
      lastResume := some s.uptime })
  (s.causeTest i).endScan

/-- The checks of RESUME after TRIPPED, and its effect (R105). -/
def resumeSpot (i : SpotId) (s : State) : State × Reply :=
  if (s.spot i).state ≠ .suspended then s.refuse .state
  else if (s.spot i).causes.live then s.refuse .causePresent
  else (s.resumeTransfer i).done []

/-- RESUME. -/
def execResume (s : State) : Host.Outcome State Fault Refusal := s.request 0x32 (transferRequest resumeSpot)

/-! ## STOP and ABORT (R77 to R79) -/

/-- STOP is accepted: PRESSURISING, UNLOADING, or SUSPENDED with one of them saved (R77). -/
def SpotContext.stoppable (x : SpotContext) : Bool :=
  match x.state with
  | .pressurising => true
  | .unloading => true
  | .suspended =>
    match x.saved with
    | some .pressurising => true
    | some .unloading => true
    | _ => false
  | _ => false

/-- The cause set is emptied and each live cause whose condition holds is added back (R90); an EXCESS that leaves is
acknowledged (R96). The saved state is cleared. -/
def emptyCauses (live : Causes) (x : SpotContext) : SpotContext :=
  { x with causes := live, saved := none, excessAck := x.excessAck || x.causes.excess }

/-- R77: an accepted STOP. -/
def State.stopTransfer (s : State) (i : SpotId) : State :=
  let s := s.modSpot i (emptyCauses (liveCauses s i))
  let s := s.modSpot i (fun x => { x with pressurise := none, suspendTimer := none, travel := none, stopMark := true })
  (s.enterLiquidClosing i).endScan

/-- The check of STOP after TRIPPED, and its effect (R77). -/
def stopSpot (i : SpotId) (s : State) : State × Reply :=
  if (s.spot i).stoppable then (s.stopTransfer i).done [] else s.refuse .state

/-- STOP. -/
def execStop (s : State) : Host.Outcome State Fault Refusal := s.request 0x33 (transferRequest stopSpot)

/-- R78: an accepted ABORT in an active state. -/
def State.abortTransfer (s : State) (i : SpotId) : State :=
  let before := (s.spot i).state
  let live := liveCauses s i
  let s := s.modSpot i (fun x => { x with pressurise := none, suspendTimer := none, pass := none, settle := none })
  let s := (s.closeValves i).modSpot i (emptyCauses live)
  let s := (s.modSpot i (fun x => { x with sub := none })).handDemand i .none
  let s := s.modSpot i (fun x => { x with pendingOutcome := some .aborted })
  let s := if before = .closing then s
           else ((s.setState i .closing).startTravel i .vapPos .closed).announce i
  s.endScan

/-- ABORT after TRIPPED: an active transfer (R78), a bound car not started (R79), or STATE. -/
def abortSpot (i : SpotId) (s : State) : State × Reply :=
  if s.isActive i then (s.abortTransfer i).done []
  else if (s.spot i).state = .identified ∨ (s.spot i).state = .ready then
    (s.endTransfer i .aborted .complete false).done []
  else s.refuse .state

/-- ABORT. -/
def execAbort (s : State) : Host.Outcome State Fault Refusal := s.request 0x34 (transferRequest abortSpot)

/-! ## RELEASE and CLEAR (R82 to R84) -/

/-- The unassigned-pulses count becomes 0 and the standing report is cancelled (R82 to R84, R186). -/
def State.dropTally (s : State) (i : SpotId) : State :=
  (s.modSpot i (fun x => { x with unassigned := 0 })).setStanding i false

/-- The checks of RELEASE after RANGE, and its effect (R82). -/
def releaseSpot (i : SpotId) (s : State) : State × Reply :=
  if (s.spot i).state ≠ .complete then s.refuse .state
  else if (s.values i).armLiq || (s.values i).armVap then s.refuse .connected
  else ((s.dropTally i).changeState i (s.restState i)).done []

/-- RELEASE. -/
def execRelease (s : State) : Host.Outcome State Fault Refusal := s.request 0x35 (spotRequest releaseSpot)

/-- The observed positions of LIQ_POS and VAP_POS are both CLOSED (R83). -/
def State.valvesClosed (s : State) (i : SpotId) : Bool :=
  decide (observedValve (s.spotEntry .liqPos i) = .closed) && decide (observedValve (s.spotEntry .vapPos i) = .closed)

/-- R84: the last tag of a VACANT spot is matched again; UNKNOWN_TAG changes only where the outcome differs from
what stood before. -/
def State.clearVacant (s : State) (i : SpotId) : State :=
  let s := s.dropTally i
  match lastOf (s.spotEntry .tag i) with
  | some (.tag chars) => s.matchTag i chars
  | _ => s.reportUnknownTag i false

/-- CLEAR after RANGE (R83, R84). -/
def clearSpot (i : SpotId) (s : State) : State × Reply :=
  match (s.spot i).state with
  | .faulted =>
    if s.valvesClosed i then
      (((s.dropTally i).reportUnknownTag i false).changeState i (s.restState i)).done []
    else s.refuse .notClosed
  | .vacant => (s.clearVacant i).done []
  | _ => s.refuse .state

/-- CLEAR. -/
def execClear (s : State) : Host.Outcome State Fault Refusal := s.request 0x36 (spotRequest clearSpot)

end Sys2Proof.Machine
end

