-- ==== Sys2Proof/Machine/Part.lean ====
section
/-! DEFINITION. The requests of the channels, the conditions and the whole part: SET_CHANNEL_MODE (R165 to R167), ACK_CHANGES (R35),
TRIP, TRIP_RESET, RESET_PART (R177 to R179). -/

namespace Sys2Proof.Machine

/-! ## SET_CHANNEL_MODE (R165 to R167) -/

/-- The owner of an output entry forbids a change of direction: its spot is in an active state, or its compressor has an
attached spot (R165). -/
def State.channelInUse (s : State) (e : MapEntry) : Bool :=
  match e.role.ownerKind with
  | .compressor => (compId e.owner).any (fun c => !(s.comp c).attached.isEmpty)
  | _ => (spotId e.owner).any s.isActive

/-- The initial command of a DRIVE request is a command of the role, and not OPEN for LIQ_CMD (R165). -/
def initialCommand (r : Role) (b : Byte) : Option Command :=
  match commandOf b with
  | some c => if commandSuits r c && !(decide (r = .liqCmd) && decide (c = .opened)) then some c else none
  | none => none

/-- The data of the reply: the image as READ_CHANNEL gives it after the request has taken effect (R167). -/
def State.imageReply (s : State) (idx : Nat) : List Byte :=
  match entryAt s.imap idx with
  | some e => channelBytes s idx e
  | none => []

/-- R166: the latch takes the initial command and the direction becomes DRIVE, in one change of the image. -/
def driveChannel (idx : Nat) (e : MapEntry) (cmd : Command) (s : State) : State × Reply :=
  if s.channelInUse e then s.refuse .inUse
  else
    let t := s.changeOutput idx (fun o => { o with latch := cmd, direction := .drive })
    t.done (t.imageReply idx)

/-- R167: the direction becomes MONITOR and the latch is kept; a compressor becomes UNAVAILABLE. A COMP_RUN entry still in DRIVE
sends the STOP that COMP_DIR's change to MONITOR writes (R160; log 44, DESIGN CHOICE). -/
def monitorChannel (idx : Nat) (e : MapEntry) (s : State) : State × Reply :=
  if s.channelInUse e then s.refuse .inUse
  else
    let t := ((s.changeOutput idx (fun o => { o with direction := .monitor })).checkOwner e.role e.owner).endScan
    t.done (t.imageReply idx)

/-- The output entry at an index (R165). -/
def State.outputAt (s : State) (idx : Nat) : Option MapEntry :=
  match entryAt s.imap idx with
  | some e =>
    match e.body with
    | .output _ => some e
    | .input _ => none
  | none => none

/-- SET_CHANNEL_MODE (R165 to R167). A body with the length of one form and the direction of the other is answered
BAD_REQUEST (log 40, DESIGN CHOICE). -/
def setMode (args : List Byte) (s : State) : State × Reply :=
  match args with
  | [idx, mode] =>
    if mode = 1 then
      match s.outputAt idx.toNat with
      | some e => monitorChannel idx.toNat e s
      | none => s.refuse .notFound
    else s.refuse .badRequest
  | [idx, mode, initial] =>
    if mode = 2 then
      match s.outputAt idx.toNat with
      | some e =>
        match initialCommand e.role initial with
        | some cmd => driveChannel idx.toNat e cmd s
        | none => s.refuse .range
      | none => s.refuse .notFound
    else s.refuse .badRequest
  | _ => s.refuse .badRequest

/-- SET_CHANNEL_MODE. -/
def execSetChannelMode (s : State) : Host.Outcome State Fault Refusal := s.request 0x40 setMode

/-! ## ACK_CHANGES (R35) -/

/-- The latches of the named conditions of a spot are cleared (R35). -/
def State.clearLatches (s : State) (i : SpotId) (named : Conditions) : State :=
  { s with conditions :=
      s.conditions.set i.val ⟨s.values i, (s.latches i).zip (fun l n => l && !n) named⟩ i.isLt }

/-- ACK_CHANGES (R35): bit 6 or bit 7 names no condition. -/
def ackSpot (args : List Byte) (s : State) : State × Reply :=
  match args with
  | [n, set] =>
    if bitOf set 6 || bitOf set 7 then s.refuse .badRequest
    else
      s.onSpot n (fun i =>
        let t := s.clearLatches i (conditionsOf set)
        t.done (bytesSet (t.values i).members ++ bytesSet (t.latches i).members))
  | _ => s.refuse .badRequest

/-- ACK_CHANGES. -/
def execAckChanges (s : State) : Host.Outcome State Fault Refusal := s.request 0x41 ackSpot

/-! ## TRIP and TRIP_RESET (R177, R178) -/

/-- TRIP (R177). -/
def tripPart (args : List Byte) (s : State) : State × Reply :=
  match args with
  | [] => (s.addTripCause causeRequested).done []
  | _ => s.refuse .badRequest

/-- TRIP. -/
def execTrip (s : State) : Host.Outcome State Fault Refusal := s.request 0x50 tripPart

/-- The cause set and the live conditions (R178). -/
def State.tripReport (s : State) : List Byte := bytesSet s.sdu.causes.members ++ bytesSet (liveConditions s)

/-- TRIP_RESET (R178). -/
def resetTrip (args : List Byte) (s : State) : State × Reply :=
  match args with
  | [] =>
    match s.sdu.device with
    | .run => s.refuse .state
    | .tripped =>
      if anyLive s then (s, ⟨.causePresent, s.tripReport⟩)
      else
        let t := s.enterRun
        t.done t.tripReport
  | _ => s.refuse .badRequest

/-- TRIP_RESET. -/
def execTripReset (s : State) : Host.Outcome State Fault Refusal := s.request 0x51 resetTrip

/-! ## RESET_PART (R15, R87, R155, R169, R179) -/

/-- R179 step 1: the reply fills the reservation; the queues are emptied but for the reply (R15, log 27). -/
def State.resetPort (s : State) (reply : Message) : State :=
  s.modRpu (fun r =>
    kick { r with requests := [], actuates := [], messages := fillReservation reply (onlyReservation r.messages) })

/-- R179 step 3: every standing report is cancelled. -/
def State.clearStanding (s : State) : State :=
  { s with mgu := { s.mgu with standing := Vector.replicate 16 false } }

/-- The direction of an image becomes MONITOR, its latch kept (R169). -/
def State.monitorOutput (s : State) (idx : Nat) : State :=
  s.changeOutput idx (fun o => { o with direction := .monitor })

/-- A compressor meets the MONITOR condition and ends with its COMP_RUN latch at STOP, one already UNAVAILABLE too (R155,
R179; log 41, DEDUCED). -/
def State.monitorComp (s : State) (c : CompId) : State :=
  (s.checkUsable c).writeComp .compRun c .stop

/-- R179 step 5 and R155: every image goes to MONITOR in ascending index order, and every compressor then meets the MONITOR
condition, in ascending order (log 36). -/
def State.monitorAll (s : State) : State :=
  let s := (outputIndexes s.imap).foldl State.monitorOutput s
  allComps.foldl State.monitorComp s

/-- R179 step 6: RESET is added. A part already TRIPPED offers every safe value as part of the request (R169). -/
def State.addReset (s : State) : State :=
  match s.sdu.device with
  | .run => s.addTripCause causeReset
  | .tripped => (s.addTripCause causeReset).forceAllSafe

/-- R179: RESET_PART takes effect after its reply has filled the reservation. -/
def State.resetEffect (s : State) (reply : Message) : State :=
  ((s.resetPort reply).resetSpots.clearStanding.tripComps.monitorAll.addReset).endScan

/-- RESET_PART: its reply comes first (R182); any parameter is refused (R179). -/
def State.carryReset (s : State) : State :=
  match s.mgu.held with
  | none => s
  | some q =>
    match q.body with
    | [] => s
    | c :: args =>
      if c = 0x52 then
        match args with
        | [] =>
          let t := s.resetEffect (replyMessage q ⟨.done, []⟩)
          State.takeRequest { t with mgu := { t.mgu with held := none } }
        | _ :: _ => s.answer q ⟨.badRequest, []⟩
      else s

/-- RESET_PART. -/
def execResetPart (s : State) : Host.Outcome State Fault Refusal := s.whenPowered State.carryReset

end Sys2Proof.Machine
end

