-- ==== Sys2Proof/Machine/Dispatch.lean ====
section
/-! DEFINITION. One arm per command. -/

namespace Sys2Proof.Machine

/-- The effect of a command on everything but the queue of waiting commands. -/
def exec (i : Instr) (s : State) : Host.Outcome State Fault Refusal :=
  match i with
  | .powerOn straps => Sys2Proof.Machine.execPowerOn straps s
  | .resetInput straps => Sys2Proof.Machine.execResetInput straps s
  | .esdLineAsserted => Sys2Proof.Machine.execEsdLineAsserted s
  | .esdLineReleased => Sys2Proof.Machine.execEsdLineReleased s
  | .frameArrival frame => Sys2Proof.Machine.execFrameArrival frame s
  | .transmitComplete => Sys2Proof.Machine.execTransmitComplete s
  | .silenceExpiry => Sys2Proof.Machine.execSilenceExpiry s
  | .stalenessExpiry index => Sys2Proof.Machine.execStalenessExpiry index s
  | .travelTimerExpiry number => Sys2Proof.Machine.execTravelTimerExpiry number s
  | .pressuriseTimerExpiry number => Sys2Proof.Machine.execPressuriseTimerExpiry number s
  | .suspendTimerExpiry number => Sys2Proof.Machine.execSuspendTimerExpiry number s
  | .passTimerExpiry number => Sys2Proof.Machine.execPassTimerExpiry number s
  | .settleTimerExpiry number => Sys2Proof.Machine.execSettleTimerExpiry number s
  | .confirmationTimerExpiry number => Sys2Proof.Machine.execConfirmationTimerExpiry number s
  | .popdownTimerExpiry number => Sys2Proof.Machine.execPopdownTimerExpiry number s
  | .startHistoryRemoval number => Sys2Proof.Machine.execStartHistoryRemoval number s
  | .refreshTimerExpiry index => Sys2Proof.Machine.execRefreshTimerExpiry index s
  | .residencyTick => Sys2Proof.Machine.execResidencyTick s
  | .readStatus => Sys2Proof.Machine.execReadStatus s
  | .readSpot => Sys2Proof.Machine.execReadSpot s
  | .readRecord => Sys2Proof.Machine.execReadRecord s
  | .readHistory => Sys2Proof.Machine.execReadHistory s
  | .readCompressor => Sys2Proof.Machine.execReadCompressor s
  | .readChannel => Sys2Proof.Machine.execReadChannel s
  | .loadMapEntry => Sys2Proof.Machine.execLoadMapEntry s
  | .loadSpot => Sys2Proof.Machine.execLoadSpot s
  | .loadMeterCurve => Sys2Proof.Machine.execLoadMeterCurve s
  | .loadProductSegment => Sys2Proof.Machine.execLoadProductSegment s
  | .loadCompressor => Sys2Proof.Machine.execLoadCompressor s
  | .addCar => Sys2Proof.Machine.execAddCar s
  | .removeCar => Sys2Proof.Machine.execRemoveCar s
  | .start => Sys2Proof.Machine.execStart s
  | .suspend => Sys2Proof.Machine.execSuspend s
  | .resume => Sys2Proof.Machine.execResume s
  | .stop => Sys2Proof.Machine.execStop s
  | .abort => Sys2Proof.Machine.execAbort s
  | .release => Sys2Proof.Machine.execRelease s
  | .clear => Sys2Proof.Machine.execClear s
  | .setChannelMode => Sys2Proof.Machine.execSetChannelMode s
  | .ackChanges => Sys2Proof.Machine.execAckChanges s
  | .trip => Sys2Proof.Machine.execTrip s
  | .tripReset => Sys2Proof.Machine.execTripReset s
  | .resetPart => Sys2Proof.Machine.execResetPart s
  | .unknownRequest => Sys2Proof.Machine.execUnknownRequest s
  | .lossOfSupply => Sys2Proof.Machine.execLossOfSupply s
  | .resetInputRelease => Sys2Proof.Machine.execResetInputRelease s

end Sys2Proof.Machine
end

