-- ==== Sys2Proof/Safety.lean ====
section
/-! DEFINITION. The terms the statements use: the laws a safe run keeps, how a request is held and answered, and what the end of a transfer
leaves behind. -/

namespace Sys2Proof.Machine

/-! ## Laws -/

/-- The trip output line is energised exactly while the powered part is in RUN (R170). -/
def LineOk (s : State) : Prop := s.pins.tripEnergised = (s.powered && decide (s.sdu.device = .run))

/-- No spot is in an active state while the part is TRIPPED (R86, R175). -/
def Quiet (s : State) : Prop := s.sdu.device = .tripped → ∀ i, s.isActive i = false

/-- The canonical form of the map: the indexes strictly rise. -/
def Rising (m : List (Nat × MapEntry)) : Prop := (m.map (·.1)).Pairwise (· < ·)

/-- The law of raw conservation at a spot (R112). -/
def Conserved (s : State) (i : SpotId) : Prop :=
  (s.spot i).acc.raw * s.recordField i (·.kc) + (s.spot i).acc.rawRes = (s.spot i).acc.credited * 100000

/-- The states in which a spot holds a BOUND record (R51). -/
def SpotState.holdsCar (st : SpotState) : Bool := st.active || decide (st = .identified) || decide (st = .ready)

/-- The number of records BOUND to a spot. -/
def boundCount (m : List CarRecord) (i : SpotId) : Nat := m.countP (fun c => decide (c.status = .bound i))

/-- The law of the manifest at a spot (R51): exactly one BOUND record in IDENTIFIED, READY and the active states, none
otherwise. -/
def BindOk (s : State) (i : SpotId) : Prop :=
  boundCount s.manifest i = if (s.spot i).state.holdsCar then 1 else 0

/-- The six fields of a manifest record that never change (R50). -/
def CarRecord.fixed (c : CarRecord) : List Byte × Fin 4 × Nat × Nat × Nat × Nat :=
  (c.car, c.group, c.density, c.declared, c.maxPressure, c.residual)

/-- The reservations in the message queue (R9). -/
def reservations (q : List Message) : Nat := q.countP (fun m => decide (m = .reservation))

/-- One reservation exactly while a request is held (R9, R182). -/
def ReservedOk (s : State) : Prop := reservations s.rpu.messages = if s.mgu.held.isSome then 1 else 0

/-- The ring port's queues are inside their capacities and the forward run count inside its range (01, section 1.1). -/
def PortOk (r : Rpu) : Prop :=
  r.forward.length ≤ Config.forwardCapacity ∧ r.requests.length ≤ Config.requestCapacity ∧
    r.messages.length ≤ Config.messageCapacity ∧ r.runCount ≤ Config.forwardRunLimit

/-- The map in its whole form: indexes rising and below 256, no key twice (R17), no role of one owner twice but for GAS,
owners inside their numbering, and an output image exactly at the output roles (R18). -/
structure MapOk (m : List (Nat × MapEntry)) : Prop where
  rising : Rising m
  index  : ∀ p ∈ m, p.1 < 256
  keys   : m.Pairwise (fun a b => ¬ (a.2.node = b.2.node ∧ a.2.channel = b.2.channel))
  owners : m.Pairwise (fun a b => ¬ (a.2.role = b.2.role ∧ a.2.owner = b.2.owner ∧ a.2.role ≠ .gas))
  suits  : ∀ p ∈ m, ownerOk p.2.role p.2.owner = true ∧ p.2.image.isSome = p.2.role.isOutput

/-- The actuation queue (R8, R160, R162): at most one entry for each map index and at most 40 in all, each for a present
output entry, with its key and the outgoing command it has now; in BAD_ADDRESS nothing is queued (R1). -/
structure ActuatesOk (s : State) : Prop where
  once  : (s.rpu.actuates.map (·.index)).Nodup
  count : s.rpu.actuates.length ≤ 40
  names : ∀ a ∈ s.rpu.actuates, ∃ e o, entryAt s.imap a.index = some e ∧ e.body = .output o ∧ e.node = a.node ∧
    e.channel = a.channel ∧ outgoing s.sdu.device o = some a.command
  silent : s.rpu.address = none → s.rpu.actuates = []

/-- A LIQ_CMD latch holds OPEN only while its spot is in UNLOADING (R159). -/
def LiquidOk (s : State) : Prop :=
  ∀ k e o, entryAt s.imap k = some e → e.body = .output o → e.role = .liqCmd → o.latch = .opened →
    ∃ i, spotId e.owner = some i ∧ (s.spot i).state = .unloading

/-- The refresh timer of an image runs exactly while its outgoing command is a command (R161). -/
def RefreshOk (s : State) : Prop :=
  ∀ k e o, entryAt s.imap k = some e → e.body = .output o → o.refresh.isSome = (outgoing s.sdu.device o).isSome

/-- Attached spots and the wait list (R145 to R147): at most two spots on a compressor, never PUSH beside RECOVER, none on
an UNAVAILABLE one; no spot in two places or twice on the list; an attached spot asks for its compressor, a waiting
one for flow, and a spot outside the active states for nothing. -/
structure ArbiterOk (s : State) : Prop where
  ascending : ∀ c, (s.comp c).attached.Pairwise (· < ·)
  branches  : ∀ c, (s.comp c).attached.length ≤ Config.branches
  oneHome   : ∀ c d i, i ∈ (s.comp c).attached → i ∈ (s.comp d).attached → c = d
  oneWay    : ∀ c i j, i ∈ (s.comp c).attached → j ∈ (s.comp c).attached → (s.spot i).demand = .push →
    (s.spot j).demand ≠ .recover
  asks      : ∀ c i, i ∈ (s.comp c).attached → (s.spot i).demand ≠ .none
  nobody    : ∀ c, (s.comp c).level = .unavailable → (s.comp c).attached = []
  list      : s.waitList.Nodup
  apart     : ∀ c i, i ∈ (s.comp c).attached → i ∉ s.waitList
  waits     : ∀ i, i ∈ s.waitList → (s.spot i).demand.flows = true
  resting   : ∀ i, s.isActive i = false → (s.spot i).demand = .none

/-- The demand of a spot is the one a suspension would have it return to (R98, R100). -/
def DemandsItsState (s : State) (i : SpotId) : Prop :=
  ∀ v, savedOf (s.spot i).state (s.spot i).sub = some v → v.demand = (s.spot i).demand

/-- Demands beside states (R68, R73, R94, R97, R98, R129): a running transfer demands what its state is served by, and a
waiting spot is SUSPENDED with the saved state that its demand serves. -/
structure DemandsOk (s : State) : Prop where
  runs  : ∀ i, DemandsItsState s i
  waits : ∀ i, i ∈ s.waitList → (s.spot i).state = .suspended ∧
    ∃ v, (s.spot i).saved = some v ∧ v.demand = (s.spot i).demand

/-- Levels, marks and timers of a compressor (R137, R141, R142, R149, R151): the deferred mark is set exactly at STOPPED
with spots attached; the confirmation timer runs exactly in STARTING, REVERSING and STOPPING; an idling compressor
without spots has either its popdown timer running or the HELD_BY_CYCLE_LIMIT mark, and no other compressor has one;
a running level is the one its resolved demand gives. -/
structure LevelsOk (s : State) : Prop where
  deferred : ∀ c, (s.comp c).deferred = true ↔ (s.comp c).level = .stopped ∧ (s.comp c).attached ≠ []
  confirm  : ∀ c, (s.comp c).confirm.isSome = true ↔
    (s.comp c).level = .starting ∨ (s.comp c).level = .reversing ∨ (s.comp c).level = .stopping
  idle     : ∀ c, ((s.comp c).popdown.isSome = true ∨ (s.comp c).held = true) ↔
    (s.comp c).level = .idleRun ∧ (s.comp c).attached = []
  either   : ∀ c, (s.comp c).popdown = none ∨ (s.comp c).held = false
  follows  : ∀ c, ((s.comp c).level = .push → s.resolved c = .push) ∧
    ((s.comp c).level = .recover → s.resolved c = .recover) ∧
    ((s.comp c).level = .idleRun → s.resolved c = .hold ∨ s.resolved c = .none)

/-! ## What no load, and nothing but a load, may change -/

/-- What a load alone changes in a map entry: its index, key, role, owner, limit, and its safe value if it is an output
entry. -/
def entryShape (p : Nat × MapEntry) : Nat × Byte × Byte × Role × Nat × Nat × Option Command :=
  (p.1, p.2.node, p.2.channel, p.2.role, p.2.owner, p.2.limit, p.2.image.map (·.safe))

/-- The shapes of a map. -/
def shapes (m : List (Nat × MapEntry)) := m.map entryShape

/-- Every part but the Management Unit's request and the ring port is the same. -/
structure SameParts (s t : State) : Prop where
  pins       : t.pins = s.pins
  powered    : t.powered = s.powered
  uptime     : t.uptime = s.uptime
  freeDraws  : t.freeDraws = s.freeDraws
  imap       : t.imap = s.imap
  conditions : t.conditions = s.conditions
  table      : t.table = s.table
  groups     : t.groups = s.groups
  manifest   : t.manifest = s.manifest
  spots      : t.spots = s.spots
  comps      : t.comps = s.comps
  waitList   : t.waitList = s.waitList
  sdu        : t.sdu = s.sdu
  standing   : t.mgu.standing = s.mgu.standing
  pending    : t.pending = s.pending

/-- Power-on and the reset input, which give every part its starting value (R180). -/
def startsAnew : Instr → Bool
  | .powerOn _ => true
  | .resetInput _ => true
  | _ => false

/-! ## Requests -/

/-- A powered part holds a request with a code and the parameters after it, and its reply's place is reserved (R9,
R182). -/
structure Holds (s : State) (q : Request) (code : Byte) (args : List Byte) : Prop where
  powered  : s.powered = true
  held     : s.mgu.held = some q
  body     : q.body = code :: args
  reserved : .reservation ∈ s.rpu.messages

/-- The reply of a request stands in the message queue, or is the frame being sent (R9, R11, R12). -/
def Replied (t : State) (q : Request) (r : Result) (data : List Byte) : Prop :=
  replyMessage q ⟨r, data⟩ ∈ t.rpu.messages ∨
    ∃ a, t.rpu.address = some a ∧
      t.rpu.sending = some (ownFrame a q.source 4 q.tag ([requestCode q.body, r.code] ++ data))

/-! ## Samples -/

/-- A SAMPLE frame of another node that a powered part offers inward and accepts with a value, for the input entry at an
index of a map in canonical form (R5, R24 to R26). -/
structure Accepts (s : State) (f : Frame) (k : Nat) (e : MapEntry) (d : Dynamic) (v : Value) : Prop where
  powered  : s.powered = true
  valid    : frameValid f = true
  address  : ∃ a, s.rpu.address = some a ∧ f.source ≠ a
  hops     : f.hops ≠ 0
  kind     : f.kind = 1
  sample   : ∃ x, parseSample f.body = some x ∧ x.channel.toNat ≤ 15 ∧
    findKey s.imap f.source x.channel = some (k, e) ∧ valueTest e.role x = some v
  input    : e.body = .input d
  sequence : sequenceOk d.seq f.tag = true
  rising   : Rising s.imap

/-! ## Channels and transfers -/

/-- The latch of the present output entry of a role and owner (R157). -/
def latchOf (s : State) (r : Role) (owner : Nat) : Option Command :=
  (findRole s.imap r owner).bind (fun p => p.2.image.map (·.latch))

/-- The end record written for a spot into a record from its context (R54). -/
structure RecordsEnd (s : State) (i : SpotId) (o : Ending) (r : CarRecord) (e : EndRecord) : Prop where
  spot      : e.spot = i
  outcome   : e.outcome = o
  credited  : e.credited = (s.spot i).acc.credited
  rejected  : e.rejected = (s.spot i).acc.rejected
  gross     : e.gross = (s.spot i).acc.gross
  net       : e.net = (s.spot i).acc.net
  mass      : e.mass = (s.spot i).acc.mass
  remaining : e.remaining = r.declared * 1000 - (s.spot i).acc.net
  passes    : e.passes = (s.spot i).passCount
  pressure  : e.finalPressure = s.carPressure i
  clamped   : e.tempClamped = (s.spot i).acc.tempClamped
  short     : e.short = decide ((s.spot i).acc.net < r.declared * 900)
  excess    : e.excessSeen = (s.spot i).excessSeen
  heel      : e.heel = (s.spot i).heel

/-- The transfer at a spot has ended with an outcome in a state (R75): the context is emptied as the rule lists, the
figures stand, and the record that was BOUND to the spot is DONE with its end record. -/
structure Ended (s t : State) (i : SpotId) (o : Ending) (st : SpotState) : Prop where
  state    : (t.spot i).state = st
  demand   : (t.spot i).demand = .none
  grant    : (t.spot i).grant = .none
  causes   : (t.spot i).causes = .empty
  saved    : (t.spot i).saved = none
  sub      : (t.spot i).sub = none
  timers   : (t.spot i).travel = none ∧ (t.spot i).pressurise = none ∧ (t.spot i).suspendTimer = none ∧
    (t.spot i).pass = none ∧ (t.spot i).settle = none
  figures  : (t.spot i).acc = (s.spot i).acc ∧ (t.spot i).passCount = (s.spot i).passCount
  link     : (t.spot i).lastHeld = boundPosition s.manifest i
  record   : ∀ p, boundPosition s.manifest i = some p → ∃ r e, recordAt s.manifest p = some r ∧
    recordAt t.manifest p = some { r with status := .done, endRecord := some e } ∧ RecordsEnd s i o r e

end Sys2Proof.Machine
end

