-- ==== Sys2Proof/Certificates/Slice0/Obligations.lean ====
section
/-! DEFINITION. The statements for the provers, in the order of OBLIGATIONS.json. A statement about a request speaks of the
request the Management Unit holds (`Holds`), as log 5 gives the request rows their meaning; a statement about an expiry that is not
due rests on log 3. Both are the model's. -/

open Sys2Proof Sys2Proof.Machine

/-! ## Steps, power and lines -/

/-- A step carries out the command at the front of the queue on the state with the queue's rest; on an empty queue the
block idles (the model's choice, log 4). Every command answers a next state in every state: no rule of the spec stops
the part. -/
def Obligations.StepRunsFrontCommand : Prop :=
  (∀ (s : State) (c : Instr) (rest : List Instr),
    step { s with pending := c :: rest } = exec c { s with pending := rest }) ∧
  (∀ s : State, s.pending = [] → step s = .next s) ∧
  (∀ (c : Instr) (s : State), ∃ t, exec c s = .next t)

/-- POWER_ON gives every part its starting value (R180) and offers the TRIP notice with tag 0, which an idle port sends at
once (log 23) and BAD_ADDRESS discards; the strap reading is its operand and the other lines keep their levels (log
6). That the notice sequence moves on in BAD_ADDRESS too is the model's choice (log 16), and so is that the count of free
values drawn, the model's own field, is kept (log 2). -/
def Obligations.PowerOnStartsAnew : Prop :=
  ∀ (s : State) (straps : Byte), ∃ t, exec (.powerOn straps) s = .next t ∧
    t.powered = true ∧ t.uptime = 0 ∧ t.imap = [] ∧ t.manifest = [] ∧ t.waitList = [] ∧
    (∀ i, t.values i = .allFalse ∧ t.latches i = .allFalse) ∧
    (∀ i, t.record i = none) ∧
    (∀ (g : Fin 4) (j : Nat) (h : j < 23), (t.groups.get g)[j] = none) ∧
    (∀ i, t.spot i = .initial) ∧ (∀ c, t.comp c = .initial) ∧
    t.sdu.device = .tripped ∧ t.sdu.entryUptime = 0 ∧ t.sdu.ringSilent = false ∧
    t.sdu.esdAsserted = s.pins.esdAsserted ∧
    t.sdu.causes = { TripCauses.empty with
      powerOn := true, esdLine := s.pins.esdAsserted, badAddress := decide (straps = 0 ∨ straps = 255) } ∧
    t.pins = ⟨straps, s.pins.esdAsserted, s.pins.resetAsserted, false⟩ ∧
    t.mgu.held = none ∧ (∀ i, t.standing i = false) ∧
    t.rpu.noticeSeq = 1 ∧
    t.rpu.sending = t.rpu.address.map (fun a => ownFrame a 255 5 0 ([4, 0, 0, 0, 0] ++
      bytesSet t.sdu.causes.members ++ bytesSet t.sdu.causes.members ++
      bytesSet [s.pins.esdAsserted, false, false, false])) ∧
    t.freeDraws = s.freeDraws ∧
    t.rpu.address = (if straps = 0 ∨ straps = 255 then none else some straps) ∧
    t.rpu.forward = [] ∧ t.rpu.requests = [] ∧ t.rpu.actuates = [] ∧ t.rpu.messages = [] ∧
    t.rpu.runCount = 0 ∧ t.rpu.silence = .live ∧ t.rpu.lastValid = 0 ∧ (∀ k, t.rpu.sequenceOf k = 0) ∧
    t.pending = s.pending

/-- RESET_INPUT acts as POWER_ON at an assertion of the line while the part has its supply; a line held asserted has no
further effect, and RESET_INPUT_RELEASE changes the line alone (R180); without supply the line alone changes (logs 6,
8). A loss of supply de-energises the trip output line and cuts the frame being sent (R170); until the next power-on the
part does nothing but hold the levels of its lines (log 8). -/
def Obligations.ResetAndSupplyAct : Prop :=
  (∀ (s : State) (straps : Byte), s.pins.resetAsserted = false → s.powered = true →
    exec (.resetInput straps) s =
      exec (.powerOn straps) { s with pins := { s.pins with resetAsserted := true } }) ∧
  (∀ (s : State) (straps : Byte), s.pins.resetAsserted = false → s.powered = false →
    exec (.resetInput straps) s = .next { s with pins := { s.pins with resetAsserted := true } }) ∧
  (∀ (s : State) (straps : Byte), s.pins.resetAsserted = true → exec (.resetInput straps) s = .next s) ∧
  (∀ s : State, exec .resetInputRelease s = .next { s with pins := { s.pins with resetAsserted := false } }) ∧
  (∀ s : State, exec .lossOfSupply s = .next { s with
    powered := false
    pins := { s.pins with tripEnergised := false }
    rpu := { s.rpu with sending := none } }) ∧
  (∀ s : State, s.powered = false →
    exec .esdLineAsserted s = .next { s with pins := { s.pins with esdAsserted := true } } ∧
    exec .esdLineReleased s = .next { s with pins := { s.pins with esdAsserted := false } }) ∧
  (∀ (s : State) (c : Instr), s.powered = false → startsAnew c = false → c ≠ .lossOfSupply → c ≠ .esdLineAsserted →
    c ≠ .esdLineReleased → c ≠ .resetInputRelease → exec c s = .next s)

/-! ## Trip -/

/-- The part has entered TRIPPED with causes added (R175, R86, R154, R162). -/
structure TripEntered (s t : State) (added : TripCauses) : Prop where
  device  : t.sdu.device = .tripped
  causes  : t.sdu.causes = s.sdu.causes.union added
  uptime  : t.sdu.entryUptime = s.uptime
  line    : t.pins.tripEnergised = false
  ended   : ∀ i, s.isActive i = true → Ended s t i .tripped .faulted
  kept    : ∀ i, s.isActive i = false → (t.spot i).state = (s.spot i).state ∧
    boundPosition t.manifest i = boundPosition s.manifest i
  list    : t.waitList = []
  comps   : ∀ c, (t.comp c).attached = [] ∧ (t.comp c).popdown = none ∧ (t.comp c).deferred = false ∧
    (t.comp c).held = false
  stopped : ∀ c, (s.comp c).level.tripStops = true → (t.comp c).level = .stopping ∧
    (t.comp c).confirm = some ⟨s.uptime + s.compField c (·.startTimeout), .stopped⟩
  resting : ∀ c, (s.comp c).level.tripStops = false → (t.comp c).level = (s.comp c).level
  outputs : ∀ k e o, entryAt s.imap k = some e → e.body = .output o → ∃ o', entryAt t.imap k =
    some { e with body := .output o' } ∧ o'.safe = o.safe ∧ o'.direction = o.direction ∧
    o'.refresh = some (s.uptime + 2)
  offered : ∀ a f, s.rpu.address = some a → s.rpu.sending = some f → ∀ k e o, entryAt s.imap k = some e →
    e.body = .output o → queuedCommand k t.rpu = some o.safe

/-- In RUN, an asserted ESD line, a ring gone silent and the TRIP request each enter TRIPPED with their cause (R172, R174,
R175, R177). -/
def Obligations.CausesTripFromRun : Prop :=
  (∀ s : State, s.powered = true → s.sdu.device = .run → Rising s.imap →
    ∃ t, exec .esdLineAsserted s = .next t ∧ TripEntered s t causeEsd ∧ t.sdu.esdAsserted = true ∧
      t.pins.esdAsserted = true) ∧
  (∀ s : State, s.powered = true → s.sdu.device = .run → Rising s.imap → s.rpu.silence = .live →
    s.rpu.lastValid + 5 ≤ s.uptime →
    ∃ t, exec .silenceExpiry s = .next t ∧ TripEntered s t causeSilent ∧ t.sdu.ringSilent = true ∧
      t.rpu.silence = .silent) ∧
  (∀ (s : State) (q : Request), Holds s q 0x50 [] → s.sdu.device = .run → Rising s.imap →
    ∃ t, exec .trip s = .next t ∧ TripEntered s t causeRequested ∧ Replied t q .done [])

/-- In TRIPPED a new cause joins the set and nothing else of the part is touched; a released ESD line ends its condition
and keeps the cause; a silence already reported, or not due (log 3), does nothing (R13, R171, R172, R174, R177). -/
def Obligations.CausesJoinWhileTripped : Prop :=
  (∀ s : State, s.powered = true → s.sdu.device = .tripped →
    exec .esdLineAsserted s = .next { s with
      pins := { s.pins with esdAsserted := true }
      sdu := { s.sdu with esdAsserted := true, causes := { s.sdu.causes with esdLine := true } } }) ∧
  (∀ s : State, s.powered = true →
    exec .esdLineReleased s = .next { s with
      pins := { s.pins with esdAsserted := false }
      sdu := { s.sdu with esdAsserted := false } }) ∧
  (∀ s : State, s.powered = true → s.sdu.device = .tripped → s.rpu.silence = .live →
    s.rpu.lastValid + 5 ≤ s.uptime →
    exec .silenceExpiry s = .next { s with
      rpu := { s.rpu with silence := .silent }
      sdu := { s.sdu with ringSilent := true, causes := { s.sdu.causes with ringSilent := true } } }) ∧
  (∀ s : State, s.powered = true → s.rpu.silence = .silent ∨ s.uptime < s.rpu.lastValid + 5 →
    exec .silenceExpiry s = .next s) ∧
  (∀ (s : State) (q : Request), Holds s q 0x50 [] → s.sdu.device = .tripped →
    ∃ t, exec .trip s = .next t ∧ Replied t q .done [] ∧
      SameParts { s with sdu := { s.sdu with causes := { s.sdu.causes with requested := true } } } t)

/-- TRIP_RESET with no live condition empties the set, energises the line and lets each image send as R163 gives; with a
live condition, or in RUN, it is refused and changes nothing (R178, R163). -/
def Obligations.TripResetReturnsToRun : Prop :=
  (∀ (s : State) (q : Request), Holds s q 0x51 [] → s.sdu.device = .tripped → anyLive s = false → Rising s.imap →
    ∃ t, exec .tripReset s = .next t ∧ Replied t q .done [0, 0] ∧
      t.sdu = { s.sdu with device := .run, causes := .empty } ∧
      t.pins = { s.pins with tripEnergised := true } ∧
      t.spots = s.spots ∧ t.comps = s.comps ∧ t.waitList = s.waitList ∧ t.manifest = s.manifest ∧
      t.conditions = s.conditions ∧ t.mgu.standing = s.mgu.standing ∧
      (∀ k e d, entryAt s.imap k = some e → e.body = .input d → entryAt t.imap k = some e) ∧
      (∀ k e o, entryAt s.imap k = some e → e.body = .output o → entryAt t.imap k = some { e with
        body := .output { o with
          refresh := if o.direction = .monitor then none
                     else if o.latch = o.safe then o.refresh else some (s.uptime + 2) } }) ∧
      (∀ k e o, entryAt s.imap k = some e → e.body = .output o →
        (o.direction = .monitor → queuedCommand k t.rpu = none) ∧
        (∀ a f, s.rpu.address = some a → s.rpu.sending = some f → o.direction = .drive →
          queuedCommand k t.rpu = if o.latch = o.safe then queuedCommand k s.rpu else some o.latch))) ∧
  (∀ (s : State) (q : Request), Holds s q 0x51 [] → s.sdu.device = .tripped → anyLive s = true →
    ∃ t, exec .tripReset s = .next t ∧ SameParts s t ∧
      Replied t q .causePresent (bytesSet s.sdu.causes.members ++ bytesSet (liveConditions s))) ∧
  (∀ (s : State) (q : Request), Holds s q 0x51 [] → s.sdu.device = .run →
    ∃ t, exec .tripReset s = .next t ∧ SameParts s t ∧ Replied t q .state [])

/-- RESET_PART ends every transfer with outcome RESET, unbinds, rests every spot, detaches and stops, hands every channel
to MONITOR and trips the part with RESET; every compressor with a COMP_RUN or COMP_DIR entry ends UNAVAILABLE with its
COMP_RUN latch at STOP, one that was UNAVAILABLE already too (R15, R87, R155, R169, R179; log 41). -/
def Obligations.ResetPartRestsThePart : Prop :=
  ∀ (s : State) (q : Request), Holds s q 0x52 [] → Rising s.imap →
    ∃ t, exec .resetPart s = .next t ∧ Replied t q .done [] ∧
      t.mgu.held = none ∧ t.rpu.requests = [] ∧ (∀ i, t.standing i = false) ∧
      t.sdu.device = .tripped ∧ t.sdu.causes = { s.sdu.causes with reset := true } ∧
      t.sdu.entryUptime = (match s.sdu.device with | .run => s.uptime | .tripped => s.sdu.entryUptime) ∧
      (s.sdu.device = .run → t.pins.tripEnergised = false) ∧
      (∀ i, s.isActive i = true → Ended s t i .reset (s.restState i)) ∧
      (∀ i, (t.spot i).state = s.restState i ∧ (t.values i).unknownTag = false) ∧
      (∀ i p r, (s.spot i).state = .identified ∨ (s.spot i).state = .ready → boundPosition s.manifest i = some p →
        recordAt s.manifest p = some r → recordAt t.manifest p = some { r with status := .waiting } ∧
          (t.spot i).lastHeld = none) ∧
      t.waitList = [] ∧ (∀ c, (t.comp c).attached = [] ∧ (t.comp c).record = (s.comp c).record ∧
        (t.comp c).history = (s.comp c).history ∧ (t.comp c).residency = (s.comp c).residency) ∧
      (∀ c, (s.compEntry .compRun c).isSome ∨ (s.compEntry .compDir c).isSome → (t.comp c).level = .unavailable ∧
        ∀ x, latchOf s .compRun (compNumber c) = some x → latchOf t .compRun (compNumber c) = some .stop) ∧
      (∀ k e o, entryAt s.imap k = some e → e.body = .output o → ∃ o', entryAt t.imap k =
        some { e with body := .output o' } ∧ o'.safe = o.safe ∧ o'.direction = .monitor) ∧
      t.table = s.table ∧ t.groups = s.groups ∧ t.uptime = s.uptime ∧ t.rpu.address = s.rpu.address

/-! ## The ring port -/

/-- The part's own frames are stripped whatever their kind, destination and hop count: neither forwarded nor offered
inward; a frame of another source goes on, and so does every frame while the part has no address; it is dropped if it
has no hops left (R3). Around the stripping, the arrival of a valid frame renews the silence timer. -/
def Obligations.OwnFramesAreStripped : Prop :=
  (∀ (s : State) (f : Frame), s.powered = true → frameValid f = true → s.rpu.address = some f.source →
    exec (.frameArrival f) s = .next { s with
      rpu := { s.rpu with lastValid := s.uptime, silence := .live }
      sdu := { s.sdu with ringSilent := match s.rpu.silence with
                                        | .silent => false
                                        | .live => s.sdu.ringSilent } }) ∧
  (∀ (s : State) (f : Frame) (a : Byte), s.powered = true → frameValid f = true → s.rpu.address = some a →
    f.source ≠ a → exec (.frameArrival f) s =
      .next (if f.hops = 0 then s.noteValidFrame else s.noteValidFrame.disposeFrame a f)) ∧
  (∀ (s : State) (f : Frame), s.powered = true → frameValid f = true → s.rpu.address = none →
    exec (.frameArrival f) s =
      .next (if f.hops = 0 then s.noteValidFrame else s.noteValidFrame.modRpu (forwardFrame f)))

/-- A frame that fails the check does nothing; one the part does not take is forwarded with one hop less and a new check
word while the forward buffer has room, and lost when it has none; in BAD_ADDRESS that is all that happens to any
frame (R1, R2, R4, R5, R7). An idle port sends it at once (log 23). A SAMPLE frame is forwarded as well, once it has been
offered inward (log 9). -/
def Obligations.FramesAreForwarded : Prop :=
  (∀ (s : State) (f : Frame), s.powered = true → frameValid f = false → exec (.frameArrival f) s = .next s) ∧
  (∀ (s : State) (f : Frame), s.powered = true → frameValid f = true → f.hops ≠ 0 →
    (s.rpu.address = none ∨
      ∃ a, s.rpu.address = some a ∧ f.source ≠ a ∧ f.kind ≠ 1 ∧ (f.kind = 3 → f.dest ≠ a)) →
    (s.rpu.forward.length < 6 → ∀ g, s.rpu.sending = some g →
      exec (.frameArrival f) s = .next (s.noteValidFrame.modRpu (fun r =>
        { r with forward := r.forward ++ [sealFrame { f with hops := f.hops - 1 }] }))) ∧
    (s.rpu.forward = [] → s.rpu.actuates = [] → s.rpu.messages = [] → s.rpu.sending = none →
      exec (.frameArrival f) s = .next (s.noteValidFrame.modRpu (fun r =>
        { r with runCount := 0, sending := some (sealFrame { f with hops := f.hops - 1 }) }))) ∧
    (6 ≤ s.rpu.forward.length → exec (.frameArrival f) s = .next s.noteValidFrame)) ∧
  (∀ (s : State) (f : Frame) (a : Byte), s.powered = true → frameValid f = true → f.hops ≠ 0 →
    s.rpu.address = some a → f.source ≠ a → f.kind = 1 →
    ∃ t, exec (.frameArrival f) s = .next t ∧ t = (s.noteValidFrame.offerSample f).modRpu (forwardFrame f) ∧
      (∀ g, s.rpu.sending = some g → Rising s.imap → t.rpu.sending = some g ∧
        t.rpu.forward = if s.rpu.forward.length < 6
          then s.rpu.forward ++ [sealFrame { f with hops := f.hops - 1 }] else s.rpu.forward))

/-- A manage frame to the part is taken while the request queue has room, without being forwarded, and the Management Unit
takes the head of the queue on when it is idle and can reserve a place; with a full queue the frame is forwarded (R6,
R9, R182, log 5). -/
def Obligations.ManageFramesAreTaken : Prop :=
  ∀ (s : State) (f : Frame) (a : Byte), s.powered = true → frameValid f = true → s.rpu.address = some a →
    f.source ≠ a → f.hops ≠ 0 → f.kind = 3 → f.dest = a →
    (s.rpu.requests.length < 4 → ∃ t, exec (.frameArrival f) s = .next t ∧
      t.rpu.forward = s.rpu.forward ∧ t.rpu.actuates = s.rpu.actuates ∧ t.rpu.sending = s.rpu.sending ∧
      t.mgu.standing = s.mgu.standing ∧ t.spots = s.spots ∧ t.comps = s.comps ∧ t.imap = s.imap ∧
      t.manifest = s.manifest ∧
      (s.mgu.held ≠ none ∨ 24 ≤ s.rpu.messages.length → t.mgu.held = s.mgu.held ∧
        t.rpu.messages = s.rpu.messages ∧ t.rpu.requests = s.rpu.requests ++ [Request.mk f.source f.tag f.body]) ∧
      (s.mgu.held = none → s.rpu.messages.length < 24 →
        t.mgu.held = (s.rpu.requests ++ [Request.mk f.source f.tag f.body]).head? ∧
        t.rpu.messages = s.rpu.messages ++ [.reservation] ∧
        t.rpu.requests = (s.rpu.requests ++ [Request.mk f.source f.tag f.body]).tail)) ∧
    (4 ≤ s.rpu.requests.length → exec (.frameArrival f) s = .next (s.noteValidFrame.modRpu (forwardFrame f)))

/-- An own frame leaves: the head of the actuation queue if there is one, else the head of the message queue, built as R12
gives. -/
def OwnFrameSent (r r' : Rpu) (a : Byte) : Prop :=
  match r.actuates, r.messages with
  | e :: rest, _ =>
    r'.actuates = rest ∧ r'.sending = some (ownFrame a e.node 2 (r.sequenceOf e.index) [e.channel, e.command.code]) ∧
      (e.index < 256 → r'.sequenceOf e.index = r.sequenceOf e.index + 1)
  | [], .reply dest tag body :: rest =>
    (∃ tail, r'.messages = rest ++ tail ∧ (tail = [] ∨ tail = [.reservation])) ∧ r'.actuates = [] ∧
      r'.sending = some (ownFrame a dest 4 tag body)
  | [], .notice tag body :: rest =>
    (∃ tail, r'.messages = rest ++ tail ∧ (tail = [] ∨ tail = [.reservation])) ∧ r'.actuates = [] ∧
      r'.sending = some (ownFrame a 255 5 tag body)
  | [], .reservation :: _ => r'.sending = none
  | [], [] => r'.sending = none

/-- The arbiter's four cases at the end of a sending (R11, R12); an idle port completes nothing; in BAD_ADDRESS frames to
forward are sent and nothing else (R1). -/
def Obligations.ArbiterSharesThePort : Prop :=
  (∀ s : State, s.powered = true → s.rpu.sending = none → exec .transmitComplete s = .next s) ∧
  (∀ (s : State) (g : Frame) (a : Byte), s.powered = true → s.rpu.sending = some g → s.rpu.address = some a →
    ∃ t, exec .transmitComplete s = .next t ∧
      t.spots = s.spots ∧ t.comps = s.comps ∧ t.imap = s.imap ∧ t.manifest = s.manifest ∧ t.sdu = s.sdu ∧
      (∀ f rest, s.rpu.forward = f :: rest → ownReady s.rpu = true → s.rpu.runCount < 4 →
        t.rpu.forward = rest ∧ t.rpu.sending = some f ∧ t.rpu.runCount = s.rpu.runCount + 1 ∧
          t.rpu.actuates = s.rpu.actuates) ∧
      (∀ f rest, s.rpu.forward = f :: rest → ownReady s.rpu = false →
        t.rpu.forward = rest ∧ t.rpu.sending = some f ∧ t.rpu.runCount = 0) ∧
      (ownReady s.rpu = true → (s.rpu.forward = [] ∨ 4 ≤ s.rpu.runCount) →
        t.rpu.forward = s.rpu.forward ∧ t.rpu.runCount = 0 ∧ OwnFrameSent s.rpu t.rpu a) ∧
      (ownReady s.rpu = false → s.rpu.forward = [] → t.rpu.sending = none)) ∧
  (∀ r : Rpu, ownReady r = true ↔ r.address ≠ none ∧ (r.actuates ≠ [] ∨
    (∃ d tag body rest, r.messages = .reply d tag body :: rest) ∨
    ∃ tag body rest, r.messages = .notice tag body :: rest)) ∧
  (∀ (s : State) (g : Frame), s.powered = true → s.rpu.sending = some g → s.rpu.address = none →
    ∃ t, exec .transmitComplete s = .next t ∧ t.rpu.sending = s.rpu.forward.head? ∧
      t.rpu.forward = s.rpu.forward.tail ∧ t.rpu.actuates = s.rpu.actuates)

/-! ## Samples and conditions -/

/-- The sequence test (R25): the first sample passes, then 1 to 127 ahead modulo 256; a failing sample changes nothing,
and a rewritten entry takes any number. -/
def Obligations.SequenceTestPasses : Prop :=
  (∀ x : Byte, sequenceOk none x = true) ∧
  (∀ l x : Byte, sequenceOk (some l) x = true ↔
    1 ≤ (x.toNat + 256 - l.toNat) % 256 ∧ (x.toNat + 256 - l.toNat) % 256 ≤ 127) ∧
  (∀ (s : State) (f : Frame) (x : Sample) (k : Nat) (e : MapEntry) (d : Sys2Proof.Machine.Dynamic),
    parseSample f.body = some x →
    x.channel.toNat ≤ 15 → findKey s.imap f.source x.channel = some (k, e) → e.body = .input d →
    sequenceOk d.seq f.tag = false → s.offerSample f = s) ∧
  (∀ (w : MapWrite) (d : Sys2Proof.Machine.Dynamic), newBody w = .input d → d.seq = none)

/-- The length of a sample's value suits its kind code: COUNT 4 bytes, TEMPERATURE and PRESSURE 2, POSITION, DISCRETE and
COMPRESSOR_STATE 1, TAG a count and as many characters (R190). -/
def KindSuits (kind : Byte) (value : List Byte) : Prop :=
  (kind = 1 ∧ value.length = 4) ∨ ((kind = 2 ∨ kind = 3) ∧ value.length = 2) ∨
    ((kind = 4 ∨ kind = 5 ∨ kind = 6) ∧ value.length = 1) ∨
    (kind = 7 ∧ ∃ n chars, value = n :: chars ∧ chars.length = n.toNat)

/-- A signed number of two bytes, the higher first. -/
def signedOf (b1 b0 : Byte) : Int :=
  if b1.toNat < 128 then 256 * (b1.toNat : Int) + b0.toNat else 256 * (b1.toNat : Int) + b0.toNat - 65536

/-- A sample with an unknown kind, a wrong length, a channel above 15, no input entry, another kind than the role's or a
code outside its kind changes nothing; a temperature or pressure outside its range is held to the range (R24, R26). R190 lays
the body out: which bodies are read at all, and for each kind the value its bytes give, or that they are invalid. -/
def Obligations.SamplesAreTested : Prop :=
  (∀ body : List Byte, parseSample body ≠ none ↔
    ∃ channel kind value, body = channel :: kind :: value ∧ KindSuits kind value) ∧
  (∀ c n1 n0 t1 t0 : Byte, parseSample [c, 1, n1, n0, t1, t0] = some ⟨c, .count, .value (.count
    (BitVec.ofNat 16 (256 * n1.toNat + n0.toNat)) (BitVec.ofNat 16 (256 * t1.toNat + t0.toNat)))⟩) ∧
  (∀ c b1 b0 : Byte, parseSample [c, 2, b1, b0] = some ⟨c, .temperature, .value (.temperature (signedOf b1 b0))⟩ ∧
    parseSample [c, 3, b1, b0] = some ⟨c, .pressure, .value (.pressure (signedOf b1 b0))⟩) ∧
  (∀ c b : Byte,
    parseSample [c, 4, b] = some ⟨c, .position, if b = 1 then .value (.position .opened)
      else if b = 2 then .value (.position .closed) else if b = 3 then .value (.position .travel) else .invalid⟩ ∧
    parseSample [c, 5, b] = some ⟨c, .discrete, if b = 1 then .value (.discrete .normal)
      else if b = 2 then .value (.discrete .abnormal) else .invalid⟩ ∧
    parseSample [c, 6, b] = some ⟨c, .compressorState, if b = 1 then .value (.compressor .stopped)
      else if b = 2 then .value (.compressor .runningFwd) else if b = 3 then .value (.compressor .runningRev)
      else if b = 4 then .value (.compressor .fault) else .invalid⟩) ∧
  (∀ (c n : Byte) (chars : List Byte), chars.length = n.toNat → parseSample (c :: 7 :: n :: chars) =
    some ⟨c, .tag, if 1 ≤ n.toNat ∧ n.toNat ≤ 10 then .value (.tag chars) else .invalid⟩) ∧
  (∀ (s : State) (f : Frame), parseSample f.body = none → s.offerSample f = s) ∧
  (∀ (s : State) (f : Frame) (x : Sample), parseSample f.body = some x →
    (15 < x.channel.toNat ∨ findKey s.imap f.source x.channel = none ∨
      (∃ k e o, findKey s.imap f.source x.channel = some (k, e) ∧ e.body = .output o) ∨
      (∃ k e, findKey s.imap f.source x.channel = some (k, e) ∧ valueTest e.role x = none)) → s.offerSample f = s) ∧
  (∀ (r : Role) (x : Sample) (v : Value), valueTest r x = some v → r.kind = some x.kind ∧ x.reading = .value v) ∧
  (∀ t : Int, clampValue (.temperature t) = .temperature (max (-500) (min 600 t))) ∧
  (∀ p : Int, clampValue (.pressure p) = .pressure (max (-100) (min 4000 p)))

/-- A sample that passes is accepted: its entry holds the number, the uptime, the value unless it is a METER's, the
clamped mark, and is fresh (R26, R27); the conditions of the spots it concerns are those the map then gives (R28, R33), and
the frame goes on round the ring (R5). -/
def Obligations.AcceptedSamplesAreStored : Prop :=
  ∀ (s : State) (f : Frame) (k : Nat) (e : MapEntry) (d : Sys2Proof.Machine.Dynamic) (v : Value), Accepts s f k e d v →
    ∃ t d', exec (.frameArrival f) s = .next t ∧ entryAt t.imap k = some { e with body := .input d' } ∧
      d'.seq = some f.tag ∧ d'.acceptedAt = some s.uptime ∧ d'.stale = false ∧
      d'.clamped = decide (clampValue v ≠ v) ∧
      d'.last = (if e.role = .meter then d.last else some (clampValue v)) ∧
      (e.role ≠ .meter → d'.baseline = d.baseline) ∧
      (∀ i ∈ concernedSpots s e.role e.owner, t.values i = conditionSet t i (t.values i).unknownTag) ∧
      (∀ g, s.rpu.sending = some g → s.rpu.forward.length < 6 →
        t.rpu.forward = s.rpu.forward ++ [sealFrame { f with hops := f.hops - 1 }])

/-- What a tag leaves at a spot whose manifest is `m` when it is matched (R59, R62). -/
def TagMatched (m : List CarRecord) (i : SpotId) (chars : List Byte) (t : State) : Prop :=
  match bindFirst m i chars with
  | some m' => t.manifest = m' ∧ (t.values i).unknownTag = false ∧ (t.spot i).lastHeld = none ∧
      (t.spot i).state = (if t.allConnected i then .ready else .identified)
  | none => t.manifest = m ∧ (t.values i).unknownTag = true ∧ (t.spot i).state = .vacant

/-- Tags (R59 to R61): the first WAITING record of the car is BOUND to a VACANT spot, or UNKNOWN_TAG is set; at a spot that
holds a car the same tag changes nothing, and another gives the car back and is matched anew, or ends an active
transfer in its fault; the other states take no tag. -/
def Obligations.TagsBindCars : Prop :=
  (∀ (m m' : List CarRecord) (i : SpotId) (chars : List Byte), bindFirst m i chars = some m' ↔
    ∃ l r rest, m = l ++ r :: rest ∧ r.status = .waiting ∧ r.car = chars ∧
      (∀ x ∈ l, ¬ (x.status = .waiting ∧ x.car = chars)) ∧ m' = l ++ { r with status := .bound i } :: rest) ∧
  (∀ (s : State) (f : Frame) (k : Nat) (e : MapEntry) (d : Sys2Proof.Machine.Dynamic) (chars : List Byte) (i : SpotId),
    Accepts s f k e d (.tag chars) → e.role = .tag → spotId e.owner = some i →
    ∃ t, exec (.frameArrival f) s = .next t ∧
      ((s.spot i).state = .vacant → TagMatched s.manifest i chars t) ∧
      ((s.spot i).state = .identified ∨ (s.spot i).state = .ready →
        (s.sameCar i chars = true → (t.spot i).state = (s.spot i).state ∧ t.manifest = s.manifest ∧
          (t.values i).unknownTag = (s.values i).unknownTag) ∧
        (s.sameCar i chars = false → (t.spot i).lastHeld = none ∧
          TagMatched (changeBound s.manifest i (fun c => { c with status := .waiting })) i chars t)) ∧
      (s.isActive i = true →
        (s.sameCar i chars = false → Ended s t i .faultCarMismatch .faulted) ∧
        (s.sameCar i chars = true → t.manifest = s.manifest ∧
          (i ∉ s.waitList → (t.spot i).state = (s.spot i).state))) ∧
      ((s.spot i).state = .disabled ∨ (s.spot i).state = .complete ∨ (s.spot i).state = .faulted →
        (t.spot i).state = (s.spot i).state ∧ t.manifest = s.manifest ∧
          (t.values i).unknownTag = (s.values i).unknownTag))

/-- The state in which an accepted sample is delivered: stored, the conditions of its spots re-evaluated, and the return to
freshness told (R27, R28; log 10). -/
def atDelivery (s : State) (f : Frame) (k : Nat) (e : MapEntry) (d : Sys2Proof.Machine.Dynamic) (v : Value) : State :=
  let spots := concernedSpots s e.role e.owner
  let u := (s.noteValidFrame.setBody k (.input (acceptInto d e.role f.tag v s.uptime))).reevaluateAll spots
  if d.stale then u.tellFresh e.role spots else u

/-- The deliveries of R28 to the other owners. A bond or arm reading ends an active transfer in its fault when it is lost
(R80), and moves a spot between IDENTIFIED and READY (R62). A car pressure sets and clears PRESSURE_HIGH (R93), makes the
differential test (R69) and ends a recovery pass at the residual target (R128). A tank switch sets and clears TANK_HIGH
(R91). A gas alarm trips the part (R173). A meter count goes to the Metering Unit, a valve position to the
travel timer of its spot, a tank pressure to the differential test of every spot of the tank in PRESSURISING, a compressor
report to the Coordinator (R18, R66, R69, R109, R138). The hand-over before the forwarding is the model's choice (log 9);
the grant scan at the end of the event (log 12) and the order of conditions and freshness (log 10) are its reading. So is it
that a tank pressure whose freshness completes a return is tested in the state returned to (log 38). -/
def Obligations.DeliveriesReachTheirOwners : Prop :=
  (∀ (s : State) (f : Frame) (k : Nat) (e : MapEntry) (d : Sys2Proof.Machine.Dynamic) (b : Discrete) (i : SpotId),
    Accepts s f k e d (.discrete b) → e.role = .bond ∨ e.role = .armLiq ∨ e.role = .armVap →
    s.spotEntry e.role i = some (k, e) →
    ∃ t, exec (.frameArrival f) s = .next t ∧
      (s.isActive i = true → b = .abnormal →
        Ended s t i (if e.role = .bond then .faultBond else .faultArm) .faulted) ∧
      (s.isActive i = true → b = .normal → t.manifest = s.manifest ∧
        (i ∉ s.waitList → (t.spot i).state = (s.spot i).state)) ∧
      ((s.spot i).state = .identified ∨ (s.spot i).state = .ready →
        (t.spot i).state = if t.allConnected i then .ready else .identified) ∧
      ((s.spot i).state = .vacant ∨ (s.spot i).state = .disabled ∨ (s.spot i).state = .complete ∨
        (s.spot i).state = .faulted → (t.spot i).state = (s.spot i).state) ∧
      (e.role = .bond → (t.values i).bondOk = decide (b = .normal)) ∧
      (e.role = .armLiq → (t.values i).armLiq = decide (b = .normal)) ∧
      (e.role = .armVap → (t.values i).armVap = decide (b = .normal))) ∧
  (∀ (s : State) (f : Frame) (k : Nat) (e : MapEntry) (d : Sys2Proof.Machine.Dynamic) (v : Value) (p : Int) (i : SpotId)
    (r : CarRecord), Accepts s f k e d v → clampValue v = .pressure p → s.spotEntry .pCar i = some (k, e) →
    s.isActive i = true → s.boundRecord i = some r →
    ∃ t, exec (.frameArrival f) s = .next t ∧ t.manifest = s.manifest ∧
      (t.spot i).causes.pressureHigh = (if (r.maxPressure : Int) < p then true
        else if p ≤ (r.maxPressure : Int) - 20 then false else (s.spot i).causes.pressureHigh) ∧
      ((s.spot i).causes.any = false → (r.maxPressure : Int) < p →
        ∀ w, savedOf (s.spot i).state (s.spot i).sub = some w →
          (t.spot i).state = .suspended ∧ (t.spot i).saved = some w) ∧
      ((s.spot i).causes.any = false → p ≤ (r.maxPressure : Int) → (s.spot i).state = .recovery →
        (s.spot i).sub = some .pass →
        (p ≤ (r.residual : Int) → (t.spot i).state = .recovery ∧ (t.spot i).sub = some .settle ∧
          (t.spot i).passCount = (s.spot i).passCount + 1 ∧ (t.spot i).pass = none ∧ (t.spot i).demand = .none ∧
          (t.spot i).settle = some (s.uptime + s.recordField i (·.settleTime))) ∧
        ((r.residual : Int) < p → i ∉ s.waitList → (t.spot i).state = .recovery ∧ (t.spot i).sub = some .pass ∧
          (t.spot i).passCount = (s.spot i).passCount)) ∧
      ((s.spot i).causes.any = false → p ≤ (r.maxPressure : Int) → (s.spot i).state = .pressurising →
        i ∉ s.waitList → (t.spot i).state = (match s.tankPressure i with
          | some q => if (s.recordField i (·.dpStart) : Int) ≤ p - q then .unloading else .pressurising
          | none => .pressurising)) ∧
      (∀ w, (s.spot i).state = .suspended → (s.spot i).saved = some w →
        (s.spot i).causes = { Causes.empty with pressureHigh := true } → p ≤ (r.maxPressure : Int) - 20 →
        ((t.spot i).state = w.state ∧ (t.spot i).saved = none) ∨
          ((t.spot i).state = .suspended ∧ (t.spot i).saved = some w ∧ (t.spot i).causes.noCompressor = true))) ∧
  (∀ (s : State) (f : Frame) (k : Nat) (e : MapEntry) (d : Sys2Proof.Machine.Dynamic) (b : Discrete),
    Accepts s f k e d (.discrete b) → e.role = .tankHigh →
    ∃ t, exec (.frameArrival f) s = .next t ∧ t.manifest = s.manifest ∧
      ∀ i, s.tankEntry .tankHigh i = some (k, e) →
        (t.values i).tankHigh = decide (b = .abnormal) ∧
        (s.isActive i = true → (t.spot i).causes.tankHigh = decide (b = .abnormal)) ∧
        ((s.spot i).causes.any = false → b = .abnormal →
          ∀ w, savedOf (s.spot i).state (s.spot i).sub = some w →
            (t.spot i).state = .suspended ∧ (t.spot i).saved = some w) ∧
        (∀ w, (s.spot i).state = .suspended → (s.spot i).saved = some w →
          (s.spot i).causes = { Causes.empty with tankHigh := true } → b = .normal →
          ((t.spot i).state = w.state ∧ (t.spot i).saved = none) ∨
            ((t.spot i).state = .suspended ∧ (t.spot i).saved = some w ∧
              (t.spot i).causes.noCompressor = true))) ∧
  (∀ (s : State) (f : Frame) (k : Nat) (e : MapEntry) (d : Sys2Proof.Machine.Dynamic) (b : Discrete),
    Accepts s f k e d (.discrete b) → e.role = .gas →
    ∃ t, exec (.frameArrival f) s = .next t ∧
      (b = .abnormal → s.sdu.device = .run → TripEntered s t causeGas) ∧
      (b = .abnormal → s.sdu.device = .tripped →
        t.sdu = { s.noteValidFrame.sdu with causes := { s.sdu.causes with gas := true } }) ∧
      (b = .normal → t.sdu = s.noteValidFrame.sdu)) ∧
  (∀ (s : State) (f : Frame) (k : Nat) (e : MapEntry) (d : Sys2Proof.Machine.Dynamic) (n t : Word16) (i : SpotId),
    Accepts s f k e d (.count n t) → spotId e.owner = some i →
    exec (.frameArrival f) s =
      .next ((((atDelivery s f k e d (.count n t)).meterSample k i n t).endScan).modRpu (forwardFrame f))) ∧
  (∀ (s : State) (f : Frame) (k : Nat) (e : MapEntry) (d : Sys2Proof.Machine.Dynamic) (p : Position) (i : SpotId),
    Accepts s f k e d (.position p) → spotId e.owner = some i →
    exec (.frameArrival f) s =
      .next ((((atDelivery s f k e d (.position p)).deliverPosition i e.role p).endScan).modRpu (forwardFrame f))) ∧
  (∀ (s : State) (f : Frame) (k : Nat) (e : MapEntry) (d : Sys2Proof.Machine.Dynamic) (v : Value) (p : Int),
    Accepts s f k e d v → clampValue v = .pressure p → e.role = .pTank →
    ∃ t, exec (.frameArrival f) s = .next t ∧ t.manifest = s.manifest ∧
      t = (((concernedSpots s .pTank e.owner).foldl
        (fun u i => if (u.spot i).state = .pressurising then u.differentialTest i else u)
        (atDelivery s f k e d v)).endScan).modRpu (forwardFrame f) ∧
      ∀ i, s.tankEntry .pTank i = some (k, e) → (s.spot i).state = .pressurising → (s.spot i).causes.any = false →
        i ∉ s.waitList → (t.spot i).state = (match s.carPressure i with
          | some q => if (s.recordField i (·.dpStart) : Int) ≤ q - p then .unloading else .pressurising
          | none => .pressurising)) ∧
  (∀ (s : State) (f : Frame) (k : Nat) (e : MapEntry) (d : Sys2Proof.Machine.Dynamic) (r : CompReading) (c : CompId),
    Accepts s f k e d (.compressor r) → e.role = .compState → compId e.owner = some c →
    exec (.frameArrival f) s = .next
      ((((s.noteValidFrame.setBody k (.input (acceptInto d .compState f.tag (.compressor r) s.uptime))).stateReport c
        r).endScan).modRpu (forwardFrame f)))

/-- A fresh entry whose limit has run out goes stale and keeps the rest; its owner is told by role, a tank's entry at every
spot of the tank, and the conditions of the spots concerned are those the map then gives; an expiry that is not due does
nothing (R29, R30, R91, R92, log 3). -/
def Obligations.StaleEntriesAreTold : Prop :=
  (∀ (s : State) (k : Nat) (e : MapEntry) (d : Sys2Proof.Machine.Dynamic) (u : Nat), s.powered = true → Rising s.imap →
    entryAt s.imap k = some e → e.body = .input d → d.stale = false → e.limit ≠ 0 → d.acceptedAt = some u →
    u + e.limit ≤ s.uptime →
    ∃ t, exec (.stalenessExpiry k) s = .next t ∧
      entryAt t.imap k = some { e with body := .input { d with stale := true } } ∧
      (∀ i, spotId e.owner = some i → s.isActive i = true →
        (e.role = .bond ∨ e.role = .armLiq ∨ e.role = .armVap → (t.spot i).state = .faulted) ∧
        (e.role = .meter ∨ e.role = .tempLiq ∨ e.role = .pCar → (t.spot i).causes.staleInput = true)) ∧
      (∀ i, s.tankEntry e.role i = some (k, e) → s.isActive i = true →
        (e.role = .pTank → (t.spot i).causes.staleInput = true) ∧
        (e.role = .tankHigh → (t.spot i).causes.tankHigh = true)) ∧
      (∀ i, (spotId e.owner = some i ∧ (e.role = .meter ∨ e.role = .tempLiq ∨ e.role = .pCar)) ∨
          (s.tankEntry e.role i = some (k, e) ∧ (e.role = .pTank ∨ e.role = .tankHigh)) →
        (s.spot i).causes.any = false → ∀ w, savedOf (s.spot i).state (s.spot i).sub = some w →
          (t.spot i).state = .suspended ∧ (t.spot i).saved = some w) ∧
      (∀ i ∈ concernedSpots s e.role e.owner, t.values i = conditionSet t i (t.values i).unknownTag) ∧
      (e.role = .gas → t.sdu.device = .tripped ∧ t.sdu.causes.gas = true) ∧
      (∀ c, e.role = .compState → s.compEntry .compState c = some (k, e) → (t.comp c).level = .unavailable)) ∧
  (∀ (s : State) (k : Nat), s.powered = true →
    (entryAt s.imap k = none ∨ (∃ e o, entryAt s.imap k = some e ∧ e.body = .output o) ∨
      (∃ e d, entryAt s.imap k = some e ∧ e.body = .input d ∧
        (d.stale = true ∨ e.limit = 0 ∨ d.acceptedAt = none ∨ ∃ u, d.acceptedAt = some u ∧ s.uptime < u + e.limit))) →
    exec (.stalenessExpiry k) s = .next s)

/-- A re-evaluation stores the condition set R31 gives, sets the latch of each condition that changed, and offers one
notice exactly where a latch went from clear to set (R33, R34). ACK_CHANGES clears the named latches of its spot, leaves
everything else, and answers with values and latches; bits 6 and 7 name no condition (R35). -/
def Obligations.ChangesLatchUntilAcknowledged : Prop :=
  (∀ (s : State) (i : SpotId),
    let now := conditionSet s i (s.values i).unknownTag
    let changed := (s.values i).changed now
    (s.reevaluate i).values i = now ∧
    (s.reevaluate i).latches i = (s.latches i).zip (fun l c => l || c) changed ∧
    (∀ j, j ≠ i → (s.reevaluate i).values j = s.values j ∧ (s.reevaluate i).latches j = s.latches j) ∧
    (s.reevaluate i).rpu =
      (if (changed.zip (fun c l => c && !l) (s.latches i)).some then
        offerNotice ([1, byte (spotNumber i)] ++ bytesSet now.members ++
          bytesSet ((s.latches i).zip (fun l c => l || c) changed).members) s.rpu
      else s.rpu)) ∧
  (∀ (s : State) (q : Request) (n set : Byte) (i : SpotId), Holds s q 0x41 [n, set] → bitOf set 6 = false →
    bitOf set 7 = false → spotId n.toNat = some i →
    ∃ t, exec .ackChanges s = .next t ∧
      t.values i = s.values i ∧
      t.latches i = (s.latches i).zip (fun l named => l && !named)
        ⟨bitOf set 0, bitOf set 1, bitOf set 2, bitOf set 3, bitOf set 4, bitOf set 5⟩ ∧
      (∀ j, j ≠ i → t.values j = s.values j ∧ t.latches j = s.latches j) ∧
      SameParts { s with conditions := t.conditions } t ∧
      Replied t q .done (bytesSet (t.values i).members ++ bytesSet (t.latches i).members)) ∧
  (∀ (s : State) (q : Request) (n set : Byte), Holds s q 0x41 [n, set] → bitOf set 6 = true ∨ bitOf set 7 = true →
    ∃ t, exec .ackChanges s = .next t ∧ SameParts s t ∧ Replied t q .badRequest []) ∧
  (∀ (s : State) (q : Request) (n set : Byte), Holds s q 0x41 [n, set] → bitOf set 6 = false → bitOf set 7 = false →
    spotId n.toNat = none → ∃ t, exec .ackChanges s = .next t ∧ SameParts s t ∧ Replied t q .range [])

/-! ## Metering -/

/-- The path of a meter sample (R85, R109 to R111): a first sample sets the baseline alone, one without elapsed time does
nothing, an implausible one is counted as rejected at a crediting spot, any other is credited or unassigned whole; one
whose credit would pass 64 bits is rejected (R121). A rejection adds METER_SUSPECT where the transfer runs or is
SUSPENDED (R95); a credit that takes net above 105% of declared adds EXCESS and its mark once (R96). -/
def Obligations.MeterSamplesAreDisposed : Prop :=
  ∀ (s : State) (k : Nat) (i : SpotId) (e : MapEntry) (d : Sys2Proof.Machine.Dynamic) (n t : Word16), Rising s.imap →
    entryAt s.imap k = some e → e.body = .input d →
    let u := s.meterSample k i n t
    (d.baseline = none → u.spots = s.spots ∧ u.baselineAt k = some ⟨n, t⟩) ∧
    (∀ b : Baseline, d.baseline = some b → t = b.time → u = s) ∧
    (∀ (b : Baseline) (r : SpotRecord), d.baseline = some b → t ≠ b.time → s.record i = some r →
      u.baselineAt k = some ⟨n, t⟩ ∧
      (r.plausibility * (t - b.time).toNat / 1000 < (n - b.count).toNat →
        (u.spot i).unassigned = (s.spot i).unassigned ∧
        (u.spot i).acc = (if (s.spot i).state.crediting then { (s.spot i).acc with
            rejected := min ((s.spot i).acc.rejected + (n - b.count).toNat) (2 ^ 64 - 1) }
          else (s.spot i).acc)) ∧
      ((n - b.count).toNat ≤ r.plausibility * (t - b.time).toNat / 1000 → (s.spot i).state.crediting = false →
        (u.spot i).acc = (s.spot i).acc ∧
        (u.spot i).unassigned = min ((s.spot i).unassigned + (n - b.count).toNat) (2 ^ 32 - 1)) ∧
      (∀ c : CreditInputs, (n - b.count).toNat ≤ r.plausibility * (t - b.time).toNat / 1000 →
        (s.spot i).state.crediting = true →
        s.creditInputs i = some c → fits64 (credit (s.spot i).acc c (n - b.count).toNat (t - b.time).toNat) = true →
        (u.spot i).acc = credit (s.spot i).acc c (n - b.count).toNat (t - b.time).toNat ∧
        (u.spot i).unassigned = (s.spot i).unassigned ∧
        ∀ car, s.boundRecord i = some car →
          let tooMuch := decide (car.declared * 1050 <
              (credit (s.spot i).acc c (n - b.count).toNat (t - b.time).toNat).net) &&
            !(s.spot i).causes.excess && !(s.spot i).excessAck
          (u.spot i).causes.excess = ((s.spot i).causes.excess || tooMuch) ∧
          (u.spot i).excessSeen = ((s.spot i).excessSeen || tooMuch) ∧
          (tooMuch = true → (s.spot i).state = .pressurising ∨ (s.spot i).state = .recovery →
            (u.spot i).state = .suspended ∧ (u.spot i).saved = savedOf (s.spot i).state (s.spot i).sub) ∧
          (tooMuch = true → (s.spot i).state = .unloading →
            ((u.spot i).state = .suspended ∧ (u.spot i).saved = some .unloading) ∨
              (u.spot i).state = .liquidClosing)) ∧
      (∀ c : CreditInputs, s.creditInputs i = some c → (s.spot i).state.crediting = true →
        fits64 (credit (s.spot i).acc c (n - b.count).toNat (t - b.time).toNat) = false →
        (u.spot i).unassigned = (s.spot i).unassigned ∧
        (u.spot i).acc = { (s.spot i).acc with
          rejected := min ((s.spot i).acc.rejected + (n - b.count).toNat) (2 ^ 64 - 1) }) ∧
      (r.plausibility * (t - b.time).toNat / 1000 < (n - b.count).toNat ∨
          ((s.spot i).state.crediting = true ∧ ∃ c : CreditInputs, s.creditInputs i = some c ∧
            fits64 (credit (s.spot i).acc c (n - b.count).toNat (t - b.time).toNat) = false) →
        (u.spot i).causes = (if (s.spot i).state = .pressurising ∨ (s.spot i).state = .unloading ∨
            (s.spot i).state = .recovery ∨ (s.spot i).state = .suspended
          then { (s.spot i).causes with meterSuspect := true } else (s.spot i).causes) ∧
        ((s.spot i).causes.meterSuspect = false → ∀ w, savedOf (s.spot i).state (s.spot i).sub = some w →
          (u.spot i).state = .suspended ∧ (u.spot i).saved = some w)))

/-- One credit is exact at every stage: each accumulator with its residue holds what it held and the exact amount added, and
the rate is the one of the raw increment (R112, R113, R115, R118). -/
def Obligations.CreditIsExact : Prop :=
  ∀ (a : Accumulators) (c : CreditInputs) (d e : Nat), 0 < c.kc →
    let b := credit a c d e
    let r := (d * 100000 + a.rawRes) / c.kc
    b.credited = a.credited + d ∧ b.rejected = a.rejected ∧
    b.raw = a.raw + r ∧ b.rawRes < c.kc ∧
    b.raw * c.kc + b.rawRes = a.raw * c.kc + a.rawRes + d * 100000 ∧
    creditRate a c.kc d e = min (r * 60 / e) 9999 ∧
    b.gross * 10000 + b.grossRes = a.gross * 10000 + a.grossRes + r * meterFactor c.curve (min (r * 60 / e) 9999) ∧
    b.grossRes < 10000 ∧
    b.net * 100000 + b.netRes = a.net * 100000 + a.netRes + (b.gross - a.gross) * correction c.group c.temp ∧
    b.netRes < 100000 ∧
    b.tempClamped = (a.tempClamped || c.clamped)

/-- The mass of a credit (R119): the net increment times the density of the bound record, with its residue. -/
def Obligations.MassFollowsTheNetIncrement : Prop :=
  (∀ (a : Accumulators) (c : CreditInputs) (d e : Nat),
    (credit a c d e).mass =
      a.mass + (((credit a c d e).net - a.net) * c.density + a.massRes) / 10000 ∧
    (credit a c d e).massRes = (((credit a c d e).net - a.net) * c.density + a.massRes) % 10000) ∧
  (∀ (s : State) (i : SpotId) (c : CreditInputs), s.creditInputs i = some c →
    ∃ r, s.boundRecord i = some r ∧ c.density = r.density)

/-- The meter factor (R114), read from the spot's meter curve: the ends hold, an interior rate is interpolated with its
quotient truncated toward zero, and the factor lies between its two points. -/
def Obligations.MeterFactorReadsTheCurve : Prop :=
  (∀ (p : CurvePoint) (rest : List CurvePoint) (q : Nat), q ≤ p.rate → meterFactor (p :: rest) q = p.mf) ∧
  (∀ (l : List CurvePoint) (p : CurvePoint) (q : Nat), ratesRise (l ++ [p]) = true → p.rate ≤ q →
    meterFactor (l ++ [p]) q = p.mf) ∧
  (∀ (l r : List CurvePoint) (p p' : CurvePoint) (q : Nat), ratesRise (l ++ p :: p' :: r) = true → p.rate ≤ q →
    q < p'.rate →
    ((meterFactor (l ++ p :: p' :: r) q : Nat) : Int) =
      p.mf + Int.tdiv (((p'.mf : Int) - p.mf) * ((q : Int) - p.rate)) ((p'.rate : Int) - p.rate) ∧
    min p.mf p'.mf ≤ meterFactor (l ++ p :: p' :: r) q ∧ meterFactor (l ++ p :: p' :: r) q ≤ max p.mf p'.mf) ∧
  (∀ (l : List CurvePoint) (q : Nat), l ≠ [] → l.all pointOk = true → ratesRise l = true →
    9500 ≤ meterFactor l q ∧ meterFactor l q ≤ 10500) ∧
  (∀ (s : State) (i : SpotId) (c : CreditInputs), s.creditInputs i = some c →
    ∃ r, s.record i = some r ∧ c.curve = r.curve)

/-- The temperature correction factor (R117), read from the group of the bound record: the lower point, the truncated step
to the next, the exact ends, and a value between the two points. -/
def Obligations.CorrectionReadsTheGroup : Prop :=
  (∀ (s : State) (i : SpotId) (c : CreditInputs), s.creditInputs i = some c →
    ∃ r, s.boundRecord i = some r ∧ c.group = s.groups.get r.group) ∧
  ∀ (g : Group) (t : Int), -500 ≤ t → t ≤ 600 →
    let j := min ((t + 500) / 50).toNat 21
    pointIndex t = j ∧ pointTemperature j = -500 + 50 * (j : Int) ∧
    0 ≤ t - pointTemperature j ∧ (t < 600 → t - pointTemperature j ≤ 49) ∧
    ((correction g t : Nat) : Int) = pointValue g j +
      Int.tdiv (((pointValue g (j + 1) : Nat) - (pointValue g j : Nat) : Int) * (t - pointTemperature j)) 50 ∧
    min (pointValue g j) (pointValue g (j + 1)) ≤ correction g t ∧
    correction g t ≤ max (pointValue g j) (pointValue g (j + 1)) ∧
    (t = 600 → correction g t = pointValue g 22) ∧ (t = -500 → correction g t = pointValue g 0) ∧
    ((∀ k, k < 23 → 90000 ≤ pointValue g k ∧ pointValue g k ≤ 115000) →
      90000 ≤ correction g t ∧ correction g t ≤ 115000)

/-! ## The sequence -/

/-- The pressure differential test (R69): at or above the start difference the liquid valve is opened and the transfer
unloads; below it, or without both values, nothing changes. -/
def Obligations.DifferentialOpensTheLiquidValve : Prop :=
  (∀ (s : State) (i : SpotId) (p q : Int), Rising s.imap → s.carPressure i = some p → s.tankPressure i = some q →
    (s.recordField i (·.dpStart) : Int) ≤ p - q →
    let t := s.differentialTest i
    (t.spot i).state = .unloading ∧ (t.spot i).pressurise = none ∧ (t.spot i).liquidConfirmed = false ∧
    (t.spot i).window = .empty ∧ (t.spot i).demand = (s.spot i).demand ∧
    (t.spot i).travel = some ⟨s.uptime + s.recordField i (·.travelLimit), .liqPos, .opened⟩ ∧
    (∀ c, latchOf s .liqCmd (spotNumber i) = some c → latchOf t .liqCmd (spotNumber i) = some .opened) ∧
    (∀ j, j ≠ i → t.spot j = s.spot j) ∧ t.comps = s.comps ∧ t.manifest = s.manifest) ∧
  (∀ (s : State) (i : SpotId) (p q : Int), s.carPressure i = some p → s.tankPressure i = some q →
    p - q < (s.recordField i (·.dpStart) : Int) → s.differentialTest i = s) ∧
  (∀ (s : State) (i : SpotId), s.carPressure i = none ∨ s.tankPressure i = none → s.differentialTest i = s)

/-- The awaited position stops the travel timer and moves the transfer on by its state; any other position does nothing
(R66 to R68, R71, R73, R76). -/
def Obligations.AwaitedPositionsConfirm : Prop :=
  (∀ (s : State) (i : SpotId) (u : Nat) (r : Role) (p : Position), Rising s.imap →
    (s.spot i).travel = some ⟨u, r, p⟩ →
    let t := s.deliverPosition i r p
    ((s.spot i).state = .opening → (t.spot i).travel = none ∧ ((t.spot i).state = .pressurising ∨
      ((t.spot i).state = .suspended ∧ (t.spot i).saved = some .pressurising))) ∧
    ((s.spot i).state = .unloading → t.spot i = { s.spot i with
      travel := none, liquidConfirmed := true, window := .empty }) ∧
    ((s.spot i).state = .liquidClosing → (t.spot i).travel = none ∧ (t.spot i).passCount = 0 ∧
      ((t.spot i).state = .recovery ∧ (t.spot i).sub = some .pass ∧ (t.spot i).demand = .recover ∨
        (t.spot i).state = .suspended ∧ (t.spot i).saved = some (.recovery .pass))) ∧
    (∀ o, (s.spot i).state = .closing → (s.spot i).pendingOutcome = some o → Ended s t i o .complete)) ∧
  (∀ (s : State) (i : SpotId) (r : Role) (p : Position), (s.spot i).travel = none ∨
    (∃ x, (s.spot i).travel = some x ∧ (x.role ≠ r ∨ x.position ≠ p)) → s.deliverPosition i r p = s)

/-- A rate in UNLOADING joins the window; with the valve confirmed and 8 rates whose truncated mean is below the heel
rate, liquid flow has ended (R71, R72, R185). -/
def Obligations.LiquidEndClosesTheValve : Prop :=
  ∀ (s : State) (i : SpotId) (q : Nat), Rising s.imap →
    let w := (s.spot i).window.add q
    let t := s.addRate i q
    (t.spot i).window = w ∧ w.next = (s.spot i).window.next + 1 ∧
    (∀ k : Fin 8, w.places.get k =
      if k = (s.spot i).window.next then some q else (s.spot i).window.places.get k) ∧
    ((s.spot i).liquidConfirmed = true → w.below (s.recordField i (·.heelRate)) = true →
      (t.spot i).state = .liquidClosing ∧
      (t.spot i).travel = some ⟨s.uptime + s.recordField i (·.travelLimit), .liqPos, .closed⟩ ∧
      (∀ c, latchOf s .liqCmd (spotNumber i) = some c → latchOf t .liqCmd (spotNumber i) = some .closed) ∧
      ((t.spot i).demand = .hold ∨ (t.spot i).demand = .none) ∧
      ((∀ c, (s.spot i).grant ≠ .compressor c) → (t.spot i).demand = .none)) ∧
    ((s.spot i).liquidConfirmed = false ∨ w.below (s.recordField i (·.heelRate)) = false →
      t = s.modSpot i (fun x => { x with window := w }))

/-! ## Loads -/

/-- An accepted write of LOAD_MAP_ENTRY stores the entry afresh: an input entry stale with its dynamic state cleared (a
TAG without limit not stale), an output entry in MONITOR with its latch at its safe value, a LIQ_CMD latch at CLOSED;
the other indexes keep their entries' keys, roles, owners, limits and safe values (R19 to R22, R157). A COMP_RUN latch
may also have received the STOP of a compressor that became UNAVAILABLE (R139). -/
def Obligations.MapWritesStoreTheEntry : Prop :=
  ∀ (s : State) (q : Request) (k node channel role owner l1 l0 safe : Byte) (r : Role),
    Holds s q 0x10 [k, node, channel, role, owner, l1, l0, safe] → roleOf role = some r → Rising s.imap →
    let w : MapWrite := ⟨node, channel, r, owner.toNat, num2 l1 l0, safe⟩
    writeInRange s.rpu.address w = true → s.entryInUse (entryAt s.imap k.toNat) = false →
    s.ownerInUse r owner.toNat = false → duplicates s.imap k.toNat w = false →
    ∃ t b, exec .loadMapEntry s = .next t ∧ Replied t q .done [] ∧
      entryAt t.imap k.toNat = some ⟨node, channel, r, owner.toNat, num2 l1 l0, b⟩ ∧
      (r.isOutput = false → b = .input ⟨none, false, none, none, none, decide (num2 l1 l0 ≠ 0)⟩) ∧
      (r.isOutput = true → ∃ o c, b = .output o ∧ commandOf safe = some c ∧ o.safe = c ∧ o.direction = .monitor ∧
        (r = .liqCmd → o.latch = .closed) ∧ (r = .vapCmd ∨ r = .compDir → o.latch = c) ∧
        (r = .compRun → o.latch = c ∨ o.latch = .stop)) ∧
      (∀ m, m ≠ k.toNat → (entryAt t.imap m).map (fun e => entryShape (m, e)) =
        (entryAt s.imap m).map (fun e => entryShape (m, e))) ∧
      Rising t.imap ∧ (r ≠ .gas → t.manifest = s.manifest ∧ t.sdu = s.sdu) ∧
      (r = .gas → t.sdu.device = .tripped ∧ t.sdu.causes.gas = true)

/-- An accepted removal of LOAD_MAP_ENTRY makes the index absent, with no queued actuate and its actuate sequence 0, and
leaves the other entries; an absent index is refused (R20, R23). -/
def Obligations.MapRemovalsClearTheIndex : Prop :=
  (∀ (s : State) (q : Request) (k : Byte) (e : MapEntry), Holds s q 0x10 [k] → Rising s.imap →
    entryAt s.imap k.toNat = some e → s.ownerInUse e.role e.owner = false →
    ∃ t, exec .loadMapEntry s = .next t ∧ Replied t q .done [] ∧ entryAt t.imap k.toNat = none ∧
      queuedCommand k.toNat t.rpu = none ∧ t.rpu.sequenceOf k.toNat = 0 ∧
      (∀ m, m ≠ k.toNat → (entryAt t.imap m).map (fun e => entryShape (m, e)) =
        (entryAt s.imap m).map (fun e => entryShape (m, e))) ∧ Rising t.imap ∧ t.manifest = s.manifest ∧
      t.sdu = s.sdu ∧
      (∀ c, e.role.ownerKind = .compressor → compId e.owner = some c →
        findRole (dropEntry s.imap k.toNat) e.role e.owner = none → (t.comp c).level = .unavailable)) ∧
  (∀ (s : State) (q : Request) (k : Byte), Holds s q 0x10 [k] → entryAt s.imap k.toNat = none →
    ∃ t, exec .loadMapEntry s = .next t ∧ SameParts s t ∧ Replied t q .notFound [])

/-- An accepted LOAD_SPOT replaces the record with the fields given, defaults taken, keeps the meter curve of a record
that stood, and moves a DISABLED or VACANT spot as enabled says (R38 to R41). That FFFFh in the plausibility limit is the
value 65535 is the model's reading (log 22). -/
def Obligations.SpotLoadsReplaceTheRecord : Prop :=
  ∀ (s : State) (q : Request) (n en pr al tk d1 d0 h1 h0 tr p1 p0 u1 u0 gd q1 q0 t1 t0 rb k3 k2 k1 k0 l1 l0 : Byte)
    (i : SpotId) (r : SpotRecord),
    Holds s q 0x11 [n, en, pr, al, tk, d1, d0, h1, h0, tr, p1, p0, u1, u0, gd, q1, q0, t1, t0, rb, k3, k2, k1, k0,
      l1, l0] →
    spotId n.toNat = some i →
    SpotFields.record ⟨en, pr.toNat, al.toNat, tk.toNat, num2 d1 d0, num2 h1 h0, tr.toNat, num2 p1 p0, num2 u1 u0,
      gd.toNat, num2 q1 q0, num2 t1 t0, rb.toNat, num4 k3 k2 k1 k0, num2 l1 l0⟩ (s.keptCurve i) = some r →
    s.spotInUse i = false →
    ∃ t, exec .loadSpot s = .next t ∧ Replied t q .done [] ∧ t.record i = some r ∧
      r.enabled = decide (en = 1) ∧ compNumber r.primary = pr.toNat ∧
      (∀ c, r.alternate = some c ↔ compId al.toNat = some c) ∧ r.alternate ≠ some r.primary ∧ r.tank = tk.toNat ∧
      r.dpStart = (if num2 d1 d0 = 65535 then 150 else num2 d1 d0) ∧ r.heelRate = num2 h1 h0 ∧
      r.travelLimit = tr.toNat ∧ r.pressuriseLimit = num2 p1 p0 ∧ r.suspendLimit = num2 u1 u0 ∧
      r.resumeGuard = (if gd.toNat = 255 then 30 else gd.toNat) ∧ r.passLimit = num2 q1 q0 ∧
      r.settleTime = num2 t1 t0 ∧ r.rebound = rb.toNat ∧ r.kc = num4 k3 k2 k1 k0 ∧
      r.plausibility = num2 l1 l0 ∧
      r.curve = (match s.record i with | some old => old.curve | none => []) ∧
      (t.spot i).state = (match (s.spot i).state with
                          | .disabled => if en = 1 then .vacant else .disabled
                          | .vacant => if en = 1 then .vacant else .disabled
                          | st => st) ∧
      ((s.spot i).state = .vacant → en ≠ 1 → (t.values i).unknownTag = false) ∧
      (∀ j, j ≠ i → t.record j = s.record j ∧ t.spot j = s.spot j ∧ t.values j = s.values j) ∧
      (t.spot i).unassigned = (s.spot i).unassigned ∧ (t.spot i).acc = (s.spot i).acc ∧
      t.imap = s.imap ∧ t.manifest = s.manifest ∧ t.comps = s.comps ∧ t.groups = s.groups ∧ t.sdu = s.sdu

/-- An accepted LOAD_METER_CURVE replaces the whole curve with its points in order and changes nothing else; its checks
refuse in the order of the rule (R43). An accepted LOAD_PRODUCT_SEGMENT writes its values from the start index on, one
per index, and leaves every other point and group (R46 to R48). -/
def Obligations.CurveAndSegmentLoadsWriteTheirPoints : Prop :=
  (∀ (s : State) (q : Request) (n count : Byte) (bytes : List Byte) (i : SpotId) (points : List CurvePoint)
    (r : SpotRecord), Holds s q 0x12 (n :: count :: bytes) → 1 ≤ count.toNat → count.toNat ≤ 8 →
    pointsOf count.toNat bytes = some points → spotId n.toNat = some i → points.all pointOk = true →
    ratesRise points = true → s.record i = some r → s.spotInUse i = false →
    ∃ t, exec .loadMeterCurve s = .next t ∧ Replied t q .done [] ∧ t.record i = some { r with curve := points } ∧
      (∀ j, j ≠ i → t.record j = s.record j) ∧ SameParts { s with table := t.table } t ∧
      points.length = count.toNat) ∧
  (∀ (s : State) (n : Byte) (i : SpotId) (points : List CurvePoint), spotId n.toNat = some i →
    (points.all pointOk = false → loadCurvePoints n points s = (s, ⟨.range, []⟩)) ∧
    (points.all pointOk = true → ratesRise points = false → loadCurvePoints n points s = (s, ⟨.order, []⟩)) ∧
    (points.all pointOk = true → ratesRise points = true → s.record i = none →
      loadCurvePoints n points s = (s, ⟨.notFound, []⟩)) ∧
    (points.all pointOk = true → ratesRise points = true → (s.record i).isSome = true → s.spotInUse i = true →
      loadCurvePoints n points s = (s, ⟨.inUse, []⟩))) ∧
  (∀ (s : State) (q : Request) (group start count : Byte) (bytes : List Byte) (g : Fin 4) (values : List Nat),
    Holds s q 0x13 (group :: start :: count :: bytes) → 1 ≤ count.toNat → count.toNat ≤ 8 →
    valuesOf count.toNat bytes = some values → compId group.toNat = some g →
    start.toNat + values.length ≤ 23 → values.all (within 90000 115000) = true → s.groupInUse g = false →
    ∃ t, exec .loadProductSegment s = .next t ∧ Replied t q .done [] ∧
      (∀ (k : Nat) (h : k < 23), (t.groups.get g)[k] =
        if start.toNat ≤ k ∧ k < start.toNat + values.length then values[k - start.toNat]?
        else (s.groups.get g)[k]) ∧
      (∀ g', g' ≠ g → t.groups.get g' = s.groups.get g') ∧ SameParts { s with groups := t.groups } t)

/-- LOAD_COMPRESSOR writes the record and keeps the rest of the context; a removal empties the slot, and the compressor is
UNAVAILABLE (R44, R45, R139). -/
def Obligations.CompressorLoadsKeepTheContext : Prop :=
  (∀ (s : State) (q : Request) (n p1 p0 limit timeout : Byte) (c : CompId) (r : CompRecord),
    Holds s q 0x14 [n, p1, p0, limit, timeout] → compId n.toNat = some c →
    compRecordOf (num2 p1 p0) limit.toNat timeout.toNat = some r → s.compInUse c = false →
    ∃ t, exec .loadCompressor s = .next t ∧ Replied t q .done [] ∧
      t.comp c = { s.comp c with record := some r } ∧
      r.popdown = (if num2 p1 p0 = 65535 then 120 else num2 p1 p0) ∧
      r.startLimit = (if limit.toNat = 255 then 6 else limit.toNat) ∧
      r.startTimeout = (if timeout.toNat = 255 then 30 else timeout.toNat) ∧
      (∀ d, d ≠ c → t.comp d = s.comp d) ∧ SameParts { s with comps := t.comps } t) ∧
  (∀ (s : State) (q : Request) (n : Byte) (c : CompId), Holds s q 0x14 [n, 255] → compId n.toNat = some c →
    (s.comp c).record.isSome = true → s.compInUse c = false →
    ∃ t, exec .loadCompressor s = .next t ∧ Replied t q .done [] ∧ (t.comp c).record = none ∧
      (t.comp c).level = .unavailable ∧ (t.comp c).history = (s.comp c).history ∧
      (t.comp c).residency = (s.comp c).residency)

/-! ## Cars -/

/-- ADD_CAR places a WAITING record at the end of the list and answers with its position (R49, R50, R52). REMOVE_CAR takes
the record out, drops the links to it and moves those behind it one place forward (log 29); a BOUND record is refused
(R49, R53). -/
def Obligations.CarsJoinAndLeaveTheList : Prop :=
  (∀ (s : State) (q : Request) (chars : List Byte) (group r1 r0 d3 d2 d1 d0 p1 p0 t1 t0 : Byte) (g : Fin 4),
    1 ≤ chars.length → chars.length ≤ 10 →
    Holds s q 0x20 (byte chars.length :: (chars ++ [group, r1, r0, d3, d2, d1, d0, p1, p0, t1, t0])) →
    compId group.toNat = some g →
    let r : CarRecord := ⟨chars, g, num2 r1 r0, num4 d3 d2 d1 d0, num2 p1 p0, num2 t1 t0, .waiting, none⟩
    carFieldsOk r = true → s.manifest.length < 48 → carKnown s.manifest chars = false →
    ∃ t, exec .addCar s = .next t ∧ t.manifest = s.manifest ++ [r] ∧
      Replied t q .done [byte (s.manifest.length + 1)] ∧ SameParts { s with manifest := t.manifest } t) ∧
  (∀ (s : State) (q : Request) (p : Byte) (chars : List Byte) (r : CarRecord), 1 ≤ chars.length →
    chars.length ≤ 10 → Holds s q 0x21 (p :: byte chars.length :: chars) → recordAt s.manifest p.toNat = some r →
    r.car = chars → r.status.isBound = false →
    ∃ t, exec .removeCar s = .next t ∧ Replied t q .done [] ∧
      t.manifest = s.manifest.eraseIdx (p.toNat - 1) ∧
      (∀ i, t.spot i = { s.spot i with lastHeld := (s.spot i).lastHeld.bind (fun l =>
        if l = p.toNat then none else if p.toNat < l then some (l - 1) else some l) }) ∧
      SameParts { s with manifest := t.manifest, spots := t.spots } t) ∧
  (∀ (s : State) (q : Request) (p : Byte) (chars : List Byte) (r : CarRecord), 1 ≤ chars.length →
    chars.length ≤ 10 → Holds s q 0x21 (p :: byte chars.length :: chars) → recordAt s.manifest p.toNat = some r →
    r.car = chars → r.status.isBound = true →
    ∃ t, exec .removeCar s = .next t ∧ SameParts s t ∧ Replied t q .inUse [])

/-! ## Transfers -/

/-- An accepted START zeroes the figures, prepares the context, writes CLOSED and OPEN into the valve latches and awaits
the vapour valve in OPENING; no other spot, compressor or record changes (R63, R64, R66, R90). -/
def Obligations.StartOpensTheVapourValve : Prop :=
  ∀ (s : State) (q : Request) (n : Byte) (i : SpotId), Holds s q 0x30 [n] → spotId n.toNat = some i →
    s.sdu.device = .run → (s.spot i).state = .ready → s.mapIncomplete i = false → s.valveLocal i = false →
    s.curveEmpty i = false → s.productReady i = true → staleEntry (s.spotEntry .tempLiq i) = false →
    staleEntry (s.spotEntry .pCar i) = false → Rising s.imap →
    ∃ t, exec .start s = .next t ∧ Replied t q .done [] ∧
      t.spot i = { s.spot i with
        state := .opening
        travel := some ⟨s.uptime + s.recordField i (·.travelLimit), .vapPos, .opened⟩
        acc := .zero
        causes := ⟨(s.values i).tankHigh, false, staleInput s i, pressureAbove s i, false, false, false⟩
        saved := none
        passCount := 0
        sub := none
        stopMark := false
        heel := false
        excessSeen := false
        excessAck := false
        liquidConfirmed := false
        pendingOutcome := none
        lastResume := none
        window := .empty } ∧
      latchOf t .liqCmd (spotNumber i) = some .closed ∧ latchOf t .vapCmd (spotNumber i) = some .opened ∧
      (∀ j, j ≠ i → t.spot j = s.spot j) ∧ t.comps = s.comps ∧ t.waitList = s.waitList ∧
      t.manifest = s.manifest ∧ t.conditions = s.conditions ∧ t.sdu = s.sdu ∧ t.mgu.standing = s.mgu.standing ∧
      t.pins = s.pins ∧ t.table = s.table ∧ t.groups = s.groups

/-- An accepted SUSPEND adds REQUESTED; a running transfer enters SUSPENDED with its state saved, its timers stopped, its
liquid valve closed and the suspend timer running; a suspended one keeps its saved state and timer (R97, R99,
R104). -/
def Obligations.SuspendHoldsTheTransfer : Prop :=
  ∀ (s : State) (q : Request) (n : Byte) (i : SpotId), Holds s q 0x31 [n] → spotId n.toNat = some i →
    s.sdu.device = .run → (s.spot i).state.suspendable = true → (s.spot i).causes.requested = false →
    s.guarded i = false → Rising s.imap →
    ∃ t, exec .suspend s = .next t ∧ Replied t q .done [] ∧
      (t.spot i).state = .suspended ∧ (t.spot i).causes.requested = true ∧
      ((s.spot i).state ≠ .suspended →
        (t.spot i).saved = savedOf (s.spot i).state (s.spot i).sub ∧
        (t.spot i).suspendTimer = some (s.uptime + s.recordField i (·.suspendLimit)) ∧
        (t.spot i).travel = none ∧ (t.spot i).pressurise = none ∧ (t.spot i).pass = none ∧
        (t.spot i).settle = none ∧ (t.spot i).liquidConfirmed = false ∧
        (∀ c, latchOf s .liqCmd (spotNumber i) = some c → latchOf t .liqCmd (spotNumber i) = some .closed)) ∧
      ((s.spot i).state = .suspended →
        (t.spot i).saved = (s.spot i).saved ∧ (t.spot i).suspendTimer = (s.spot i).suspendTimer) ∧
      (t.spot i).acc = (s.spot i).acc ∧ (t.spot i).window = (s.spot i).window ∧
      (t.spot i).passCount = (s.spot i).passCount ∧ t.manifest = s.manifest ∧ t.conditions = s.conditions ∧
      t.sdu = s.sdu

/-- An accepted RESUME removes the latched causes, acknowledges an EXCESS and sets last RESUME; the return completes, or
the spot stays SUSPENDED with NO_COMPRESSOR (R96, R100, R105). -/
def Obligations.ResumeAttemptsTheReturn : Prop :=
  (∀ (s : State) (q : Request) (n : Byte) (i : SpotId) (v : Saved), Holds s q 0x32 [n] → spotId n.toNat = some i →
    s.sdu.device = .run → (s.spot i).state = .suspended → (s.spot i).saved = some v →
    (s.spot i).causes.live = false →
    ∃ t, exec .resume s = .next t ∧ Replied t q .done [] ∧
      (t.spot i).causes.requested = false ∧ (t.spot i).causes.meterSuspect = false ∧
      (t.spot i).causes.excess = false ∧
      (t.spot i).excessAck = ((s.spot i).excessAck || (s.spot i).causes.excess) ∧
      (t.spot i).lastResume = some s.uptime ∧ (t.spot i).acc = (s.spot i).acc ∧
      (((t.spot i).state = v.state ∧ (t.spot i).saved = none) ∨
        ((t.spot i).state = .suspended ∧ (t.spot i).saved = some v ∧ (t.spot i).causes.noCompressor = true)) ∧
      t.manifest = s.manifest ∧ t.conditions = s.conditions ∧ t.sdu = s.sdu) ∧
  (∀ (s : State) (q : Request) (n : Byte) (i : SpotId), Holds s q 0x32 [n] → spotId n.toNat = some i →
    s.sdu.device = .run → (s.spot i).state = .suspended → (s.spot i).causes.live = true →
    ∃ t, exec .resume s = .next t ∧ SameParts s t ∧ Replied t q .causePresent [])

/-- An accepted STOP closes the liquid valve, sets the stop mark and goes to LIQUID_CLOSING with the live causes that
still hold (R66, R77, R90). -/
def Obligations.StopClosesTheLiquidValve : Prop :=
  ∀ (s : State) (q : Request) (n : Byte) (i : SpotId), Holds s q 0x33 [n] → spotId n.toNat = some i →
    s.sdu.device = .run → (s.spot i).stoppable = true → Rising s.imap →
    ∃ t, exec .stop s = .next t ∧ Replied t q .done [] ∧
      (t.spot i).state = .liquidClosing ∧ (t.spot i).stopMark = true ∧ (t.spot i).saved = none ∧
      (t.spot i).causes =
        ⟨(s.values i).tankHigh, false, staleInput s i, pressureAbove s i, false, false, false⟩ ∧
      (t.spot i).excessAck = ((s.spot i).excessAck || (s.spot i).causes.excess) ∧
      (t.spot i).pressurise = none ∧ (t.spot i).suspendTimer = none ∧
      (t.spot i).travel = some ⟨s.uptime + s.recordField i (·.travelLimit), .liqPos, .closed⟩ ∧
      ((t.spot i).demand = .hold ∨ (t.spot i).demand = .none) ∧
      ((∀ c, (s.spot i).grant ≠ .compressor c) → (t.spot i).demand = .none) ∧
      (∀ c, latchOf s .liqCmd (spotNumber i) = some c → latchOf t .liqCmd (spotNumber i) = some .closed) ∧
      (t.spot i).acc = (s.spot i).acc ∧ t.manifest = s.manifest ∧ t.conditions = s.conditions ∧ t.sdu = s.sdu

/-- ABORT takes an active transfer to CLOSING with outcome ABORTED pending, and a bound car not started to COMPLETE with a
zero-figure end record (R54, R78, R79, R90; its marks and passes: log 33). -/
def Obligations.AbortEndsTheTransfer : Prop :=
  (∀ (s : State) (q : Request) (n : Byte) (i : SpotId), Holds s q 0x34 [n] → spotId n.toNat = some i →
    s.sdu.device = .run → s.isActive i = true → Rising s.imap →
    ∃ t, exec .abort s = .next t ∧ Replied t q .done [] ∧
      (t.spot i).state = .closing ∧ (t.spot i).pendingOutcome = some .aborted ∧ (t.spot i).demand = .none ∧
      ((s.spot i).demand ≠ .none → (t.spot i).grant = .none) ∧ (t.spot i).saved = none ∧ (t.spot i).sub = none ∧
      (t.spot i).causes =
        ⟨(s.values i).tankHigh, false, staleInput s i, pressureAbove s i, false, false, false⟩ ∧
      (t.spot i).pressurise = none ∧ (t.spot i).suspendTimer = none ∧ (t.spot i).pass = none ∧
      (t.spot i).settle = none ∧
      (t.spot i).travel = (if (s.spot i).state = .closing then (s.spot i).travel
        else some ⟨s.uptime + s.recordField i (·.travelLimit), .vapPos, .closed⟩) ∧
      (∀ c, latchOf s .liqCmd (spotNumber i) = some c → latchOf t .liqCmd (spotNumber i) = some .closed) ∧
      (∀ c, latchOf s .vapCmd (spotNumber i) = some c → latchOf t .vapCmd (spotNumber i) = some .closed) ∧
      (t.spot i).acc = (s.spot i).acc ∧ (t.spot i).passCount = (s.spot i).passCount ∧
      t.manifest = s.manifest ∧ t.conditions = s.conditions ∧ t.sdu = s.sdu) ∧
  (∀ (s : State) (q : Request) (n : Byte) (i : SpotId) (p : Nat) (r : CarRecord), Holds s q 0x34 [n] →
    spotId n.toNat = some i → s.sdu.device = .run → (s.spot i).state = .identified ∨ (s.spot i).state = .ready →
    boundPosition s.manifest i = some p → recordAt s.manifest p = some r → Rising s.imap →
    ∃ t e, exec .abort s = .next t ∧ Replied t q .done [] ∧
      (t.spot i).state = .complete ∧ (t.spot i).lastHeld = some p ∧ (t.spot i).acc = (s.spot i).acc ∧
      recordAt t.manifest p = some { r with status := .done, endRecord := some e } ∧
      e.spot = i ∧ e.outcome = .aborted ∧ e.credited = 0 ∧ e.rejected = 0 ∧ e.gross = 0 ∧ e.net = 0 ∧ e.mass = 0 ∧
      e.passes = 0 ∧ e.remaining = r.declared * 1000 ∧ (0 < r.declared → e.short = true) ∧
      e.finalPressure = s.carPressure i)

/-- RELEASE frees a COMPLETE spot whose arms are off, cancelling its standing report and its unassigned pulses; with an
arm on it is refused (R82, R186). -/
def Obligations.ReleaseFreesTheSpot : Prop :=
  (∀ (s : State) (q : Request) (n : Byte) (i : SpotId), Holds s q 0x35 [n] → spotId n.toNat = some i →
    (s.spot i).state = .complete → (s.values i).armLiq = false → (s.values i).armVap = false →
    ∃ t, exec .release s = .next t ∧ Replied t q .done [] ∧
      t.spot i = { s.spot i with unassigned := 0, state := s.restState i } ∧
      (∀ r, s.record i = some r → s.restState i = if r.enabled then .vacant else .disabled) ∧
      t.standing i = false ∧ (∀ j, j ≠ i → t.spot j = s.spot j ∧ t.standing j = s.standing j) ∧
      t.manifest = s.manifest ∧ t.imap = s.imap ∧ t.comps = s.comps ∧ t.conditions = s.conditions ∧ t.sdu = s.sdu) ∧
  (∀ (s : State) (q : Request) (n : Byte) (i : SpotId), Holds s q 0x35 [n] → spotId n.toNat = some i →
    (s.spot i).state = .complete → (s.values i).armLiq = true ∨ (s.values i).armVap = true →
    ∃ t, exec .release s = .next t ∧ SameParts s t ∧ Replied t q .connected [])

/-- CLEAR frees a FAULTED spot whose two valves are observed CLOSED and is refused while one is not; at a VACANT spot it
matches the last tag again (R59, R83, R84). -/
def Obligations.ClearFreesTheSpot : Prop :=
  (∀ (s : State) (q : Request) (n : Byte) (i : SpotId), Holds s q 0x36 [n] → spotId n.toNat = some i →
    (s.spot i).state = .faulted → s.valvesClosed i = true →
    ∃ t, exec .clear s = .next t ∧ Replied t q .done [] ∧
      t.spot i = { s.spot i with unassigned := 0, state := s.restState i } ∧ t.standing i = false ∧
      (t.values i).unknownTag = false ∧ (∀ j, j ≠ i → t.spot j = s.spot j) ∧ t.manifest = s.manifest ∧
      t.imap = s.imap ∧ t.comps = s.comps ∧ t.sdu = s.sdu) ∧
  (∀ (s : State) (q : Request) (n : Byte) (i : SpotId), Holds s q 0x36 [n] → spotId n.toNat = some i →
    (s.spot i).state = .faulted → s.valvesClosed i = false →
    ∃ t, exec .clear s = .next t ∧ SameParts s t ∧ Replied t q .notClosed []) ∧
  (∀ (s : State) (q : Request) (n : Byte) (i : SpotId), Holds s q 0x36 [n] → spotId n.toNat = some i →
    (s.spot i).state = .vacant →
    ∃ t, exec .clear s = .next t ∧ Replied t q .done [] ∧ (t.spot i).unassigned = 0 ∧ t.standing i = false ∧
      (∀ j, j ≠ i → t.spot j = s.spot j) ∧ t.imap = s.imap ∧ t.comps = s.comps ∧ t.sdu = s.sdu ∧
      (∀ chars, lastOf (s.spotEntry .tag i) = some (.tag chars) →
        match bindFirst s.manifest i chars with
        | some m => t.manifest = m ∧ (t.values i).unknownTag = false ∧ (t.spot i).lastHeld = none ∧
            (t.spot i).state = (if t.allConnected i then .ready else .identified)
        | none => t.manifest = s.manifest ∧ (t.values i).unknownTag = true ∧ (t.spot i).state = .vacant) ∧
      (lastOf (s.spotEntry .tag i) = none → t.manifest = s.manifest ∧ (t.values i).unknownTag = false ∧
        (t.spot i).state = .vacant))

/-! ## Compressors -/

/-- A reading of the compressor running in its direction (R138). -/
def RunsAsDirected (s : State) (c : CompId) (r : CompReading) : Prop :=
  (r = .runningFwd ∧ s.direction c = some .fwd) ∨ (r = .runningRev ∧ s.direction c = some .rev)

/-- A reading that leaves the level as it is (R138, R140). -/
def LeavesTheLevel (s : State) (c : CompId) (r : CompReading) : Prop :=
  match (s.comp c).level with
  | .stopped => r = .stopped
  | .starting => r = .stopped
  | .idleRun => RunsAsDirected s c r
  | .push => RunsAsDirected s c r
  | .recover => RunsAsDirected s c r
  | .reversing => r ≠ .fault ∧ ¬ RunsAsDirected s c r
  | .stopping => r = .runningFwd ∨ r = .runningRev
  | .unavailable => r = .fault ∨ unusable s c = true

/-- A reading that contradicts the level (R138). -/
def ContradictsTheLevel (s : State) (c : CompId) (r : CompReading) : Prop :=
  match (s.comp c).level with
  | .stopped => r ≠ .stopped
  | .starting => r ≠ .stopped ∧ ¬ RunsAsDirected s c r
  | .idleRun => ¬ RunsAsDirected s c r
  | .push => ¬ RunsAsDirected s c r
  | .recover => ¬ RunsAsDirected s c r
  | .reversing => r = .fault
  | .stopping => r = .fault
  | .unavailable => False

/-- The spot is attached to that compressor alone and does not wait (R146). -/
def AttachedOnly (s : State) (c : CompId) (i : SpotId) : Prop :=
  i ∈ (s.comp c).attached ∧ i ∉ s.waitList ∧ ∀ d, d ≠ c → i ∉ (s.comp d).attached



/-- COMP_STATE reports (R138). A reading the level expects leaves everything as it is. A contradicting one makes the compressor
UNAVAILABLE: its spots go to the tail of the wait list, those that ask for flow are suspended, one that holds gives its
demand up (R139, R94). A confirmed start or reversal applies the resolved demand (R141 to R143), a confirmed stop makes
the start decision for the spots attached (R142, R150), and a usable UNAVAILABLE compressor returns as it is found
(R140). What becomes of the spots rests on laws of the arbiter and of the demands that every step keeps. -/
def Obligations.StateReportsMoveTheCompressor : Prop :=
  (∀ (s : State) (c : CompId) (r : CompReading), LeavesTheLevel s c r → s.stateReport c r = s) ∧
  (∀ (s : State) (c : CompId) (r : CompReading), Rising s.imap → ContradictsTheLevel s c r →
    let t := s.stateReport c r
    t.comp c = { s.comp c with
      level := .unavailable, attached := [], confirm := none, popdown := none, deferred := false, held := false } ∧
    (∀ x, latchOf s .compRun (compNumber c) = some x → latchOf t .compRun (compNumber c) = some .stop) ∧
    t.direction c = s.direction c ∧ t.manifest = s.manifest ∧ t.conditions = s.conditions ∧ t.sdu = s.sdu ∧
    (ArbiterOk s → (∀ i ∈ (s.comp c).attached, DemandsItsState s i) →
      (∀ d, d ≠ c → t.comp d = s.comp d) ∧
      t.waitList = s.waitList ++ (s.comp c).attached.filter (fun i => (s.spot i).demand.flows) ∧
      ∀ i ∈ (s.comp c).attached,
        ((s.spot i).demand = .hold → (t.spot i).demand = .none ∧ (t.spot i).grant = .none ∧
          (t.spot i).state = (s.spot i).state ∧ (t.spot i).causes = (s.spot i).causes) ∧
        ((s.spot i).demand.flows = true → (t.spot i).demand = (s.spot i).demand ∧ (t.spot i).grant = .waiting ∧
          (t.spot i).causes.noCompressor = true ∧
          ∀ v, savedOf (s.spot i).state (s.spot i).sub = some v →
            (t.spot i).state = .suspended ∧ (t.spot i).saved = some v))) ∧
  (∀ (s : State) (c : CompId) (r : CompReading), Rising s.imap →
    (s.comp c).level = .starting ∨ (s.comp c).level = .reversing → RunsAsDirected s c r →
    let t := s.stateReport c r
    let x := s.comp c
    (s.resolved c = .none → t.comp c = { x with
      level := .idleRun, confirm := none, popdown := some (s.uptime + s.compField c (·.popdown)) }) ∧
    (s.resolved c = .hold → t.comp c = { x with level := .idleRun, confirm := none, popdown := none, held := false }) ∧
    (s.resolved c = .push → r = .runningFwd → t.comp c = { x with
      level := .push, confirm := none, popdown := none, held := false }) ∧
    (s.resolved c = .recover → r = .runningRev → t.comp c = { x with
      level := .recover, confirm := none, popdown := none, held := false }) ∧
    (s.resolved c = .push → r = .runningRev → t.direction c = some .fwd ∧ t.comp c = { x with
      level := .reversing, confirm := some ⟨s.uptime + s.compField c (·.startTimeout), .runningFwd⟩
      popdown := none, held := false }) ∧
    (s.resolved c = .recover → r = .runningFwd → t.direction c = some .rev ∧ t.comp c = { x with
      level := .reversing, confirm := some ⟨s.uptime + s.compField c (·.startTimeout), .runningRev⟩
      popdown := none, held := false }) ∧
    (∀ d, d ≠ c → t.comp d = s.comp d) ∧ (∀ i, t.spot i = { s.spot i with pass := (t.spot i).pass }) ∧
    t.waitList = s.waitList ∧ t.manifest = s.manifest ∧ t.conditions = s.conditions ∧ t.sdu = s.sdu) ∧
  (∀ (s : State) (c : CompId), Rising s.imap → (s.comp c).level = .stopping →
    let t := s.stateReport c .stopped
    t.manifest = s.manifest ∧ t.conditions = s.conditions ∧ t.sdu = s.sdu ∧
    ((s.comp c).attached = [] → t = s.modComp c (fun x => { x with level := .stopped, confirm := none })) ∧
    ((s.comp c).attached ≠ [] → (s.comp c).history.length < s.compField c (·.startLimit) →
      (t.comp c).level = .starting ∧ (t.comp c).history = (s.comp c).history ++ [s.uptime] ∧
      (t.comp c).deferred = false ∧
      (t.comp c).confirm = some ⟨s.uptime + s.compField c (·.startTimeout), match s.resolved c with
        | .push => .runningFwd
        | .recover => .runningRev
        | .hold => if s.direction c = some .rev then .runningRev else .runningFwd
        | .none => if s.direction c = some .rev then .runningRev else .runningFwd⟩ ∧
      (∀ x, latchOf s .compRun (compNumber c) = some x → latchOf t .compRun (compNumber c) = some .run) ∧
      (∀ x, s.direction c = some x → t.direction c = some (match s.resolved c with
        | .push => .fwd
        | .recover => .rev
        | .hold => x
        | .none => x)) ∧
      (∀ i, AttachedOnly s c i → s.isActive i = true → (s.spot i).state ≠ .suspended → (s.spot i).demand ≠ .none →
        (t.spot i).grant = .compressor c ∧ (t.spot i).causes.noCompressor = false ∧
        (t.spot i).demand = (s.spot i).demand ∧ (t.spot i).state = (s.spot i).state)) ∧
    ((s.comp c).attached ≠ [] → s.compField c (·.startLimit) ≤ (s.comp c).history.length →
      (t.comp c).level = .stopped ∧ (t.comp c).history = (s.comp c).history ∧ (t.comp c).confirm = none ∧
      latchOf t .compRun (compNumber c) = latchOf s .compRun (compNumber c) ∧ t.direction c = s.direction c ∧
      (∀ i, AttachedOnly s c i → s.isActive i = true → (s.spot i).demand.flows = true → DemandsItsState s i →
        (t.comp c).deferred = true ∧ i ∈ (t.comp c).attached ∧ (t.spot i).grant = .waiting ∧
        (t.spot i).causes.noCompressor = true ∧ (t.spot i).demand = (s.spot i).demand ∧
        ∀ v, savedOf (s.spot i).state (s.spot i).sub = some v →
          (t.spot i).state = .suspended ∧ (t.spot i).saved = some v) ∧
      (∀ i, AttachedOnly s c i → s.isActive i = true → (s.spot i).demand = .hold →
        (t.spot i).demand = .none ∧ i ∉ (t.comp c).attached))) ∧
  (∀ (s : State) (c : CompId) (r : CompReading), Rising s.imap → (s.comp c).level = .unavailable →
    unusable s c = false → r ≠ .fault →
    let t := s.stateReport c r
    let found : Option Command := match r with
      | .runningFwd => some .fwd
      | .runningRev => some .rev
      | .stopped => s.direction c
      | .fault => s.direction c
    t.direction c = found ∧
    t.comp c = (if r = .stopped then { s.comp c with level := .stopped }
      else match s.sdu.device with
        | .run => { s.comp c with
            level := .idleRun, popdown := some (s.uptime + s.compField c (·.popdown)) }
        | .tripped => { s.comp c with
            level := .stopping, confirm := some ⟨s.uptime + s.compField c (·.startTimeout), .stopped⟩ }) ∧
    latchOf t .compRun (compNumber c) = some (if r ≠ .stopped ∧ s.sdu.device = .run then .run else .stop) ∧
    (∀ d, d ≠ c → t.comp d = s.comp d) ∧ (∀ i, t.spot i = { s.spot i with pass := (t.spot i).pass }) ∧
    t.waitList = s.waitList ∧ t.manifest = s.manifest ∧ t.conditions = s.conditions ∧ t.sdu = s.sdu)

/-- Every waiting spot is SUSPENDED with the saved state that its demand serves (R97, R98), and attached to no compressor
(R146). The laws of the arbiter and of the demands give it. -/
def WaitersSuspended (s : State) : Prop :=
  s.waitList.Nodup ∧ ∀ i ∈ s.waitList, (s.spot i).state = .suspended ∧ (s.spot i).demand.flows = true ∧
    (∃ v, (s.spot i).saved = some v ∧ v.demand = (s.spot i).demand) ∧ ∀ c, i ∉ (s.comp c).attached

/-- The grant scan (R148). A compressor takes a spot by R145, the primary first. With no spot to be taken the scan does
nothing. The first spot of the list that can be taken leaves it and is attached; it returns to its saved state, or holds
where another cause keeps it, or waits on where the start is deferred; the list's rest, the other spots and the other
compressors stay, and the scan begins again. At its end no spot of the list can be taken. -/
def Obligations.GrantScanServesTheList : Prop :=
  (∀ (s : State) (c : CompId) (i : SpotId), s.canTake c i = true ↔ (s.comp c).level ≠ .unavailable ∧
    (s.comp c).attached.length < 2 ∧ ∀ j ∈ (s.comp c).attached, j ≠ i →
      ¬ ((s.spot i).demand = .push ∧ (s.spot j).demand = .recover) ∧
      ¬ ((s.spot i).demand = .recover ∧ (s.spot j).demand = .push)) ∧
  (∀ (s : State) (c : CompId) (i : SpotId), s.taker i = some c ↔ ∃ r, s.record i = some r ∧
    ((s.canTake r.primary i = true ∧ c = r.primary) ∨
      (s.canTake r.primary i = false ∧ r.alternate = some c ∧ s.canTake c i = true))) ∧
  (∀ s : State, (∀ i ∈ s.waitList, s.taker i = none) → s.endScan = s) ∧
  (∀ (s : State) (l rest : List SpotId) (i : SpotId) (c : CompId), WaitersSuspended s → s.waitList = l ++ i :: rest →
    (∀ j ∈ l, s.taker j = none) → s.taker i = some c →
    let t := s.grantSpot i c
    s.endScan = t.endScan ∧ t.waitList = l ++ rest ∧ i ∈ (t.comp c).attached ∧
    ((t.comp c).deferred = true → (t.spot i).state = .suspended ∧ (t.spot i).saved = (s.spot i).saved ∧
      (t.spot i).demand = (s.spot i).demand ∧ (t.spot i).causes.noCompressor = true) ∧
    ((t.comp c).deferred = false → (t.spot i).grant = .compressor c ∧ (t.spot i).causes.noCompressor = false ∧
      (({ (s.spot i).causes with noCompressor := false } : Causes).any = true →
        (t.spot i).state = .suspended ∧ (t.spot i).saved = (s.spot i).saved ∧ (t.spot i).demand = .hold) ∧
      (({ (s.spot i).causes with noCompressor := false } : Causes).any = false → ∀ v, (s.spot i).saved = some v →
        (t.spot i).state = v.state ∧ (t.spot i).saved = none ∧ (t.spot i).demand = (s.spot i).demand)) ∧
    (∀ d, d ≠ c → t.comp d = s.comp d) ∧
    (∀ j, j ≠ i → t.spot j = { s.spot j with pass := (t.spot j).pass })) ∧
  (∀ s : State, WaitersSuspended s → s.endScan.waitList.Sublist s.waitList ∧
    (∀ i ∈ s.endScan.waitList, s.endScan.taker i = none) ∧ s.endScan.manifest = s.manifest ∧
    s.endScan.conditions = s.conditions ∧ s.endScan.sdu = s.sdu)

/-! ## Expiries -/

/-- A travel or pressurise expiry that is due ends the active transfer in its fault; one not due does nothing (R67, R70,
R80, log 3). -/
def Obligations.SpotExpiriesFault : Prop :=
  (∀ (s : State) (n : Nat) (i : SpotId) (x : Travel), s.powered = true → spotId n = some i → Rising s.imap →
    s.isActive i = true → (s.spot i).travel = some x → x.deadline ≤ s.uptime →
    ∃ t, exec (.travelTimerExpiry n) s = .next t ∧ Ended s t i .faultValveTravel .faulted) ∧
  (∀ (s : State) (n : Nat) (i : SpotId) (u : Nat), s.powered = true → spotId n = some i → Rising s.imap →
    s.isActive i = true → (s.spot i).pressurise = some u → u ≤ s.uptime →
    ∃ t, exec (.pressuriseTimerExpiry n) s = .next t ∧ Ended s t i .faultPressurise .faulted) ∧
  (∀ (s : State) (n : Nat) (i : SpotId), s.powered = true → spotId n = some i →
    ((s.spot i).travel = none ∨ (∃ x, (s.spot i).travel = some x ∧ s.uptime < x.deadline) →
      exec (.travelTimerExpiry n) s = .next s) ∧
    ((s.spot i).pressurise = none ∨ (∃ u, (s.spot i).pressurise = some u ∧ s.uptime < u) →
      exec (.pressuriseTimerExpiry n) s = .next s))

/-- The suspend expiry releases the compressor, or the place on the wait list with its NO_COMPRESSOR; a transfer held by
another cause stays SUSPENDED without a timer, and one held by nothing else attempts its return (R99, R100, log 3). -/
def Obligations.SuspendExpiryReleases : Prop :=
  (∀ (s : State) (n : Nat) (i : SpotId) (u : Nat), s.powered = true → spotId n = some i →
    (s.spot i).state = .suspended → (s.spot i).suspendTimer = some u → u ≤ s.uptime →
    ({ (s.spot i).causes with noCompressor := false } : Causes).any = true →
    (i ∉ s.waitList ∨ (i ∈ s.waitList ∧ s.attachedTo i = none ∧ (s.spot i).demand.flows = true)) →
    ∃ t, exec (.suspendTimerExpiry n) s = .next t ∧ (t.spot i).state = .suspended ∧
      (t.spot i).saved = (s.spot i).saved ∧ (t.spot i).suspendTimer = none ∧ (t.spot i).demand = .none ∧
      ((s.spot i).demand ≠ .none → (t.spot i).grant = .none) ∧
      (t.spot i).causes = { (s.spot i).causes with noCompressor := false } ∧
      t.manifest = s.manifest ∧ t.sdu = s.sdu) ∧
  (∀ (s : State) (n : Nat) (i : SpotId) (u : Nat) (v : Saved), s.powered = true → spotId n = some i →
    (s.spot i).state = .suspended → (s.spot i).suspendTimer = some u → u ≤ s.uptime → (s.spot i).saved = some v →
    ({ (s.spot i).causes with noCompressor := false } : Causes).any = false →
    ∃ t, exec (.suspendTimerExpiry n) s = .next t ∧
      (((t.spot i).state = v.state ∧ (t.spot i).saved = none ∧ (t.spot i).suspendTimer = none) ∨
        ((t.spot i).state = .suspended ∧ (t.spot i).saved = some v ∧ (t.spot i).causes.noCompressor = true)) ∧
      t.manifest = s.manifest ∧ t.sdu = s.sdu) ∧
  (∀ (s : State) (n : Nat) (i : SpotId), s.powered = true → spotId n = some i →
    (s.spot i).suspendTimer = none ∨ (∃ u, (s.spot i).suspendTimer = some u ∧ s.uptime < u) →
    exec (.suspendTimerExpiry n) s = .next s)

/-- A pass expiry ends the pass and counts it; a settle expiry ends recovery where the car has settled or has had four
passes, and begins a new pass otherwise (R74, R128 to R131, log 3). -/
def Obligations.RecoveryExpiriesDecide : Prop :=
  (∀ (s : State) (n : Nat) (i : SpotId) (u : Nat), s.powered = true → spotId n = some i →
    (s.spot i).state = .recovery → (s.spot i).pass = some u → u ≤ s.uptime →
    ∃ t, exec (.passTimerExpiry n) s = .next t ∧ (t.spot i).state = .recovery ∧ (t.spot i).sub = some .settle ∧
      (t.spot i).passCount = (s.spot i).passCount + 1 ∧ (t.spot i).pass = none ∧
      (t.spot i).settle = some (s.uptime + s.recordField i (·.settleTime)) ∧ (t.spot i).demand = .none ∧
      ((s.spot i).demand ≠ .none → (t.spot i).grant = .none) ∧ t.manifest = s.manifest ∧ t.sdu = s.sdu) ∧
  (∀ (s : State) (n : Nat) (i : SpotId) (u : Nat) (p : Int) (r : CarRecord), s.powered = true →
    spotId n = some i → (s.spot i).state = .recovery → (s.spot i).settle = some u → u ≤ s.uptime →
    s.carPressure i = some p → s.boundRecord i = some r →
    let settled := decide (p ≤ (r.residual : Int) + (s.recordField i (·.rebound) : Int))
    (settled = true ∨ 4 ≤ (s.spot i).passCount →
      ∃ t, exec (.settleTimerExpiry n) s = .next t ∧ (t.spot i).state = .closing ∧ (t.spot i).sub = none ∧
        (t.spot i).settle = none ∧ (t.spot i).heel = !settled ∧
        (t.spot i).passCount = (s.spot i).passCount ∧
        (t.spot i).pendingOutcome = some (if (s.spot i).stopMark then .stopped
          else if settled then .delivered else .deliveredHeel) ∧
        (t.spot i).travel = some ⟨s.uptime + s.recordField i (·.travelLimit), .vapPos, .closed⟩ ∧
        t.manifest = s.manifest ∧ t.sdu = s.sdu) ∧
    (settled = false → (s.spot i).passCount < 4 →
      ∃ t, exec (.settleTimerExpiry n) s = .next t ∧ (t.spot i).settle = none ∧
        (t.spot i).passCount = (s.spot i).passCount ∧
        ((t.spot i).state = .recovery ∧ (t.spot i).sub = some .pass ∧ (t.spot i).demand = .recover ∨
          (t.spot i).state = .suspended ∧ (t.spot i).saved = some (.recovery .pass)) ∧
        t.manifest = s.manifest ∧ t.sdu = s.sdu)) ∧
  (∀ (s : State) (n : Nat) (i : SpotId), s.powered = true → spotId n = some i →
    ((s.spot i).pass = none ∨ (∃ u, (s.spot i).pass = some u ∧ s.uptime < u) →
      exec (.passTimerExpiry n) s = .next s) ∧
    ((s.spot i).settle = none ∨ (∃ u, (s.spot i).settle = some u ∧ s.uptime < u) →
      exec (.settleTimerExpiry n) s = .next s))

/-- A confirmation that does not come makes the compressor UNAVAILABLE; a popdown stops it, or holds it at the start
limit; an aged start leaves the history, and a deferred or held compressor is tested again (R139, R142, R149, R151,
R152, log 3). -/
def Obligations.CompressorExpiriesAct : Prop :=
  (∀ (s : State) (n : Nat) (c : CompId) (x : Confirmation), s.powered = true → compId n = some c →
    (s.comp c).confirm = some x → x.deadline ≤ s.uptime →
    ∃ t, exec (.confirmationTimerExpiry n) s = .next t ∧ (t.comp c).level = .unavailable ∧
      (t.comp c).attached = [] ∧ (t.comp c).confirm = none ∧ (t.comp c).popdown = none ∧
      (t.comp c).deferred = false ∧ (t.comp c).held = false ∧ (t.comp c).history = (s.comp c).history ∧
      (t.comp c).residency = (s.comp c).residency ∧ t.manifest = s.manifest ∧ t.sdu = s.sdu) ∧
  (∀ (s : State) (n : Nat) (c : CompId) (u : Nat), s.powered = true → compId n = some c →
    (s.comp c).popdown = some u → u ≤ s.uptime →
    ∃ t, exec (.popdownTimerExpiry n) s = .next t ∧ (t.comp c).popdown = none ∧
      (t.comp c).history = (s.comp c).history ∧ (t.comp c).attached = (s.comp c).attached ∧
      ((s.comp c).history.length < s.compField c (·.startLimit) → (t.comp c).level = .stopping ∧
        (t.comp c).confirm = some ⟨s.uptime + s.compField c (·.startTimeout), .stopped⟩ ∧
        (t.comp c).held = (s.comp c).held) ∧
      (s.compField c (·.startLimit) ≤ (s.comp c).history.length → (t.comp c).level = (s.comp c).level ∧
        (t.comp c).held = true ∧ (t.comp c).confirm = (s.comp c).confirm) ∧
      (∀ d, d ≠ c → t.comp d = s.comp d) ∧ t.manifest = s.manifest ∧ t.sdu = s.sdu) ∧
  (∀ (s : State) (n : Nat) (c : CompId) (u : Nat) (later : List Nat), s.powered = true → compId n = some c →
    (s.comp c).history = u :: later → u + 3600 ≤ s.uptime →
    ∃ t, exec (.startHistoryRemoval n) s = .next t ∧
      later <+: (t.comp c).history ∧
      ((s.comp c).deferred = false → s.waitList = [] → (t.comp c).history = later) ∧
      ((s.comp c).deferred = true → later.length < s.compField c (·.startLimit) →
        (t.comp c).level = .starting ∧ (t.comp c).history = later ++ [s.uptime] ∧ (t.comp c).deferred = false) ∧
      ((s.comp c).deferred = false → (s.comp c).held = true → later.length < s.compField c (·.startLimit) →
        (t.comp c).level = .stopping ∧ (t.comp c).held = false ∧
        (t.comp c).confirm = some ⟨s.uptime + s.compField c (·.startTimeout), .stopped⟩) ∧
      t.manifest = s.manifest ∧ t.sdu = s.sdu) ∧
  (∀ (s : State) (n : Nat) (c : CompId), s.powered = true → compId n = some c →
    ((s.comp c).confirm = none ∨ (∃ x, (s.comp c).confirm = some x ∧ s.uptime < x.deadline) →
      exec (.confirmationTimerExpiry n) s = .next s) ∧
    ((s.comp c).popdown = none ∨ (∃ u, (s.comp c).popdown = some u ∧ s.uptime < u) →
      exec (.popdownTimerExpiry n) s = .next s) ∧
    ((s.comp c).history = [] ∨ (∃ u l, (s.comp c).history = u :: l ∧ s.uptime < u + 3600) →
      exec (.startHistoryRemoval n) s = .next s))

/-- A refresh that is due offers the outgoing command and restarts for 2 s, touching no other entry; one not due does
nothing (R160, R161, log 3). -/
def Obligations.RefreshRepeatsTheCommand : Prop :=
  (∀ (s : State) (k : Nat) (e : MapEntry) (o : Output) (u : Nat) (cmd : Command), s.powered = true →
    Rising s.imap → entryAt s.imap k = some e → e.body = .output o → o.refresh = some u → u ≤ s.uptime →
    outgoing s.sdu.device o = some cmd →
    ∃ t, exec (.refreshTimerExpiry k) s = .next t ∧
      entryAt t.imap k = some { e with body := .output { o with refresh := some (s.uptime + 2) } } ∧
      (∀ m, m ≠ k → entryAt t.imap m = entryAt s.imap m) ∧
      (∀ a f, s.rpu.address = some a → s.rpu.sending = some f → queuedCommand k t.rpu = some cmd) ∧
      SameParts { s with imap := t.imap } t) ∧
  (∀ (s : State) (k : Nat), s.powered = true →
    (entryAt s.imap k = none ∨ (∃ e d, entryAt s.imap k = some e ∧ e.body = .input d) ∨
      (∃ e o, entryAt s.imap k = some e ∧ e.body = .output o ∧
        (o.refresh = none ∨ ∃ u, o.refresh = some u ∧ s.uptime < u))) →
    exec (.refreshTimerExpiry k) s = .next s)

/-- A second of uptime adds 1 to the count of each compressor's level, saturating, and moves the clock; past 32 bits a
free value is drawn (R153; logs 1, 2). -/
def Obligations.SecondsCountAtTheLevel : Prop :=
  ∀ s : State, s.powered = true →
    ∃ t, exec .residencyTick s = .next t ∧
      (∀ (c : CompId) (k : Fin 8), (t.comp c).residency.get k =
        if k = (s.comp c).level.place then min ((s.comp c).residency.get k + 1) 4294967295
        else (s.comp c).residency.get k) ∧
      (∀ c, t.comp c = { s.comp c with residency := (t.comp c).residency }) ∧
      (s.uptime < 4294967295 → t.uptime = s.uptime + 1 ∧ t.freeDraws = s.freeDraws) ∧
      (4294967295 ≤ s.uptime → t.freeDraws = s.freeDraws + 1) ∧
      t = { s with comps := t.comps, uptime := t.uptime, freeDraws := t.freeDraws }

/-! ## Reads and channels -/

/-- The reads answer with the sections the rules lay out and change nothing, but for the standing mark of READ_SPOT and
the counts that READ_COMPRESSOR clears (logs 17, 18, 28 for the layout; R37, R55, R153, R156, R168, R181, R184 to
R186). The next position of READ_HISTORY is one byte by the model's
choice (log 42). -/
def Obligations.ReadsReportAndChangeNothing : Prop :=
  (∀ (s : State) (q : Request) (start : Byte), Holds s q 0x01 [1, start] →
    ∃ t, exec .readStatus s = .next t ∧ SameParts s t ∧ Replied t q .done (statusSection1 s)) ∧
  (∀ (s : State) (q : Request) (start : Byte), Holds s q 0x01 [2, start] →
    ∃ t, exec .readStatus s = .next t ∧ SameParts s t ∧ Replied t q .done (statusSection2 s start.toNat)) ∧
  (∀ (s : State) (q : Request) (n part mark : Byte) (i : SpotId) (data : List Byte), Holds s q 0x02 [n, part, mark] →
    spotId n.toNat = some i → spotSection s i part.toNat = some data → mark = 0 ∨ mark = 1 →
    ∃ t, exec .readSpot s = .next t ∧ Replied t q .done data ∧ t.standing i = decide (mark = 1) ∧
      (∀ j, j ≠ i → t.standing j = s.standing j) ∧
      SameParts { s with mgu := { s.mgu with standing := t.mgu.standing } } t) ∧
  (∀ (s : State) (q : Request) (p part : Byte) (r : CarRecord), Holds s q 0x03 [p, part] →
    recordAt s.manifest p.toNat = some r → 1 ≤ part.toNat → part.toNat ≤ 4 →
    ∃ t, exec .readRecord s = .next t ∧ SameParts s t ∧
      Replied t q .done (if part = 1 then recordSection1 s.manifest.length r
        else if part = 2 then recordSection2 r else if part = 3 then recordSection3 r else recordSection4 r)) ∧
  (∀ (s : State) (q : Request) (n start : Byte) (i : SpotId) (h : start.toNat < 8), Holds s q 0x04 [n, start] →
    spotId n.toNat = some i →
    ∃ t, exec .readHistory s = .next t ∧ SameParts s t ∧
      Replied t q .done ([n, byte (s.spot i).window.next.val, byte (s.spot i).window.count] ++
        (s.spot i).window.fromIndex ⟨start.toNat, h⟩)) ∧
  (∀ (s : State) (q : Request) (n part : Byte) (c : CompId), Holds s q 0x05 [n, part, 0] →
    compId n.toNat = some c → 1 ≤ part.toNat → part.toNat ≤ 5 →
    ∃ t, exec .readCompressor s = .next t ∧ SameParts s t ∧
      Replied t q .done (if part = 1 then compSection1 s c else if part = 2 then compSection2 s c
        else if part = 3 then compSection3 s c else if part = 4 then compSection4 s c else compSection5 s)) ∧
  (∀ (s : State) (q : Request) (n : Byte) (c : CompId), Holds s q 0x05 [n, 2, 1] → compId n.toNat = some c →
    ∃ t, exec .readCompressor s = .next t ∧ Replied t q .done (compSection2 s c) ∧
      t.comp c = { s.comp c with residency := Vector.replicate 8 0 } ∧ (∀ d, d ≠ c → t.comp d = s.comp d) ∧
      SameParts { s with comps := t.comps } t) ∧
  (∀ (s : State) (q : Request) (k : Byte) (e : MapEntry), Holds s q 0x06 [k] → entryAt s.imap k.toNat = some e →
    ∃ t, exec .readChannel s = .next t ∧ SameParts s t ∧ Replied t q .done (channelBytes s k.toNat e))

/-- SET_CHANNEL_MODE to DRIVE loads the latch and sets the direction in one change, and in RUN offers a command that the
change makes the outgoing one; to MONITOR it keeps the latch, silences the entry in RUN and makes the compressor
of the entry UNAVAILABLE, whose COMP_RUN latch then holds STOP (R139, R160, R165 to R167). The reply carries the image as
READ_CHANNEL gives it after the request (R168; its layout: logs 17, 18). -/
def Obligations.ChannelModesChangeTheImage : Prop :=
  (∀ (s : State) (q : Request) (k initial : Byte) (e : MapEntry) (o : Output) (cmd : Command),
    Holds s q 0x40 [k, 2, initial] → Rising s.imap → entryAt s.imap k.toNat = some e → e.body = .output o →
    initialCommand e.role initial = some cmd → s.channelInUse e = false →
    ∃ t data, exec .setChannelMode s = .next t ∧ Replied t q .done data ∧
      entryAt t.imap k.toNat = some { e with body := .output { o with
        latch := cmd
        direction := .drive
        refresh := if s.sdu.device = .run ∧ (o.direction = .monitor ∨ o.latch ≠ cmd) then some (s.uptime + 2)
                   else o.refresh } } ∧
      (∀ a f, s.rpu.address = some a → s.rpu.sending = some f → queuedCommand k.toNat t.rpu =
        if s.sdu.device = .run ∧ (o.direction = .monitor ∨ o.latch ≠ cmd) then some cmd
        else queuedCommand k.toNat s.rpu) ∧
      (∀ f u, s.rpu.sending = some f → entryAt t.imap k.toNat = some u → data = channelBytes t k.toNat u) ∧
      (∀ m, m ≠ k.toNat → entryAt t.imap m = entryAt s.imap m) ∧ SameParts { s with imap := t.imap } t) ∧
  (∀ (s : State) (q : Request) (k : Byte) (e : MapEntry) (o : Output), Holds s q 0x40 [k, 1] → Rising s.imap →
    entryAt s.imap k.toNat = some e → e.body = .output o → s.channelInUse e = false →
    ∃ t data o', exec .setChannelMode s = .next t ∧ Replied t q .done data ∧
      entryAt t.imap k.toNat = some { e with body := .output o' } ∧ o'.direction = .monitor ∧ o'.safe = o.safe ∧
      (e.role ≠ .compRun → o'.latch = o.latch) ∧
      (∀ c, e.role = .compRun → s.compEntry .compRun c = some (k.toNat, e) →
        o'.latch = if (s.comp c).level = .unavailable then o.latch else .stop) ∧
      (s.sdu.device = .run → o.direction = .drive → o'.refresh = none ∧ queuedCommand k.toNat t.rpu = none) ∧
      (s.sdu.device = .tripped ∨ o.direction = .monitor → o'.refresh = o.refresh ∧
        ∀ f, s.rpu.sending = some f → queuedCommand k.toNat t.rpu = queuedCommand k.toNat s.rpu) ∧
      (∀ f, s.rpu.sending = some f → data = channelBytes t k.toNat { e with body := .output o' }) ∧
      (∀ c, e.role = .compRun ∨ e.role = .compDir → s.compEntry e.role c = some (k.toNat, e) →
        (t.comp c).level = .unavailable) ∧
      t.manifest = s.manifest ∧ t.sdu = s.sdu)

/-- The meanings of the request rows, each from parameters and state to state and reply; RESET_PART alone stands apart. -/
def requestMeanings : List (List Byte → State → State × Reply) :=
  [readStatus, readSpot, readRecord, readHistory, readCompressor, readChannel, loadMap, loadSpotRecord, loadCurve,
   loadSegment, loadCompRecord, addCarRecord, removeCarRecord, transferRequest startSpot, transferRequest suspendSpot,
   transferRequest resumeSpot, transferRequest stopSpot, transferRequest abortSpot, spotRequest releaseSpot,
   spotRequest clearSpot, setMode, ackSpot, tripPart, resetTrip]

/-- A request whose result is other than DONE leaves the state as it was; a body of length 0 or with an unknown code is
answered BAD_REQUEST and changes nothing (R183), and so is a RESET_PART that carries a parameter (R179). -/
def Obligations.RefusalsChangeNothing : Prop :=
  (∀ f ∈ requestMeanings, ∀ (args : List Byte) (s : State), (f args s).2.result ≠ .done → (f args s).1 = s) ∧
  (∀ (s : State) (q : Request), s.powered = true → s.mgu.held = some q → .reservation ∈ s.rpu.messages →
    unknownBody q.body = true →
    ∃ t, exec .unknownRequest s = .next t ∧ SameParts s t ∧ Replied t q .badRequest []) ∧
  (∀ (s : State) (q : Request), s.powered = true → s.mgu.held = some q → unknownBody q.body = false →
    exec .unknownRequest s = .next s) ∧
  (∀ b : List Byte, unknownBody b = true ↔ b = [] ∨ ∃ c l, b = c :: l ∧ c ∉ requestCodes) ∧
  (∀ (s : State) (q : Request) (b : Byte) (l : List Byte), Holds s q 0x52 (b :: l) →
    ∃ t, exec .resetPart s = .next t ∧ SameParts s t ∧ Replied t q .badRequest [])

/-! ## What alone may write each part -/

/-- Tables and records: the spot table changes by LOAD_SPOT and LOAD_METER_CURVE alone, the product groups by
LOAD_PRODUCT_SEGMENT, the compressor records by LOAD_COMPRESSOR. The manifest: positions change by ADD_CAR and REMOVE_CAR
alone; until REMOVE_CAR every record keeps its place and its six fixed fields, and a DONE record its end record. All of it
apart from power-on and the reset input (R38, R42, R44, R46, R49 to R51, R54). -/
def Obligations.TablesAndManifestKeepTheirRecords : Prop :=
  ∀ (c : Instr) (s t : State), exec c s = .next t → startsAnew c = false →
    (c ≠ .loadSpot → c ≠ .loadMeterCurve → t.table = s.table) ∧
    (c ≠ .loadProductSegment → t.groups = s.groups) ∧
    (c ≠ .loadCompressor → ∀ k, (t.comp k).record = (s.comp k).record) ∧
    (c ≠ .addCar → c ≠ .removeCar → t.manifest.length = s.manifest.length) ∧
    (c ≠ .removeCar → ∀ (p : Nat) (r : CarRecord), recordAt s.manifest p = some r →
      (∃ r', recordAt t.manifest p = some r' ∧ r'.fixed = r.fixed) ∧
      (r.status = .done → recordAt t.manifest p = some r))

/-- The rest of the part: the queue of waiting commands, which is the model's own (log 32), is no command's; the clock moves at
RESIDENCY_TICK alone (log 1), and so does the count of free values drawn, the model's own field (log 2); address, map shape, meter figures,
residency counts, standing marks and changed latches each change by their own commands alone; TRIP_RESET alone leads
from TRIPPED to RUN (R1, R35, R107, R153, R170, R186). -/
def Obligations.PartsChangeByTheirCommandsAlone : Prop :=
  ∀ (c : Instr) (s t : State), exec c s = .next t →
    t.pending = s.pending ∧
    (startsAnew c = false →
      t.rpu.address = s.rpu.address ∧ t.pins.straps = s.pins.straps ∧
      (c ≠ .residencyTick → t.uptime = s.uptime ∧ t.freeDraws = s.freeDraws) ∧
      (c ≠ .loadMapEntry → Rising s.imap → shapes t.imap = shapes s.imap) ∧
      ((∀ f, c ≠ .frameArrival f) → c ≠ .start → ∀ i, (t.spot i).acc = (s.spot i).acc) ∧
      ((∀ f, c ≠ .frameArrival f) → c ≠ .release → c ≠ .clear →
        ∀ i, (t.spot i).unassigned = (s.spot i).unassigned) ∧
      (c ≠ .residencyTick → c ≠ .readCompressor → ∀ k, (t.comp k).residency = (s.comp k).residency) ∧
      (c ≠ .readSpot → c ≠ .release → c ≠ .clear → c ≠ .resetPart → t.mgu.standing = s.mgu.standing) ∧
      (c ≠ .ackChanges → ∀ i, (s.latches i).zip (fun x y => x && !y) (t.latches i) = .allFalse) ∧
      (c ≠ .tripReset → s.sdu.device = .tripped → t.sdu.device = .tripped))

/-! ## Laws that every step keeps -/

/-- Every step keeps the trip output line with the device state, and no spot active while the part is TRIPPED (R86, R170,
R175). -/
def Obligations.StepsKeepTheTripSafe : Prop :=
  ∀ s t : State, step s = .next t → LineOk s ∧ Quiet s → LineOk t ∧ Quiet t

/-- Every step keeps raw conservation at every spot in an active state (R112). -/
def Obligations.StepsKeepRawConservation : Prop :=
  ∀ s t : State, step s = .next t → (∀ i, s.isActive i = true → Conserved s i) →
    ∀ i, t.isActive i = true → Conserved t i

/-- Every step keeps the law of the manifest at every spot (R51). -/
def Obligations.StepsKeepTheManifestBound : Prop :=
  ∀ s t : State, step s = .next t → (∀ i, BindOk s i) → ∀ i, BindOk t i

/-- Every step keeps the map in canonical form, the ring port inside its capacities, and one reservation exactly while a
request is held (R6, R7, R9, R11, R17, R182). It keeps keys, roles and owners unique in the map (R17, R18), and each queued
actuate the only one of its entry, at most 40 in all, with the outgoing command of a present output entry, and
none in BAD_ADDRESS (R1, R8, R160, R162). -/
def Obligations.StepsKeepMapAndPortInForm : Prop :=
  (∀ s t : State, step s = .next t → Rising s.imap ∧ PortOk s.rpu ∧ ReservedOk s →
    Rising t.imap ∧ PortOk t.rpu ∧ ReservedOk t) ∧
  (∀ s t : State, step s = .next t → MapOk s.imap ∧ ActuatesOk s → MapOk t.imap ∧ ActuatesOk t)

/-- Every step keeps the law of the LIQ_CMD latch, OPEN only while its spot is UNLOADING (R159), and the refresh timer of an
image running exactly while its outgoing command is a command (R161). -/
def Obligations.StepsKeepTheChannelLaws : Prop :=
  (∀ s t : State, step s = .next t → MapOk s.imap ∧ LiquidOk s → LiquidOk t) ∧
  (∀ s t : State, step s = .next t → Rising s.imap ∧ RefreshOk s → RefreshOk t)

/-- Every step keeps the laws of the attach arbiter and of the demands beside them: at most two spots on a compressor, never PUSH beside RECOVER, none on an
UNAVAILABLE one; no spot in two places or twice on the wait list; who is attached or waits asks for it (R141, R145 to
R147). A running transfer demands what its state is served by, and a waiting spot is SUSPENDED with the saved state that
its demand serves (R68, R73, R94, R97, R98, R129). -/
def Obligations.StepsKeepTheArbiter : Prop :=
  (∀ s t : State, step s = .next t → ArbiterOk s → ArbiterOk t) ∧
  (∀ s t : State, step s = .next t → ArbiterOk s ∧ DemandsOk s → DemandsOk t)

/-- Every step keeps levels, marks and timers of the compressors together: the deferred mark exactly at STOPPED with spots
attached, the confirmation timer exactly in STARTING, REVERSING and STOPPING, popdown timer or HELD_BY_CYCLE_LIMIT
exactly at an idling compressor without spots, and a running level the one its resolved demand gives (R137, R141, R142,
R149, R151). -/
def Obligations.StepsKeepTheLevels : Prop :=
  ∀ s t : State, step s = .next t → ArbiterOk s ∧ LevelsOk s → LevelsOk t

/-- The reset state is what POWER_ON with straps 1 gives, and every law of the steps holds in it (log 7). -/
def Obligations.LawsHoldAtReset : Prop :=
  exec (.powerOn 1) State.reset = .next State.reset ∧
  LineOk State.reset ∧ Quiet State.reset ∧ (∀ i, Conserved State.reset i) ∧ (∀ i, BindOk State.reset i) ∧
  Rising State.reset.imap ∧ PortOk State.reset.rpu ∧ ReservedOk State.reset ∧ State.reset.pending = [] ∧
  MapOk State.reset.imap ∧ ActuatesOk State.reset ∧ LiquidOk State.reset ∧ RefreshOk State.reset ∧
  ArbiterOk State.reset ∧ LevelsOk State.reset ∧ DemandsOk State.reset
end

