-- ==== Sys2Proof/Laws/State.lean ====
section
/-! SUPPORT. What each update of the state leaves as it was, field by field, and what it writes. -/

namespace Sys2Proof.Machine


/-! ## modSpot -/

@[simp] theorem pins_modSpot (s : State) (i : SpotId) (f : SpotContext → SpotContext) : (s.modSpot i f).pins = s.pins := rfl
@[simp] theorem powered_modSpot (s : State) (i : SpotId) (f : SpotContext → SpotContext) : (s.modSpot i f).powered = s.powered := rfl
@[simp] theorem uptime_modSpot (s : State) (i : SpotId) (f : SpotContext → SpotContext) : (s.modSpot i f).uptime = s.uptime := rfl
@[simp] theorem freeDraws_modSpot (s : State) (i : SpotId) (f : SpotContext → SpotContext) : (s.modSpot i f).freeDraws = s.freeDraws := rfl
@[simp] theorem rpu_modSpot (s : State) (i : SpotId) (f : SpotContext → SpotContext) : (s.modSpot i f).rpu = s.rpu := rfl
@[simp] theorem imap_modSpot (s : State) (i : SpotId) (f : SpotContext → SpotContext) : (s.modSpot i f).imap = s.imap := rfl
@[simp] theorem conditions_modSpot (s : State) (i : SpotId) (f : SpotContext → SpotContext) : (s.modSpot i f).conditions = s.conditions := rfl
@[simp] theorem table_modSpot (s : State) (i : SpotId) (f : SpotContext → SpotContext) : (s.modSpot i f).table = s.table := rfl
@[simp] theorem groups_modSpot (s : State) (i : SpotId) (f : SpotContext → SpotContext) : (s.modSpot i f).groups = s.groups := rfl
@[simp] theorem manifest_modSpot (s : State) (i : SpotId) (f : SpotContext → SpotContext) : (s.modSpot i f).manifest = s.manifest := rfl
@[simp] theorem comps_modSpot (s : State) (i : SpotId) (f : SpotContext → SpotContext) : (s.modSpot i f).comps = s.comps := rfl
@[simp] theorem waitList_modSpot (s : State) (i : SpotId) (f : SpotContext → SpotContext) : (s.modSpot i f).waitList = s.waitList := rfl
@[simp] theorem sdu_modSpot (s : State) (i : SpotId) (f : SpotContext → SpotContext) : (s.modSpot i f).sdu = s.sdu := rfl
@[simp] theorem mgu_modSpot (s : State) (i : SpotId) (f : SpotContext → SpotContext) : (s.modSpot i f).mgu = s.mgu := rfl
@[simp] theorem pending_modSpot (s : State) (i : SpotId) (f : SpotContext → SpotContext) : (s.modSpot i f).pending = s.pending := rfl

/-! ## modComp -/

@[simp] theorem pins_modComp (s : State) (c : CompId) (f : Compressor → Compressor) : (s.modComp c f).pins = s.pins := rfl
@[simp] theorem powered_modComp (s : State) (c : CompId) (f : Compressor → Compressor) : (s.modComp c f).powered = s.powered := rfl
@[simp] theorem uptime_modComp (s : State) (c : CompId) (f : Compressor → Compressor) : (s.modComp c f).uptime = s.uptime := rfl
@[simp] theorem freeDraws_modComp (s : State) (c : CompId) (f : Compressor → Compressor) : (s.modComp c f).freeDraws = s.freeDraws := rfl
@[simp] theorem rpu_modComp (s : State) (c : CompId) (f : Compressor → Compressor) : (s.modComp c f).rpu = s.rpu := rfl
@[simp] theorem imap_modComp (s : State) (c : CompId) (f : Compressor → Compressor) : (s.modComp c f).imap = s.imap := rfl
@[simp] theorem conditions_modComp (s : State) (c : CompId) (f : Compressor → Compressor) : (s.modComp c f).conditions = s.conditions := rfl
@[simp] theorem table_modComp (s : State) (c : CompId) (f : Compressor → Compressor) : (s.modComp c f).table = s.table := rfl
@[simp] theorem groups_modComp (s : State) (c : CompId) (f : Compressor → Compressor) : (s.modComp c f).groups = s.groups := rfl
@[simp] theorem manifest_modComp (s : State) (c : CompId) (f : Compressor → Compressor) : (s.modComp c f).manifest = s.manifest := rfl
@[simp] theorem spots_modComp (s : State) (c : CompId) (f : Compressor → Compressor) : (s.modComp c f).spots = s.spots := rfl
@[simp] theorem waitList_modComp (s : State) (c : CompId) (f : Compressor → Compressor) : (s.modComp c f).waitList = s.waitList := rfl
@[simp] theorem sdu_modComp (s : State) (c : CompId) (f : Compressor → Compressor) : (s.modComp c f).sdu = s.sdu := rfl
@[simp] theorem mgu_modComp (s : State) (c : CompId) (f : Compressor → Compressor) : (s.modComp c f).mgu = s.mgu := rfl
@[simp] theorem pending_modComp (s : State) (c : CompId) (f : Compressor → Compressor) : (s.modComp c f).pending = s.pending := rfl

/-! ## modRpu -/

@[simp] theorem pins_modRpu (s : State) (f : Rpu → Rpu) : (s.modRpu f).pins = s.pins := rfl
@[simp] theorem powered_modRpu (s : State) (f : Rpu → Rpu) : (s.modRpu f).powered = s.powered := rfl
@[simp] theorem uptime_modRpu (s : State) (f : Rpu → Rpu) : (s.modRpu f).uptime = s.uptime := rfl
@[simp] theorem freeDraws_modRpu (s : State) (f : Rpu → Rpu) : (s.modRpu f).freeDraws = s.freeDraws := rfl
@[simp] theorem imap_modRpu (s : State) (f : Rpu → Rpu) : (s.modRpu f).imap = s.imap := rfl
@[simp] theorem conditions_modRpu (s : State) (f : Rpu → Rpu) : (s.modRpu f).conditions = s.conditions := rfl
@[simp] theorem table_modRpu (s : State) (f : Rpu → Rpu) : (s.modRpu f).table = s.table := rfl
@[simp] theorem groups_modRpu (s : State) (f : Rpu → Rpu) : (s.modRpu f).groups = s.groups := rfl
@[simp] theorem manifest_modRpu (s : State) (f : Rpu → Rpu) : (s.modRpu f).manifest = s.manifest := rfl
@[simp] theorem spots_modRpu (s : State) (f : Rpu → Rpu) : (s.modRpu f).spots = s.spots := rfl
@[simp] theorem comps_modRpu (s : State) (f : Rpu → Rpu) : (s.modRpu f).comps = s.comps := rfl
@[simp] theorem waitList_modRpu (s : State) (f : Rpu → Rpu) : (s.modRpu f).waitList = s.waitList := rfl
@[simp] theorem sdu_modRpu (s : State) (f : Rpu → Rpu) : (s.modRpu f).sdu = s.sdu := rfl
@[simp] theorem mgu_modRpu (s : State) (f : Rpu → Rpu) : (s.modRpu f).mgu = s.mgu := rfl
@[simp] theorem pending_modRpu (s : State) (f : Rpu → Rpu) : (s.modRpu f).pending = s.pending := rfl

/-! ## notice -/

@[simp] theorem pins_notice (s : State) (b : List Byte) : (s.notice b).pins = s.pins := rfl
@[simp] theorem powered_notice (s : State) (b : List Byte) : (s.notice b).powered = s.powered := rfl
@[simp] theorem uptime_notice (s : State) (b : List Byte) : (s.notice b).uptime = s.uptime := rfl
@[simp] theorem freeDraws_notice (s : State) (b : List Byte) : (s.notice b).freeDraws = s.freeDraws := rfl
@[simp] theorem imap_notice (s : State) (b : List Byte) : (s.notice b).imap = s.imap := rfl
@[simp] theorem conditions_notice (s : State) (b : List Byte) : (s.notice b).conditions = s.conditions := rfl
@[simp] theorem table_notice (s : State) (b : List Byte) : (s.notice b).table = s.table := rfl
@[simp] theorem groups_notice (s : State) (b : List Byte) : (s.notice b).groups = s.groups := rfl
@[simp] theorem manifest_notice (s : State) (b : List Byte) : (s.notice b).manifest = s.manifest := rfl
@[simp] theorem spots_notice (s : State) (b : List Byte) : (s.notice b).spots = s.spots := rfl
@[simp] theorem comps_notice (s : State) (b : List Byte) : (s.notice b).comps = s.comps := rfl
@[simp] theorem waitList_notice (s : State) (b : List Byte) : (s.notice b).waitList = s.waitList := rfl
@[simp] theorem sdu_notice (s : State) (b : List Byte) : (s.notice b).sdu = s.sdu := rfl
@[simp] theorem mgu_notice (s : State) (b : List Byte) : (s.notice b).mgu = s.mgu := rfl
@[simp] theorem pending_notice (s : State) (b : List Byte) : (s.notice b).pending = s.pending := rfl

/-! ## setState -/

@[simp] theorem pins_setState (s : State) (i : SpotId) (st : SpotState) : (s.setState i st).pins = s.pins := rfl
@[simp] theorem powered_setState (s : State) (i : SpotId) (st : SpotState) : (s.setState i st).powered = s.powered := rfl
@[simp] theorem uptime_setState (s : State) (i : SpotId) (st : SpotState) : (s.setState i st).uptime = s.uptime := rfl
@[simp] theorem freeDraws_setState (s : State) (i : SpotId) (st : SpotState) : (s.setState i st).freeDraws = s.freeDraws := rfl
@[simp] theorem rpu_setState (s : State) (i : SpotId) (st : SpotState) : (s.setState i st).rpu = s.rpu := rfl
@[simp] theorem imap_setState (s : State) (i : SpotId) (st : SpotState) : (s.setState i st).imap = s.imap := rfl
@[simp] theorem conditions_setState (s : State) (i : SpotId) (st : SpotState) : (s.setState i st).conditions = s.conditions := rfl
@[simp] theorem table_setState (s : State) (i : SpotId) (st : SpotState) : (s.setState i st).table = s.table := rfl
@[simp] theorem groups_setState (s : State) (i : SpotId) (st : SpotState) : (s.setState i st).groups = s.groups := rfl
@[simp] theorem manifest_setState (s : State) (i : SpotId) (st : SpotState) : (s.setState i st).manifest = s.manifest := rfl
@[simp] theorem comps_setState (s : State) (i : SpotId) (st : SpotState) : (s.setState i st).comps = s.comps := rfl
@[simp] theorem waitList_setState (s : State) (i : SpotId) (st : SpotState) : (s.setState i st).waitList = s.waitList := rfl
@[simp] theorem sdu_setState (s : State) (i : SpotId) (st : SpotState) : (s.setState i st).sdu = s.sdu := rfl
@[simp] theorem mgu_setState (s : State) (i : SpotId) (st : SpotState) : (s.setState i st).mgu = s.mgu := rfl
@[simp] theorem pending_setState (s : State) (i : SpotId) (st : SpotState) : (s.setState i st).pending = s.pending := rfl

/-! ## leaveList -/

@[simp] theorem pins_leaveList (s : State) (i : SpotId) : (s.leaveList i).pins = s.pins := rfl
@[simp] theorem powered_leaveList (s : State) (i : SpotId) : (s.leaveList i).powered = s.powered := rfl
@[simp] theorem uptime_leaveList (s : State) (i : SpotId) : (s.leaveList i).uptime = s.uptime := rfl
@[simp] theorem freeDraws_leaveList (s : State) (i : SpotId) : (s.leaveList i).freeDraws = s.freeDraws := rfl
@[simp] theorem rpu_leaveList (s : State) (i : SpotId) : (s.leaveList i).rpu = s.rpu := rfl
@[simp] theorem imap_leaveList (s : State) (i : SpotId) : (s.leaveList i).imap = s.imap := rfl
@[simp] theorem conditions_leaveList (s : State) (i : SpotId) : (s.leaveList i).conditions = s.conditions := rfl
@[simp] theorem table_leaveList (s : State) (i : SpotId) : (s.leaveList i).table = s.table := rfl
@[simp] theorem groups_leaveList (s : State) (i : SpotId) : (s.leaveList i).groups = s.groups := rfl
@[simp] theorem manifest_leaveList (s : State) (i : SpotId) : (s.leaveList i).manifest = s.manifest := rfl
@[simp] theorem spots_leaveList (s : State) (i : SpotId) : (s.leaveList i).spots = s.spots := rfl
@[simp] theorem comps_leaveList (s : State) (i : SpotId) : (s.leaveList i).comps = s.comps := rfl
@[simp] theorem sdu_leaveList (s : State) (i : SpotId) : (s.leaveList i).sdu = s.sdu := rfl
@[simp] theorem mgu_leaveList (s : State) (i : SpotId) : (s.leaveList i).mgu = s.mgu := rfl
@[simp] theorem pending_leaveList (s : State) (i : SpotId) : (s.leaveList i).pending = s.pending := rfl

/-! ## setStanding -/

@[simp] theorem pins_setStanding (s : State) (i : SpotId) (b : Bool) : (s.setStanding i b).pins = s.pins := rfl
@[simp] theorem powered_setStanding (s : State) (i : SpotId) (b : Bool) : (s.setStanding i b).powered = s.powered := rfl
@[simp] theorem uptime_setStanding (s : State) (i : SpotId) (b : Bool) : (s.setStanding i b).uptime = s.uptime := rfl
@[simp] theorem freeDraws_setStanding (s : State) (i : SpotId) (b : Bool) : (s.setStanding i b).freeDraws = s.freeDraws := rfl
@[simp] theorem rpu_setStanding (s : State) (i : SpotId) (b : Bool) : (s.setStanding i b).rpu = s.rpu := rfl
@[simp] theorem imap_setStanding (s : State) (i : SpotId) (b : Bool) : (s.setStanding i b).imap = s.imap := rfl
@[simp] theorem conditions_setStanding (s : State) (i : SpotId) (b : Bool) : (s.setStanding i b).conditions = s.conditions := rfl
@[simp] theorem table_setStanding (s : State) (i : SpotId) (b : Bool) : (s.setStanding i b).table = s.table := rfl
@[simp] theorem groups_setStanding (s : State) (i : SpotId) (b : Bool) : (s.setStanding i b).groups = s.groups := rfl
@[simp] theorem manifest_setStanding (s : State) (i : SpotId) (b : Bool) : (s.setStanding i b).manifest = s.manifest := rfl
@[simp] theorem spots_setStanding (s : State) (i : SpotId) (b : Bool) : (s.setStanding i b).spots = s.spots := rfl
@[simp] theorem comps_setStanding (s : State) (i : SpotId) (b : Bool) : (s.setStanding i b).comps = s.comps := rfl
@[simp] theorem waitList_setStanding (s : State) (i : SpotId) (b : Bool) : (s.setStanding i b).waitList = s.waitList := rfl
@[simp] theorem sdu_setStanding (s : State) (i : SpotId) (b : Bool) : (s.setStanding i b).sdu = s.sdu := rfl
@[simp] theorem pending_setStanding (s : State) (i : SpotId) (b : Bool) : (s.setStanding i b).pending = s.pending := rfl

/-! ## setRecord -/

@[simp] theorem pins_setRecord (s : State) (i : SpotId) (r : SpotRecord) : (s.setRecord i r).pins = s.pins := rfl
@[simp] theorem powered_setRecord (s : State) (i : SpotId) (r : SpotRecord) : (s.setRecord i r).powered = s.powered := rfl
@[simp] theorem uptime_setRecord (s : State) (i : SpotId) (r : SpotRecord) : (s.setRecord i r).uptime = s.uptime := rfl
@[simp] theorem freeDraws_setRecord (s : State) (i : SpotId) (r : SpotRecord) : (s.setRecord i r).freeDraws = s.freeDraws := rfl
@[simp] theorem rpu_setRecord (s : State) (i : SpotId) (r : SpotRecord) : (s.setRecord i r).rpu = s.rpu := rfl
@[simp] theorem imap_setRecord (s : State) (i : SpotId) (r : SpotRecord) : (s.setRecord i r).imap = s.imap := rfl
@[simp] theorem conditions_setRecord (s : State) (i : SpotId) (r : SpotRecord) : (s.setRecord i r).conditions = s.conditions := rfl
@[simp] theorem groups_setRecord (s : State) (i : SpotId) (r : SpotRecord) : (s.setRecord i r).groups = s.groups := rfl
@[simp] theorem manifest_setRecord (s : State) (i : SpotId) (r : SpotRecord) : (s.setRecord i r).manifest = s.manifest := rfl
@[simp] theorem spots_setRecord (s : State) (i : SpotId) (r : SpotRecord) : (s.setRecord i r).spots = s.spots := rfl
@[simp] theorem comps_setRecord (s : State) (i : SpotId) (r : SpotRecord) : (s.setRecord i r).comps = s.comps := rfl
@[simp] theorem waitList_setRecord (s : State) (i : SpotId) (r : SpotRecord) : (s.setRecord i r).waitList = s.waitList := rfl
@[simp] theorem sdu_setRecord (s : State) (i : SpotId) (r : SpotRecord) : (s.setRecord i r).sdu = s.sdu := rfl
@[simp] theorem mgu_setRecord (s : State) (i : SpotId) (r : SpotRecord) : (s.setRecord i r).mgu = s.mgu := rfl
@[simp] theorem pending_setRecord (s : State) (i : SpotId) (r : SpotRecord) : (s.setRecord i r).pending = s.pending := rfl

/-! ## attach -/

@[simp] theorem pins_attach (s : State) (c : CompId) (i : SpotId) : (s.attach c i).pins = s.pins := rfl
@[simp] theorem powered_attach (s : State) (c : CompId) (i : SpotId) : (s.attach c i).powered = s.powered := rfl
@[simp] theorem uptime_attach (s : State) (c : CompId) (i : SpotId) : (s.attach c i).uptime = s.uptime := rfl
@[simp] theorem freeDraws_attach (s : State) (c : CompId) (i : SpotId) : (s.attach c i).freeDraws = s.freeDraws := rfl
@[simp] theorem rpu_attach (s : State) (c : CompId) (i : SpotId) : (s.attach c i).rpu = s.rpu := rfl
@[simp] theorem imap_attach (s : State) (c : CompId) (i : SpotId) : (s.attach c i).imap = s.imap := rfl
@[simp] theorem conditions_attach (s : State) (c : CompId) (i : SpotId) : (s.attach c i).conditions = s.conditions := rfl
@[simp] theorem table_attach (s : State) (c : CompId) (i : SpotId) : (s.attach c i).table = s.table := rfl
@[simp] theorem groups_attach (s : State) (c : CompId) (i : SpotId) : (s.attach c i).groups = s.groups := rfl
@[simp] theorem manifest_attach (s : State) (c : CompId) (i : SpotId) : (s.attach c i).manifest = s.manifest := rfl
@[simp] theorem spots_attach (s : State) (c : CompId) (i : SpotId) : (s.attach c i).spots = s.spots := rfl
@[simp] theorem waitList_attach (s : State) (c : CompId) (i : SpotId) : (s.attach c i).waitList = s.waitList := rfl
@[simp] theorem sdu_attach (s : State) (c : CompId) (i : SpotId) : (s.attach c i).sdu = s.sdu := rfl
@[simp] theorem mgu_attach (s : State) (c : CompId) (i : SpotId) : (s.attach c i).mgu = s.mgu := rfl
@[simp] theorem pending_attach (s : State) (c : CompId) (i : SpotId) : (s.attach c i).pending = s.pending := rfl

/-! ## detach -/

@[simp] theorem pins_detach (s : State) (c : CompId) (i : SpotId) : (s.detach c i).pins = s.pins := rfl
@[simp] theorem powered_detach (s : State) (c : CompId) (i : SpotId) : (s.detach c i).powered = s.powered := rfl
@[simp] theorem uptime_detach (s : State) (c : CompId) (i : SpotId) : (s.detach c i).uptime = s.uptime := rfl
@[simp] theorem freeDraws_detach (s : State) (c : CompId) (i : SpotId) : (s.detach c i).freeDraws = s.freeDraws := rfl
@[simp] theorem rpu_detach (s : State) (c : CompId) (i : SpotId) : (s.detach c i).rpu = s.rpu := rfl
@[simp] theorem imap_detach (s : State) (c : CompId) (i : SpotId) : (s.detach c i).imap = s.imap := rfl
@[simp] theorem conditions_detach (s : State) (c : CompId) (i : SpotId) : (s.detach c i).conditions = s.conditions := rfl
@[simp] theorem table_detach (s : State) (c : CompId) (i : SpotId) : (s.detach c i).table = s.table := rfl
@[simp] theorem groups_detach (s : State) (c : CompId) (i : SpotId) : (s.detach c i).groups = s.groups := rfl
@[simp] theorem manifest_detach (s : State) (c : CompId) (i : SpotId) : (s.detach c i).manifest = s.manifest := rfl
@[simp] theorem spots_detach (s : State) (c : CompId) (i : SpotId) : (s.detach c i).spots = s.spots := rfl
@[simp] theorem waitList_detach (s : State) (c : CompId) (i : SpotId) : (s.detach c i).waitList = s.waitList := rfl
@[simp] theorem sdu_detach (s : State) (c : CompId) (i : SpotId) : (s.detach c i).sdu = s.sdu := rfl
@[simp] theorem mgu_detach (s : State) (c : CompId) (i : SpotId) : (s.detach c i).mgu = s.mgu := rfl
@[simp] theorem pending_detach (s : State) (c : CompId) (i : SpotId) : (s.detach c i).pending = s.pending := rfl

/-! ## startTravel -/

@[simp] theorem pins_startTravel (s : State) (i : SpotId) (r : Role) (p : Position) : (s.startTravel i r p).pins = s.pins := rfl
@[simp] theorem powered_startTravel (s : State) (i : SpotId) (r : Role) (p : Position) : (s.startTravel i r p).powered = s.powered := rfl
@[simp] theorem uptime_startTravel (s : State) (i : SpotId) (r : Role) (p : Position) : (s.startTravel i r p).uptime = s.uptime := rfl
@[simp] theorem freeDraws_startTravel (s : State) (i : SpotId) (r : Role) (p : Position) : (s.startTravel i r p).freeDraws = s.freeDraws := rfl
@[simp] theorem rpu_startTravel (s : State) (i : SpotId) (r : Role) (p : Position) : (s.startTravel i r p).rpu = s.rpu := rfl
@[simp] theorem imap_startTravel (s : State) (i : SpotId) (r : Role) (p : Position) : (s.startTravel i r p).imap = s.imap := rfl
@[simp] theorem conditions_startTravel (s : State) (i : SpotId) (r : Role) (p : Position) : (s.startTravel i r p).conditions = s.conditions := rfl
@[simp] theorem table_startTravel (s : State) (i : SpotId) (r : Role) (p : Position) : (s.startTravel i r p).table = s.table := rfl
@[simp] theorem groups_startTravel (s : State) (i : SpotId) (r : Role) (p : Position) : (s.startTravel i r p).groups = s.groups := rfl
@[simp] theorem manifest_startTravel (s : State) (i : SpotId) (r : Role) (p : Position) : (s.startTravel i r p).manifest = s.manifest := rfl
@[simp] theorem comps_startTravel (s : State) (i : SpotId) (r : Role) (p : Position) : (s.startTravel i r p).comps = s.comps := rfl
@[simp] theorem waitList_startTravel (s : State) (i : SpotId) (r : Role) (p : Position) : (s.startTravel i r p).waitList = s.waitList := rfl
@[simp] theorem sdu_startTravel (s : State) (i : SpotId) (r : Role) (p : Position) : (s.startTravel i r p).sdu = s.sdu := rfl
@[simp] theorem mgu_startTravel (s : State) (i : SpotId) (r : Role) (p : Position) : (s.startTravel i r p).mgu = s.mgu := rfl
@[simp] theorem pending_startTravel (s : State) (i : SpotId) (r : Role) (p : Position) : (s.startTravel i r p).pending = s.pending := rfl

/-! ## startPressurise -/

@[simp] theorem pins_startPressurise (s : State) (i : SpotId) : (s.startPressurise i).pins = s.pins := rfl
@[simp] theorem powered_startPressurise (s : State) (i : SpotId) : (s.startPressurise i).powered = s.powered := rfl
@[simp] theorem uptime_startPressurise (s : State) (i : SpotId) : (s.startPressurise i).uptime = s.uptime := rfl
@[simp] theorem freeDraws_startPressurise (s : State) (i : SpotId) : (s.startPressurise i).freeDraws = s.freeDraws := rfl
@[simp] theorem rpu_startPressurise (s : State) (i : SpotId) : (s.startPressurise i).rpu = s.rpu := rfl
@[simp] theorem imap_startPressurise (s : State) (i : SpotId) : (s.startPressurise i).imap = s.imap := rfl
@[simp] theorem conditions_startPressurise (s : State) (i : SpotId) : (s.startPressurise i).conditions = s.conditions := rfl
@[simp] theorem table_startPressurise (s : State) (i : SpotId) : (s.startPressurise i).table = s.table := rfl
@[simp] theorem groups_startPressurise (s : State) (i : SpotId) : (s.startPressurise i).groups = s.groups := rfl
@[simp] theorem manifest_startPressurise (s : State) (i : SpotId) : (s.startPressurise i).manifest = s.manifest := rfl
@[simp] theorem comps_startPressurise (s : State) (i : SpotId) : (s.startPressurise i).comps = s.comps := rfl
@[simp] theorem waitList_startPressurise (s : State) (i : SpotId) : (s.startPressurise i).waitList = s.waitList := rfl
@[simp] theorem sdu_startPressurise (s : State) (i : SpotId) : (s.startPressurise i).sdu = s.sdu := rfl
@[simp] theorem mgu_startPressurise (s : State) (i : SpotId) : (s.startPressurise i).mgu = s.mgu := rfl
@[simp] theorem pending_startPressurise (s : State) (i : SpotId) : (s.startPressurise i).pending = s.pending := rfl

/-! ## startSuspend -/

@[simp] theorem pins_startSuspend (s : State) (i : SpotId) : (s.startSuspend i).pins = s.pins := rfl
@[simp] theorem powered_startSuspend (s : State) (i : SpotId) : (s.startSuspend i).powered = s.powered := rfl
@[simp] theorem uptime_startSuspend (s : State) (i : SpotId) : (s.startSuspend i).uptime = s.uptime := rfl
@[simp] theorem freeDraws_startSuspend (s : State) (i : SpotId) : (s.startSuspend i).freeDraws = s.freeDraws := rfl
@[simp] theorem rpu_startSuspend (s : State) (i : SpotId) : (s.startSuspend i).rpu = s.rpu := rfl
@[simp] theorem imap_startSuspend (s : State) (i : SpotId) : (s.startSuspend i).imap = s.imap := rfl
@[simp] theorem conditions_startSuspend (s : State) (i : SpotId) : (s.startSuspend i).conditions = s.conditions := rfl
@[simp] theorem table_startSuspend (s : State) (i : SpotId) : (s.startSuspend i).table = s.table := rfl
@[simp] theorem groups_startSuspend (s : State) (i : SpotId) : (s.startSuspend i).groups = s.groups := rfl
@[simp] theorem manifest_startSuspend (s : State) (i : SpotId) : (s.startSuspend i).manifest = s.manifest := rfl
@[simp] theorem comps_startSuspend (s : State) (i : SpotId) : (s.startSuspend i).comps = s.comps := rfl
@[simp] theorem waitList_startSuspend (s : State) (i : SpotId) : (s.startSuspend i).waitList = s.waitList := rfl
@[simp] theorem sdu_startSuspend (s : State) (i : SpotId) : (s.startSuspend i).sdu = s.sdu := rfl
@[simp] theorem mgu_startSuspend (s : State) (i : SpotId) : (s.startSuspend i).mgu = s.mgu := rfl
@[simp] theorem pending_startSuspend (s : State) (i : SpotId) : (s.startSuspend i).pending = s.pending := rfl

/-! ## startSettle -/

@[simp] theorem pins_startSettle (s : State) (i : SpotId) : (s.startSettle i).pins = s.pins := rfl
@[simp] theorem powered_startSettle (s : State) (i : SpotId) : (s.startSettle i).powered = s.powered := rfl
@[simp] theorem uptime_startSettle (s : State) (i : SpotId) : (s.startSettle i).uptime = s.uptime := rfl
@[simp] theorem freeDraws_startSettle (s : State) (i : SpotId) : (s.startSettle i).freeDraws = s.freeDraws := rfl
@[simp] theorem rpu_startSettle (s : State) (i : SpotId) : (s.startSettle i).rpu = s.rpu := rfl
@[simp] theorem imap_startSettle (s : State) (i : SpotId) : (s.startSettle i).imap = s.imap := rfl
@[simp] theorem conditions_startSettle (s : State) (i : SpotId) : (s.startSettle i).conditions = s.conditions := rfl
@[simp] theorem table_startSettle (s : State) (i : SpotId) : (s.startSettle i).table = s.table := rfl
@[simp] theorem groups_startSettle (s : State) (i : SpotId) : (s.startSettle i).groups = s.groups := rfl
@[simp] theorem manifest_startSettle (s : State) (i : SpotId) : (s.startSettle i).manifest = s.manifest := rfl
@[simp] theorem comps_startSettle (s : State) (i : SpotId) : (s.startSettle i).comps = s.comps := rfl
@[simp] theorem waitList_startSettle (s : State) (i : SpotId) : (s.startSettle i).waitList = s.waitList := rfl
@[simp] theorem sdu_startSettle (s : State) (i : SpotId) : (s.startSettle i).sdu = s.sdu := rfl
@[simp] theorem mgu_startSettle (s : State) (i : SpotId) : (s.startSettle i).mgu = s.mgu := rfl
@[simp] theorem pending_startSettle (s : State) (i : SpotId) : (s.startSettle i).pending = s.pending := rfl

/-! ## setNoCompressor -/

@[simp] theorem pins_setNoCompressor (s : State) (i : SpotId) (b : Bool) : (s.setNoCompressor i b).pins = s.pins := rfl
@[simp] theorem powered_setNoCompressor (s : State) (i : SpotId) (b : Bool) : (s.setNoCompressor i b).powered = s.powered := rfl
@[simp] theorem uptime_setNoCompressor (s : State) (i : SpotId) (b : Bool) : (s.setNoCompressor i b).uptime = s.uptime := rfl
@[simp] theorem freeDraws_setNoCompressor (s : State) (i : SpotId) (b : Bool) : (s.setNoCompressor i b).freeDraws = s.freeDraws := rfl
@[simp] theorem rpu_setNoCompressor (s : State) (i : SpotId) (b : Bool) : (s.setNoCompressor i b).rpu = s.rpu := rfl
@[simp] theorem imap_setNoCompressor (s : State) (i : SpotId) (b : Bool) : (s.setNoCompressor i b).imap = s.imap := rfl
@[simp] theorem conditions_setNoCompressor (s : State) (i : SpotId) (b : Bool) : (s.setNoCompressor i b).conditions = s.conditions := rfl
@[simp] theorem table_setNoCompressor (s : State) (i : SpotId) (b : Bool) : (s.setNoCompressor i b).table = s.table := rfl
@[simp] theorem groups_setNoCompressor (s : State) (i : SpotId) (b : Bool) : (s.setNoCompressor i b).groups = s.groups := rfl
@[simp] theorem manifest_setNoCompressor (s : State) (i : SpotId) (b : Bool) : (s.setNoCompressor i b).manifest = s.manifest := rfl
@[simp] theorem comps_setNoCompressor (s : State) (i : SpotId) (b : Bool) : (s.setNoCompressor i b).comps = s.comps := rfl
@[simp] theorem waitList_setNoCompressor (s : State) (i : SpotId) (b : Bool) : (s.setNoCompressor i b).waitList = s.waitList := rfl
@[simp] theorem sdu_setNoCompressor (s : State) (i : SpotId) (b : Bool) : (s.setNoCompressor i b).sdu = s.sdu := rfl
@[simp] theorem mgu_setNoCompressor (s : State) (i : SpotId) (b : Bool) : (s.setNoCompressor i b).mgu = s.mgu := rfl
@[simp] theorem pending_setNoCompressor (s : State) (i : SpotId) (b : Bool) : (s.setNoCompressor i b).pending = s.pending := rfl

/-! ## startConfirmation -/

@[simp] theorem pins_startConfirmation (s : State) (c : CompId) (a : CompReading) : (s.startConfirmation c a).pins = s.pins := rfl
@[simp] theorem powered_startConfirmation (s : State) (c : CompId) (a : CompReading) : (s.startConfirmation c a).powered = s.powered := rfl
@[simp] theorem uptime_startConfirmation (s : State) (c : CompId) (a : CompReading) : (s.startConfirmation c a).uptime = s.uptime := rfl
@[simp] theorem freeDraws_startConfirmation (s : State) (c : CompId) (a : CompReading) : (s.startConfirmation c a).freeDraws = s.freeDraws := rfl
@[simp] theorem rpu_startConfirmation (s : State) (c : CompId) (a : CompReading) : (s.startConfirmation c a).rpu = s.rpu := rfl
@[simp] theorem imap_startConfirmation (s : State) (c : CompId) (a : CompReading) : (s.startConfirmation c a).imap = s.imap := rfl
@[simp] theorem conditions_startConfirmation (s : State) (c : CompId) (a : CompReading) : (s.startConfirmation c a).conditions = s.conditions := rfl
@[simp] theorem table_startConfirmation (s : State) (c : CompId) (a : CompReading) : (s.startConfirmation c a).table = s.table := rfl
@[simp] theorem groups_startConfirmation (s : State) (c : CompId) (a : CompReading) : (s.startConfirmation c a).groups = s.groups := rfl
@[simp] theorem manifest_startConfirmation (s : State) (c : CompId) (a : CompReading) : (s.startConfirmation c a).manifest = s.manifest := rfl
@[simp] theorem spots_startConfirmation (s : State) (c : CompId) (a : CompReading) : (s.startConfirmation c a).spots = s.spots := rfl
@[simp] theorem waitList_startConfirmation (s : State) (c : CompId) (a : CompReading) : (s.startConfirmation c a).waitList = s.waitList := rfl
@[simp] theorem sdu_startConfirmation (s : State) (c : CompId) (a : CompReading) : (s.startConfirmation c a).sdu = s.sdu := rfl
@[simp] theorem mgu_startConfirmation (s : State) (c : CompId) (a : CompReading) : (s.startConfirmation c a).mgu = s.mgu := rfl
@[simp] theorem pending_startConfirmation (s : State) (c : CompId) (a : CompReading) : (s.startConfirmation c a).pending = s.pending := rfl

/-! ## startPopdown -/

@[simp] theorem pins_startPopdown (s : State) (c : CompId) : (s.startPopdown c).pins = s.pins := rfl
@[simp] theorem powered_startPopdown (s : State) (c : CompId) : (s.startPopdown c).powered = s.powered := rfl
@[simp] theorem uptime_startPopdown (s : State) (c : CompId) : (s.startPopdown c).uptime = s.uptime := rfl
@[simp] theorem freeDraws_startPopdown (s : State) (c : CompId) : (s.startPopdown c).freeDraws = s.freeDraws := rfl
@[simp] theorem rpu_startPopdown (s : State) (c : CompId) : (s.startPopdown c).rpu = s.rpu := rfl
@[simp] theorem imap_startPopdown (s : State) (c : CompId) : (s.startPopdown c).imap = s.imap := rfl
@[simp] theorem conditions_startPopdown (s : State) (c : CompId) : (s.startPopdown c).conditions = s.conditions := rfl
@[simp] theorem table_startPopdown (s : State) (c : CompId) : (s.startPopdown c).table = s.table := rfl
@[simp] theorem groups_startPopdown (s : State) (c : CompId) : (s.startPopdown c).groups = s.groups := rfl
@[simp] theorem manifest_startPopdown (s : State) (c : CompId) : (s.startPopdown c).manifest = s.manifest := rfl
@[simp] theorem spots_startPopdown (s : State) (c : CompId) : (s.startPopdown c).spots = s.spots := rfl
@[simp] theorem waitList_startPopdown (s : State) (c : CompId) : (s.startPopdown c).waitList = s.waitList := rfl
@[simp] theorem sdu_startPopdown (s : State) (c : CompId) : (s.startPopdown c).sdu = s.sdu := rfl
@[simp] theorem mgu_startPopdown (s : State) (c : CompId) : (s.startPopdown c).mgu = s.mgu := rfl
@[simp] theorem pending_startPopdown (s : State) (c : CompId) : (s.startPopdown c).pending = s.pending := rfl

/-! ## clearIdle -/

@[simp] theorem pins_clearIdle (s : State) (c : CompId) : (s.clearIdle c).pins = s.pins := rfl
@[simp] theorem powered_clearIdle (s : State) (c : CompId) : (s.clearIdle c).powered = s.powered := rfl
@[simp] theorem uptime_clearIdle (s : State) (c : CompId) : (s.clearIdle c).uptime = s.uptime := rfl
@[simp] theorem freeDraws_clearIdle (s : State) (c : CompId) : (s.clearIdle c).freeDraws = s.freeDraws := rfl
@[simp] theorem rpu_clearIdle (s : State) (c : CompId) : (s.clearIdle c).rpu = s.rpu := rfl
@[simp] theorem imap_clearIdle (s : State) (c : CompId) : (s.clearIdle c).imap = s.imap := rfl
@[simp] theorem conditions_clearIdle (s : State) (c : CompId) : (s.clearIdle c).conditions = s.conditions := rfl
@[simp] theorem table_clearIdle (s : State) (c : CompId) : (s.clearIdle c).table = s.table := rfl
@[simp] theorem groups_clearIdle (s : State) (c : CompId) : (s.clearIdle c).groups = s.groups := rfl
@[simp] theorem manifest_clearIdle (s : State) (c : CompId) : (s.clearIdle c).manifest = s.manifest := rfl
@[simp] theorem spots_clearIdle (s : State) (c : CompId) : (s.clearIdle c).spots = s.spots := rfl
@[simp] theorem waitList_clearIdle (s : State) (c : CompId) : (s.clearIdle c).waitList = s.waitList := rfl
@[simp] theorem sdu_clearIdle (s : State) (c : CompId) : (s.clearIdle c).sdu = s.sdu := rfl
@[simp] theorem mgu_clearIdle (s : State) (c : CompId) : (s.clearIdle c).mgu = s.mgu := rfl
@[simp] theorem pending_clearIdle (s : State) (c : CompId) : (s.clearIdle c).pending = s.pending := rfl

/-! ## What they write -/

/-- A vector read where it was written. -/
theorem vectorGet_set_same {α : Type} {n : Nat} (v : Vector α n) (i : Fin n) (x : α) :
    (v.set i.val x i.isLt).get i = x := by
  simp [Vector.get_eq_getElem]

/-- A vector read elsewhere than where it was written. -/
theorem vectorGet_set_other {α : Type} {n : Nat} (v : Vector α n) {i j : Fin n} (x : α) (h : j ≠ i) :
    (v.set i.val x i.isLt).get j = v.get j := by
  have h' : i.val ≠ j.val := fun e => h (Fin.ext e.symm)
  simp [Vector.get_eq_getElem, Vector.getElem_set_ne, h']

/-- The context just changed. -/
@[simp] theorem spot_modSpot_same (s : State) (i : SpotId) (f : SpotContext → SpotContext) :
    (s.modSpot i f).spot i = f (s.spot i) := by
  exact vectorGet_set_same _ _ _

/-- Every other context is as it was. -/
theorem spot_modSpot_other (s : State) {i j : SpotId} (f : SpotContext → SpotContext) (h : j ≠ i) :
    (s.modSpot i f).spot j = s.spot j := by
  exact vectorGet_set_other _ _ h

/-- A context after a change, whichever it is. -/
theorem spot_modSpot (s : State) (i j : SpotId) (f : SpotContext → SpotContext) :
    (s.modSpot i f).spot j = if j = i then f (s.spot i) else s.spot j := by
  by_cases h : j = i
  · subst h; simp
  · simp [h, spot_modSpot_other]

/-- The compressor just changed. -/
@[simp] theorem comp_modComp_same (s : State) (c : CompId) (f : Compressor → Compressor) :
    (s.modComp c f).comp c = f (s.comp c) := by
  exact vectorGet_set_same _ _ _

/-- Every other compressor is as it was. -/
theorem comp_modComp_other (s : State) {c d : CompId} (f : Compressor → Compressor) (h : d ≠ c) :
    (s.modComp c f).comp d = s.comp d := by
  exact vectorGet_set_other _ _ h

/-- A compressor after a change, whichever it is. -/
theorem comp_modComp (s : State) (c d : CompId) (f : Compressor → Compressor) :
    (s.modComp c f).comp d = if d = c then f (s.comp c) else s.comp d := by
  by_cases h : d = c
  · subst h; simp
  · simp [h, comp_modComp_other]

/-- A ring port update writes the ring port. -/
@[simp] theorem rpu_modRpu (s : State) (f : Rpu → Rpu) : (s.modRpu f).rpu = f s.rpu := rfl

/-- A notice is offered to the ring port. -/
@[simp] theorem rpu_notice (s : State) (b : List Byte) : (s.notice b).rpu = offerNotice b s.rpu := rfl

/-- A context changes only with the spots. -/
theorem spot_of_spots {s t : State} (h : t.spots = s.spots) (i : SpotId) : t.spot i = s.spot i := by
  simp [State.spot, h]

/-- A compressor changes only with the compressors. -/
theorem comp_of_comps {s t : State} (h : t.comps = s.comps) (c : CompId) : t.comp c = s.comp c := by
  simp [State.comp, h]

end Sys2Proof.Machine
end

