-- ==== Sys2Proof/Laws/Port.lean ====
section
/-! SUPPORT. What the ring port's operations can do: one relation, kept by each of them. -/

namespace Sys2Proof.Machine

/-- What an offer, a removal or a choice of the arbiter can do to the ring port: the address, the request queue and the
silence state stay; the forward buffer does not grow; the message queue stays inside its 24 places and keeps its
reservations; a frame being sent goes on being sent; the notice sequence only advances. -/
structure PortStep (r r' : Rpu) : Prop where
  address  : r'.address = r.address
  requests : r'.requests = r.requests
  silence  : r'.silence = r.silence
  valid    : r'.lastValid = r.lastValid
  forward  : r'.forward.length ≤ r.forward.length
  messages : r.messages.length ≤ Config.messageCapacity → r'.messages.length ≤ Config.messageCapacity
  reserved : reservations r'.messages = reservations r.messages
  sending  : ∀ f, r.sending = some f → r'.sending = some f

theorem PortStep.refl (r : Rpu) : PortStep r r :=
  ⟨rfl, rfl, rfl, rfl, le_rfl, id, rfl, fun _ h => h⟩

theorem PortStep.trans {a b c : Rpu} (h : PortStep a b) (k : PortStep b c) : PortStep a c :=
  ⟨k.address.trans h.address, k.requests.trans h.requests, k.silence.trans h.silence, k.valid.trans h.valid,
   k.forward.trans h.forward, fun x => k.messages (h.messages x), k.reserved.trans h.reserved,
   fun f x => k.sending f (h.sending f x)⟩

@[simp] theorem reservations_nil : reservations [] = 0 := rfl
@[simp] theorem reservations_reply (d t : Byte) (b : List Byte) (q : List Message) :
    reservations (.reply d t b :: q) = reservations q := by simp [reservations]
@[simp] theorem reservations_notice (t : Byte) (b : List Byte) (q : List Message) :
    reservations (.notice t b :: q) = reservations q := by simp [reservations]
@[simp] theorem reservations_cons (q : List Message) :
    reservations (.reservation :: q) = reservations q + 1 := by simp [reservations]
@[simp] theorem reservations_append (p q : List Message) :
    reservations (p ++ q) = reservations p + reservations q := by simp [reservations]

/-- Setting an actuate sequence writes nothing else. -/
theorem setSequence_eq (r : Rpu) (i : Nat) (b : Byte) :
    ∃ v, r.setSequence i b = { r with actSeq := v } := by
  unfold Rpu.setSequence
  split
  · exact ⟨_, rfl⟩
  · exact ⟨r.actSeq, rfl⟩

/-- The arbiter's choice of an own frame at an idle port. -/
theorem sendOwn_step (r : Rpu) (h : r.sending = none) : PortStep r (sendOwn r) := by
  unfold sendOwn
  split
  · exact ⟨rfl, rfl, rfl, rfl, le_rfl, id, rfl, fun f x => by simp [h] at x⟩
  · split
    · next e rest _ =>
      obtain ⟨v, hv⟩ := setSequence_eq r e.index (r.sequenceOf e.index + 1)
      rw [hv]
      exact ⟨rfl, rfl, rfl, rfl, le_rfl, id, rfl, fun f x => by simp [h] at x⟩
    · split
      · next hm =>
        refine ⟨rfl, rfl, rfl, rfl, le_rfl, fun x => ?_, by simp [hm], fun f x => by simp [h] at x⟩
        simp [hm] at x ⊢; omega
      · next hm =>
        refine ⟨rfl, rfl, rfl, rfl, le_rfl, fun x => ?_, by simp [hm], fun f x => by simp [h] at x⟩
        simp [hm] at x ⊢; omega
      · exact ⟨rfl, rfl, rfl, rfl, le_rfl, id, rfl, fun f x => by simp [h] at x⟩
      · exact ⟨rfl, rfl, rfl, rfl, le_rfl, id, rfl, fun f x => by simp [h] at x⟩

/-- The arbiter's choice at an idle port. -/
theorem boundary_step (r : Rpu) (h : r.sending = none) : PortStep r (boundary r) := by
  unfold boundary
  split
  · next f rest hf =>
    split
    · split
      · exact ⟨rfl, rfl, rfl, rfl, by simp [hf], id, rfl, fun f x => by simp [h] at x⟩
      · exact sendOwn_step r h
    · exact ⟨rfl, rfl, rfl, rfl, by simp [hf], id, rfl, fun f x => by simp [h] at x⟩
  · exact sendOwn_step r h

/-- A requester became ready. -/
theorem kick_step (r : Rpu) : PortStep r (kick r) := by
  unfold kick
  split
  · exact .refl r
  · next h => exact boundary_step r h

/-- An actuate is offered. -/
theorem offerActuate_step (a : Actuate) (r : Rpu) : PortStep r (offerActuate a r) := by
  unfold offerActuate
  split
  · exact .refl r
  · refine PortStep.trans ?_ (kick_step _)
    exact ⟨rfl, rfl, rfl, rfl, le_rfl, id, rfl, fun _ h => h⟩

/-- A queued actuate is removed. -/
theorem dropActuate_step (i : Nat) (r : Rpu) : PortStep r (dropActuate i r) :=
  ⟨rfl, rfl, rfl, rfl, le_rfl, id, rfl, fun _ h => h⟩

/-- An actuate sequence is set. -/
theorem setSequence_step (r : Rpu) (i : Nat) (b : Byte) : PortStep r (r.setSequence i b) := by
  obtain ⟨v, hv⟩ := setSequence_eq r i b
  rw [hv]
  exact ⟨rfl, rfl, rfl, rfl, le_rfl, id, rfl, fun _ h => h⟩

/-- A notice is offered. -/
theorem offerNotice_step (b : List Byte) (r : Rpu) : PortStep r (offerNotice b r) := by
  unfold offerNotice
  simp only
  split
  · exact ⟨rfl, rfl, rfl, rfl, le_rfl, id, rfl, fun _ h => h⟩
  · split
    · next h =>
      refine PortStep.trans ?_ (kick_step _)
      exact ⟨rfl, rfl, rfl, rfl, le_rfl, fun _ => by simpa using h, by simp, fun _ h => h⟩
    · exact ⟨rfl, rfl, rfl, rfl, le_rfl, id, rfl, fun _ h => h⟩

end Sys2Proof.Machine
end

