-- ==== Sys2Proof/Laws/Inner.lean ====
section
/-! SUPPORT. What the operations inside a command can do: one relation between the state before and after, kept by each of them, and
composed from them. -/

namespace Sys2Proof.Machine

/-- What no operation inside a command writes: pins, supply, clock, spot table, product groups, the Shutdown Unit, the
Management Unit, the queue of waiting commands. -/
structure Shell where
  pins      : Pins
  powered   : Bool
  uptime    : Nat
  freeDraws : Nat
  table     : Vector (Option SpotRecord) 16
  groups    : Vector Group 4
  sdu       : Sdu
  mgu       : Mgu
  pending   : List Instr

/-- The shell of a state. -/
def State.shell (s : State) : Shell :=
  ⟨s.pins, s.powered, s.uptime, s.freeDraws, s.table, s.groups, s.sdu, s.mgu, s.pending⟩

theorem rising_of_shapes {m n : List (Nat × MapEntry)} (h : shapes n = shapes m) (r : Rising m) : Rising n := by
  have e : ∀ l : List (Nat × MapEntry), l.map (·.1) = (shapes l).map (·.1) := fun l => by
    simp [shapes, entryShape, Function.comp_def]
  simpa [Rising, e, h] using (by simpa [Rising, e] using r : ((shapes m).map (·.1)).Pairwise (· < ·))

/-- What an operation inside a command can do. -/
structure Inside (s t : State) : Prop where
  shell    : t.shell = s.shell
  port     : PortStep s.rpu t.rpu
  shapes   : Rising s.imap → shapes t.imap = shapes s.imap
  active   : ∀ i, t.isActive i = true → s.isActive i = true
  conserve : ∀ i, Conserved s i → Conserved t i
  bind     : (∀ i, BindOk s i) → ∀ i, BindOk t i
  cars     : t.manifest.map CarRecord.fixed = s.manifest.map CarRecord.fixed
  done     : ∀ (k : Nat) (c : CarRecord), s.manifest[k]? = some c → c.status = .done → t.manifest[k]? = some c

theorem Inside.refl (s : State) : Inside s s :=
  ⟨rfl, .refl _, fun _ => rfl, fun _ h => h, fun _ h => h, fun h => h, rfl, fun _ _ h _ => h⟩

theorem Inside.trans {a b c : State} (h : Inside a b) (k : Inside b c) : Inside a c :=
  ⟨k.shell.trans h.shell, h.port.trans k.port, fun r => (k.shapes (rising_of_shapes (h.shapes r) r)).trans (h.shapes r), fun i x => h.active i (k.active i x),
   fun i x => k.conserve i (h.conserve i x), fun x => k.bind (h.bind x), k.cars.trans h.cars,
   fun n r x y => k.done n r (h.done n r x y) y⟩

/-- A fold of operations. -/
theorem Inside.foldl {α : Type} (f : State → α → State) (h : ∀ s a, Inside s (f s a)) (l : List α) (s : State) :
    Inside s (l.foldl f s) := by
  induction l generalizing s with
  | nil => exact .refl s
  | cons a l ih => exact (h s a).trans (ih _)

theorem Inside.uptime {s t : State} (h : Inside s t) : t.uptime = s.uptime := congrArg Shell.uptime h.shell
theorem Inside.pins {s t : State} (h : Inside s t) : t.pins = s.pins := congrArg Shell.pins h.shell
theorem Inside.powered {s t : State} (h : Inside s t) : t.powered = s.powered := congrArg Shell.powered h.shell
theorem Inside.freeDraws {s t : State} (h : Inside s t) : t.freeDraws = s.freeDraws := congrArg Shell.freeDraws h.shell
theorem Inside.table {s t : State} (h : Inside s t) : t.table = s.table := congrArg Shell.table h.shell
theorem Inside.groups {s t : State} (h : Inside s t) : t.groups = s.groups := congrArg Shell.groups h.shell
theorem Inside.sdu {s t : State} (h : Inside s t) : t.sdu = s.sdu := congrArg Shell.sdu h.shell
theorem Inside.mgu {s t : State} (h : Inside s t) : t.mgu = s.mgu := congrArg Shell.mgu h.shell
theorem Inside.pending {s t : State} (h : Inside s t) : t.pending = s.pending := congrArg Shell.pending h.shell

/-- A spot record changes only with the table. -/
theorem record_of_table {s t : State} (h : t.table = s.table) (i : SpotId) : t.record i = s.record i := by
  simp [State.record, h]

theorem recordField_of_table {s t : State} (h : t.table = s.table) (i : SpotId) (f : SpotRecord → Nat) :
    t.recordField i f = s.recordField i f := by
  simp [State.recordField, record_of_table h]

/-! ## Building blocks -/

/-- An operation that writes only the ring port, the compressors, the conditions and the wait list. -/
theorem inner_of_parts {s t : State} (hs : t.shell = s.shell) (hp : PortStep s.rpu t.rpu) (hi : t.imap = s.imap)
    (hx : t.spots = s.spots) (hm : t.manifest = s.manifest) : Inside s t := by
  have hsp : ∀ i, t.spot i = s.spot i := spot_of_spots hx
  have ht : t.table = s.table := congrArg Shell.table hs
  refine ⟨hs, hp, fun _ => by rw [hi], fun i h => by simpa [State.isActive, hsp] using h, fun i h => ?_, fun h i => ?_, by rw [hm],
    fun k c h _ => by rw [hm]; exact h⟩
  · simpa [Conserved, hsp, recordField_of_table ht] using h
  · simpa [BindOk, hsp, hm] using h i

theorem inner_modRpu (s : State) (f : Rpu → Rpu) (h : PortStep s.rpu (f s.rpu)) : Inside s (s.modRpu f) :=
  inner_of_parts rfl h rfl rfl rfl

theorem inner_notice (s : State) (b : List Byte) : Inside s (s.notice b) :=
  inner_modRpu s _ (offerNotice_step b s.rpu)

theorem inner_modComp (s : State) (c : CompId) (f : Compressor → Compressor) : Inside s (s.modComp c f) :=
  inner_of_parts rfl (.refl _) rfl rfl rfl

@[simp] theorem recordField_modSpot (s : State) (i j : SpotId) (f : SpotContext → SpotContext) (g : SpotRecord → Nat) :
    (s.modSpot i f).recordField j g = s.recordField j g := rfl

/-- A change of a spot context that keeps the raw figures and whether the spot holds a car, and starts no transfer. -/
theorem inner_context (s : State) (i : SpotId) (f : SpotContext → SpotContext)
    (hc : (f (s.spot i)).state.holdsCar = (s.spot i).state.holdsCar)
    (ha : (f (s.spot i)).state.active = true → (s.spot i).state.active = true)
    (hk : Conserved s i → (f (s.spot i)).acc.raw * s.recordField i (·.kc) + (f (s.spot i)).acc.rawRes =
      (f (s.spot i)).acc.credited * 100000) : Inside s (s.modSpot i f) := by
  refine ⟨rfl, .refl _, fun _ => rfl, fun j h => ?_, fun j h => ?_, fun h j => ?_, rfl, fun _ _ h _ => h⟩
  · simp only [State.isActive, spot_modSpot] at h ⊢
    by_cases e : j = i
    · subst e; exact ha (by simpa using h)
    · simpa [e] using h
  · by_cases e : j = i
    · subst e; simpa [Conserved] using hk h
    · simpa [Conserved, spot_modSpot, e] using h
  · have := h j
    simp only [BindOk, spot_modSpot] at this ⊢
    by_cases e : j = i
    · subst e
      simp only [if_true, hc]; exact this
    · simpa [e] using this

/-- A change of a spot context that keeps the state and the accumulators. -/
theorem inner_modSpot (s : State) (i : SpotId) (f : SpotContext → SpotContext)
    (hst : (f (s.spot i)).state = (s.spot i).state) (hacc : (f (s.spot i)).acc = (s.spot i).acc) :
    Inside s (s.modSpot i f) :=
  inner_context s i f (by rw [hst]) (by rw [hst]; exact id) (by rw [hacc]; exact id)

/-- A change of a spot's state that keeps whether it holds a car and starts no transfer. -/
theorem inner_setState (s : State) (i : SpotId) (st : SpotState) (hc : st.holdsCar = (s.spot i).state.holdsCar)
    (ha : st.active = true → (s.spot i).state.active = true) : Inside s (s.setState i st) :=
  inner_context s i _ hc ha id

/-! ## The map -/

theorem shapes_putEntry (m : List (Nat × MapEntry)) (i : Nat) (e d : MapEntry) (h : entryAt m i = some e)
    (hr : Rising m) (hd : entryShape (i, d) = entryShape (i, e)) :
    shapes (putEntry m i d) = shapes m := by
  induction m with
  | nil => simp [entryAt] at h
  | cons p m ih =>
    obtain ⟨k, x⟩ := p
    simp only [Rising, List.map_cons, List.pairwise_cons] at hr
    by_cases hk : k = i
    · subst hk
      simp only [entryAt, if_true, Option.some.injEq] at h
      subst h
      simp [putEntry, shapes, hd]
    · simp only [entryAt, hk, if_false] at h
      have hlt : k < i := by
        have : ∃ q ∈ m, q.1 = i := by
          clear ih hr hd
          induction m with
          | nil => simp [entryAt] at h
          | cons q m ih2 =>
            by_cases hq : q.1 = i
            · exact ⟨q, List.mem_cons_self, hq⟩
            · obtain ⟨q1, q2⟩ := q
              simp only [entryAt, show q1 ≠ i from hq, if_false] at h
              obtain ⟨r, hr, hr2⟩ := ih2 h
              exact ⟨r, List.mem_cons_of_mem _ hr, hr2⟩
        obtain ⟨q, hq, hq2⟩ := this
        have := hr.1 q.1 (List.mem_map_of_mem hq)
        omega
      have h1 : ¬ i < k := by omega
      have h2 : ¬ i = k := by omega
      have := ih h hr.2
      simp only [shapes] at this ⊢
      simp [putEntry, h1, h2, this]

/-- Replacing an image by one with the same safe value. -/
theorem inner_setBody (s : State) (i : Nat) (b : EntryBody)
    (h : ∀ e, entryAt s.imap i = some e → entryShape (i, { e with body := b }) = entryShape (i, e)) :
    Inside s (s.setBody i b) := by
  unfold State.setBody
  split
  · next e he =>
    refine ⟨rfl, .refl _, fun r => ?_, fun _ h => h, fun _ h => h, fun h => h, rfl, fun _ _ h _ => h⟩
    exact shapes_putEntry s.imap i e _ he r (h e he)
  · exact .refl s

theorem inner_setRefresh (s : State) (i : Nat) (t : Option Nat) : Inside s (s.setRefresh i t) := by
  unfold State.setRefresh
  split
  · next e he =>
    split
    · next o ho =>
      refine inner_setBody s i _ fun d hd => ?_
      rw [he] at hd; cases hd
      simp [entryShape, MapEntry.image, ho]
    · exact .refl s
  · exact .refl s

theorem inner_offerCommand (s : State) (i : Nat) (cmd : Command) : Inside s (s.offerCommand i cmd) := by
  unfold State.offerCommand
  split
  · exact (inner_modRpu s _ (offerActuate_step _ _)).trans (inner_setRefresh _ _ _)
  · exact .refl s

theorem inner_settleOutput (s : State) (i : Nat) (b : Option Command) : Inside s (s.settleOutput i b) := by
  unfold State.settleOutput
  split
  · split
    · simp only
      split
      · exact .refl s
      · split
        · exact inner_offerCommand _ _ _
        · exact (inner_modRpu s _ (dropActuate_step _ _)).trans (inner_setRefresh _ _ _)
    · exact .refl s
  · exact .refl s

theorem inner_changeOutput (s : State) (i : Nat) (f : Output → Output) (h : ∀ o, (f o).safe = o.safe) :
    Inside s (s.changeOutput i f) := by
  unfold State.changeOutput
  split
  · next e he =>
    split
    · next o ho =>
      refine (inner_setBody s i _ fun d hd => ?_).trans (inner_settleOutput _ _ _)
      rw [he] at hd; cases hd
      simp [entryShape, MapEntry.image, ho, h]
    · exact .refl s
  · exact .refl s

theorem inner_writeLatch (s : State) (r : Role) (owner : Nat) (cmd : Command) :
    Inside s (s.writeLatch r owner cmd) := by
  unfold State.writeLatch
  split
  · split
    · split
      · exact .refl s
      · exact inner_changeOutput _ _ _ fun _ => rfl
    · exact .refl s
  · exact .refl s

theorem inner_forceSafe (s : State) (i : Nat) : Inside s (s.forceSafe i) := by
  unfold State.forceSafe
  split
  · split
    · exact inner_offerCommand _ _ _
    · exact .refl s
  · exact .refl s

theorem inner_forceAllSafe (s : State) : Inside s s.forceAllSafe :=
  Inside.foldl _ inner_forceSafe _ _

theorem inner_returnOutput (s : State) (i : Nat) : Inside s (s.returnOutput i) := by
  unfold State.returnOutput
  split
  · split
    · exact inner_settleOutput _ _ _
    · exact .refl s
  · exact .refl s

theorem inner_returnAllOutputs (s : State) : Inside s s.returnAllOutputs :=
  Inside.foldl _ inner_returnOutput _ _

/-! ## Conditions and notices -/

theorem inner_storeConditions (s : State) (i : SpotId) (now : Conditions) : Inside s (s.storeConditions i now) := by
  unfold State.storeConditions
  simp only
  split
  · exact inner_of_parts rfl (offerNotice_step _ _) rfl rfl rfl
  · exact inner_of_parts rfl (.refl _) rfl rfl rfl

theorem inner_reevaluate (s : State) (i : SpotId) : Inside s (s.reevaluate i) := inner_storeConditions _ _ _

theorem inner_reevaluateAll (s : State) (l : List SpotId) : Inside s (s.reevaluateAll l) :=
  Inside.foldl _ inner_reevaluate _ _

theorem inner_reportUnknownTag (s : State) (i : SpotId) (b : Bool) : Inside s (s.reportUnknownTag i b) := by
  unfold State.reportUnknownTag
  split
  · exact .refl s
  · exact inner_storeConditions _ _ _

theorem inner_standingReport (s : State) (i : SpotId) : Inside s (s.standingReport i) := by
  unfold State.standingReport
  split
  · exact inner_notice _ _
  · exact .refl s

theorem inner_announce (s : State) (i : SpotId) : Inside s (s.announce i) :=
  (inner_notice _ _).trans (inner_standingReport _ _)

theorem inner_changeState (s : State) (i : SpotId) (st : SpotState) (hc : st.holdsCar = (s.spot i).state.holdsCar)
    (ha : st.active = true → (s.spot i).state.active = true) : Inside s (s.changeState i st) :=
  (inner_setState s i st hc ha).trans (inner_announce _ _)

theorem inner_compressorNotice (s : State) (c : CompId) : Inside s (s.compressorNotice c) := inner_notice _ _
theorem inner_tripNotice (s : State) (c : TripCauses) : Inside s (s.tripNotice c) := inner_notice _ _
theorem inner_transferEndNotice (s : State) (i : SpotId) (p : Nat) (o : Ending) :
    Inside s (s.transferEndNotice i p o) := inner_notice _ _

/-! ## The compressors -/

theorem inner_syncPass (s : State) (i : SpotId) : Inside s (s.syncPass i) := by
  unfold State.syncPass
  simp only
  split
  · split
    · split
      · exact .refl s
      · exact inner_modSpot _ _ _ rfl rfl
    · exact inner_modSpot _ _ _ rfl rfl
  · exact .refl s

theorem inner_setLevel (s : State) (c : CompId) (l : Level) : Inside s (s.setLevel c l) := by
  unfold State.setLevel
  simp only
  split
  · exact (inner_modComp _ _ _).trans (Inside.foldl _ inner_syncPass _ _)
  · exact inner_modComp _ _ _

theorem inner_writeComp (s : State) (r : Role) (c : CompId) (cmd : Command) : Inside s (s.writeComp r c cmd) :=
  inner_writeLatch _ _ _ _
theorem inner_writeValve (s : State) (r : Role) (i : SpotId) (cmd : Command) : Inside s (s.writeValve r i cmd) :=
  inner_writeLatch _ _ _ _
theorem inner_startConfirmation (s : State) (c : CompId) (a : CompReading) : Inside s (s.startConfirmation c a) :=
  inner_modComp _ _ _
theorem inner_startPopdown (s : State) (c : CompId) : Inside s (s.startPopdown c) := inner_modComp _ _ _
theorem inner_clearIdle (s : State) (c : CompId) : Inside s (s.clearIdle c) := inner_modComp _ _ _

theorem inner_stopCompressor (s : State) (c : CompId) : Inside s (s.stopCompressor c) :=
  ((inner_writeComp _ _ _ _).trans (inner_setLevel _ _ _)).trans (inner_startConfirmation _ _ _)

theorem inner_reverseTo (s : State) (c : CompId) (cmd : Command) (a : CompReading) : Inside s (s.reverseTo c cmd a) :=
  ((inner_writeComp _ _ _ _).trans (inner_setLevel _ _ _)).trans (inner_startConfirmation _ _ _)

theorem inner_followDemand (s : State) (c : CompId) : Inside s (s.followDemand c) := by
  unfold State.followDemand
  split
  · split
    · exact (inner_clearIdle _ _).trans (inner_setLevel _ _ _)
    · exact (inner_clearIdle _ _).trans (inner_reverseTo _ _ _ _)
  · split
    · exact (inner_clearIdle _ _).trans (inner_setLevel _ _ _)
    · exact (inner_clearIdle _ _).trans (inner_reverseTo _ _ _ _)
  · exact (inner_clearIdle _ _).trans (inner_setLevel _ _ _)
  · exact (inner_setLevel _ _ _).trans (inner_startPopdown _ _)

theorem inner_startDecision (s : State) (c : CompId) : Inside s (s.startDecision c) := by
  unfold State.startDecision
  split
  · simp only
    refine Inside.trans ?_ (inner_startConfirmation _ _ _)
    refine Inside.trans ?_ (inner_setLevel _ _ _)
    refine Inside.trans ?_ (inner_modComp _ _ _)
    refine Inside.trans ?_ (inner_writeComp _ _ _ _)
    split
    · exact inner_writeComp _ _ _ _
    · exact .refl s
  · exact inner_modComp _ _ _

theorem inner_actOn (s : State) (c : CompId) (old : Demand) : Inside s (s.actOn c old) := by
  unfold State.actOn
  simp only
  split
  · exact .refl s
  · split
    · split
      · exact inner_modComp _ _ _
      · split
        · exact inner_startDecision _ _
        · exact .refl s
    · exact inner_followDemand _ _
    · exact inner_followDemand _ _
    · exact inner_followDemand _ _
    all_goals exact .refl s

theorem inner_actAll (s before : State) : Inside s (s.actAll before) :=
  Inside.foldl _ (fun _ _ => inner_actOn _ _ _) _ _

theorem inner_leaveList (s : State) (i : SpotId) : Inside s (s.leaveList i) :=
  inner_of_parts rfl (.refl _) rfl rfl rfl

theorem inner_joinList (s : State) (i : SpotId) : Inside s (s.joinList i) := by
  unfold State.joinList
  split
  · exact .refl s
  · exact inner_of_parts rfl (.refl _) rfl rfl rfl

theorem inner_attach (s : State) (c : CompId) (i : SpotId) : Inside s (s.attach c i) := inner_modComp _ _ _
theorem inner_detach (s : State) (c : CompId) (i : SpotId) : Inside s (s.detach c i) := inner_modComp _ _ _

theorem inner_applySpot (s : State) (i : SpotId) : Inside s (s.applySpot i) := by
  unfold State.applySpot
  split
  · exact inner_attach _ _ _
  · exact inner_joinList _ _

theorem inner_place (s : State) (i : SpotId) : Inside s (s.place i) := by
  unfold State.place
  simp only
  split
  · split
    · exact inner_detach _ _ _
    · exact .refl s
    · split
      · exact (inner_detach _ _ _).trans (inner_applySpot _ _)
      · exact .refl s
    · split
      · exact (inner_detach _ _ _).trans (inner_applySpot _ _)
      · exact .refl s
  · split
    · split
      · exact .refl s
      · exact inner_leaveList _ _
    · split
      · exact inner_applySpot _ _
      · exact .refl s

theorem inner_takeGrant (s : State) (i : SpotId) : Inside s (s.takeGrant i) :=
  (inner_modSpot _ _ _ rfl rfl).trans (inner_syncPass _ _)

theorem inner_handDemand (s : State) (i : SpotId) (d : Demand) : Inside s (s.handDemand i d) := by
  unfold State.handDemand
  split
  · exact .refl s
  · exact (((inner_modSpot _ _ _ rfl rfl).trans (inner_place _ _)).trans (inner_actAll _ _)).trans (inner_takeGrant _ _)

end Sys2Proof.Machine
end

