-- ==== Sys2Proof/Laws/Contexts.lean ====
section
/-! SUPPORT. What the operations of the channels and the compressors leave of the conditions, the manifest and the spot contexts, and what
a handed demand writes. -/

namespace Sys2Proof.Machine

/-- A spot is in a recovery pass: the one case in which a compressor's change touches its context, the pass timer
(R127). -/
def SpotContext.inPass (x : SpotContext) : Prop := x.state = .recovery ∧ x.sub = some .pass

/-- What an operation of the channels, the notices and the compressors can do to conditions, manifest and contexts:
nothing but the pass timer of a spot in a recovery pass. -/
structure Aside (s t : State) : Prop where
  conditions : t.conditions = s.conditions
  manifest   : t.manifest = s.manifest
  spots      : ∀ j, t.spot j = { s.spot j with pass := (t.spot j).pass }
  pass       : ∀ j, ¬ (s.spot j).inPass → (t.spot j).pass = (s.spot j).pass

theorem Aside.refl (s : State) : Aside s s := ⟨rfl, rfl, fun _ => rfl, fun _ _ => rfl⟩

theorem Aside.trans {a b c : State} (h : Aside a b) (k : Aside b c) : Aside a c := by
  refine ⟨k.conditions.trans h.conditions, k.manifest.trans h.manifest, fun j => ?_, fun j n => ?_⟩
  · rw [k.spots j, h.spots j]
  · have e := h.spots j
    have : ¬ (b.spot j).inPass := by rw [e]; exact n
    rw [k.pass j this, h.pass j n]

theorem Aside.foldl {α : Type} (f : State → α → State) (h : ∀ s a, Aside s (f s a)) (l : List α) (s : State) :
    Aside s (l.foldl f s) := by
  induction l generalizing s with
  | nil => exact .refl s
  | cons a l ih => exact (h s a).trans (ih _)

/-- A context outside a recovery pass is as it was. -/
theorem Aside.spot {s t : State} (h : Aside s t) (j : SpotId) (n : ¬ (s.spot j).inPass) : t.spot j = s.spot j := by
  rw [h.spots j, h.pass j n]

theorem Aside.state {s t : State} (h : Aside s t) (j : SpotId) : (t.spot j).state = (s.spot j).state := by
  rw [h.spots j]

theorem Aside.values {s t : State} (h : Aside s t) (j : SpotId) : t.values j = s.values j := by
  simp [State.values, h.conditions]

/-- An operation that writes no spot, no condition and no manifest record. -/
theorem aside_of_parts {s t : State} (hc : t.conditions = s.conditions) (hm : t.manifest = s.manifest)
    (hx : t.spots = s.spots) : Aside s t := by
  have h := spot_of_spots hx
  exact ⟨hc, hm, fun j => by rw [h j], fun j _ => by rw [h j]⟩

theorem aside_modRpu (s : State) (f : Rpu → Rpu) : Aside s (s.modRpu f) := aside_of_parts rfl rfl rfl
theorem aside_notice (s : State) (b : List Byte) : Aside s (s.notice b) := aside_of_parts rfl rfl rfl
theorem aside_modComp (s : State) (c : CompId) (f : Compressor → Compressor) : Aside s (s.modComp c f) :=
  aside_of_parts rfl rfl rfl

theorem aside_setBody (s : State) (i : Nat) (b : EntryBody) : Aside s (s.setBody i b) := by
  unfold State.setBody
  split
  · exact aside_of_parts rfl rfl rfl
  · exact .refl s

theorem aside_setRefresh (s : State) (i : Nat) (t : Option Nat) : Aside s (s.setRefresh i t) := by
  unfold State.setRefresh
  split
  · split
    · exact aside_setBody _ _ _
    · exact .refl s
  · exact .refl s

theorem aside_offerCommand (s : State) (i : Nat) (cmd : Command) : Aside s (s.offerCommand i cmd) := by
  unfold State.offerCommand
  split
  · exact (aside_modRpu _ _).trans (aside_setRefresh _ _ _)
  · exact .refl s

theorem aside_settleOutput (s : State) (i : Nat) (b : Option Command) : Aside s (s.settleOutput i b) := by
  unfold State.settleOutput
  split
  · split
    · simp only
      split
      · exact .refl s
      · split
        · exact aside_offerCommand _ _ _
        · exact (aside_modRpu _ _).trans (aside_setRefresh _ _ _)
    · exact .refl s
  · exact .refl s

theorem aside_changeOutput (s : State) (i : Nat) (f : Output → Output) : Aside s (s.changeOutput i f) := by
  unfold State.changeOutput
  split
  · split
    · exact (aside_setBody _ _ _).trans (aside_settleOutput _ _ _)
    · exact .refl s
  · exact .refl s

theorem aside_writeLatch (s : State) (r : Role) (owner : Nat) (cmd : Command) : Aside s (s.writeLatch r owner cmd) := by
  unfold State.writeLatch
  split
  · split
    · split
      · exact .refl s
      · exact aside_changeOutput _ _ _
    · exact .refl s
  · exact .refl s

theorem aside_writeValve (s : State) (r : Role) (i : SpotId) (cmd : Command) : Aside s (s.writeValve r i cmd) :=
  aside_writeLatch _ _ _ _
theorem aside_writeComp (s : State) (r : Role) (c : CompId) (cmd : Command) : Aside s (s.writeComp r c cmd) :=
  aside_writeLatch _ _ _ _
theorem aside_closeValves (s : State) (i : SpotId) : Aside s (s.closeValves i) :=
  (aside_writeValve _ _ _ _).trans (aside_writeValve _ _ _ _)

theorem aside_forceSafe (s : State) (i : Nat) : Aside s (s.forceSafe i) := by
  unfold State.forceSafe
  split
  · split
    · exact aside_offerCommand _ _ _
    · exact .refl s
  · exact .refl s

theorem aside_forceAllSafe (s : State) : Aside s s.forceAllSafe := Aside.foldl _ aside_forceSafe _ _

theorem aside_returnOutput (s : State) (i : Nat) : Aside s (s.returnOutput i) := by
  unfold State.returnOutput
  split
  · split
    · exact aside_settleOutput _ _ _
    · exact .refl s
  · exact .refl s

theorem aside_returnAllOutputs (s : State) : Aside s s.returnAllOutputs := Aside.foldl _ aside_returnOutput _ _

theorem aside_standingReport (s : State) (i : SpotId) : Aside s (s.standingReport i) := by
  unfold State.standingReport
  split
  · exact aside_notice _ _
  · exact .refl s

theorem aside_announce (s : State) (i : SpotId) : Aside s (s.announce i) :=
  (aside_notice _ _).trans (aside_standingReport _ _)
theorem aside_compressorNotice (s : State) (c : CompId) : Aside s (s.compressorNotice c) := aside_notice _ _
theorem aside_tripNotice (s : State) (c : TripCauses) : Aside s (s.tripNotice c) := aside_notice _ _
theorem aside_transferEndNotice (s : State) (i : SpotId) (p : Nat) (o : Ending) :
    Aside s (s.transferEndNotice i p o) := aside_notice _ _

/-- A change of the pass timer of a spot in a recovery pass. -/
theorem aside_modPass (s : State) (i : SpotId) (f : SpotContext → Option Nat) (h : (s.spot i).inPass) :
    Aside s (s.modSpot i (fun x => { x with pass := f x })) := by
  refine ⟨rfl, rfl, fun j => ?_, fun j n => ?_⟩
  · rw [spot_modSpot]
    split
    · next e => subst e; rfl
    · rfl
  · rw [spot_modSpot]
    split
    · next e => subst e; exact absurd h n
    · rfl

theorem aside_syncPass (s : State) (i : SpotId) : Aside s (s.syncPass i) := by
  unfold State.syncPass
  simp only
  split
  · next h =>
    split
    · split
      · exact .refl s
      · exact aside_modPass s i (fun _ => some _) h
    · exact aside_modPass s i (fun _ => none) h
  · exact .refl s

theorem aside_setLevel (s : State) (c : CompId) (l : Level) : Aside s (s.setLevel c l) := by
  unfold State.setLevel
  simp only
  split
  · exact (aside_modComp _ _ _).trans (Aside.foldl _ aside_syncPass _ _)
  · exact aside_modComp _ _ _

theorem aside_startConfirmation (s : State) (c : CompId) (a : CompReading) : Aside s (s.startConfirmation c a) :=
  aside_modComp _ _ _
theorem aside_startPopdown (s : State) (c : CompId) : Aside s (s.startPopdown c) := aside_modComp _ _ _
theorem aside_clearIdle (s : State) (c : CompId) : Aside s (s.clearIdle c) := aside_modComp _ _ _

theorem aside_stopCompressor (s : State) (c : CompId) : Aside s (s.stopCompressor c) :=
  ((aside_writeComp _ _ _ _).trans (aside_setLevel _ _ _)).trans (aside_startConfirmation _ _ _)

theorem aside_reverseTo (s : State) (c : CompId) (cmd : Command) (a : CompReading) : Aside s (s.reverseTo c cmd a) :=
  ((aside_writeComp _ _ _ _).trans (aside_setLevel _ _ _)).trans (aside_startConfirmation _ _ _)

theorem aside_followDemand (s : State) (c : CompId) : Aside s (s.followDemand c) := by
  unfold State.followDemand
  split
  · split
    · exact (aside_clearIdle _ _).trans (aside_setLevel _ _ _)
    · exact (aside_clearIdle _ _).trans (aside_reverseTo _ _ _ _)
  · split
    · exact (aside_clearIdle _ _).trans (aside_setLevel _ _ _)
    · exact (aside_clearIdle _ _).trans (aside_reverseTo _ _ _ _)
  · exact (aside_clearIdle _ _).trans (aside_setLevel _ _ _)
  · exact (aside_setLevel _ _ _).trans (aside_startPopdown _ _)

theorem aside_startDecision (s : State) (c : CompId) : Aside s (s.startDecision c) := by
  unfold State.startDecision
  split
  · simp only
    refine Aside.trans ?_ (aside_startConfirmation _ _ _)
    refine Aside.trans ?_ (aside_setLevel _ _ _)
    refine Aside.trans ?_ (aside_modComp _ _ _)
    refine Aside.trans ?_ (aside_writeComp _ _ _ _)
    split
    · exact aside_writeComp _ _ _ _
    · exact .refl s
  · exact aside_modComp _ _ _

theorem aside_actOn (s : State) (c : CompId) (old : Demand) : Aside s (s.actOn c old) := by
  unfold State.actOn
  simp only
  split
  · exact .refl s
  · split
    · split
      · exact aside_modComp _ _ _
      · split
        · exact aside_startDecision _ _
        · exact .refl s
    · exact aside_followDemand _ _
    · exact aside_followDemand _ _
    · exact aside_followDemand _ _
    all_goals exact .refl s

theorem aside_actAll (s before : State) : Aside s (s.actAll before) :=
  Aside.foldl _ (fun _ _ => aside_actOn _ _ _) _ _

theorem aside_leaveList (s : State) (i : SpotId) : Aside s (s.leaveList i) := aside_of_parts rfl rfl rfl

theorem aside_joinList (s : State) (i : SpotId) : Aside s (s.joinList i) := by
  unfold State.joinList
  split
  · exact .refl s
  · exact aside_of_parts rfl rfl rfl

theorem aside_attach (s : State) (c : CompId) (i : SpotId) : Aside s (s.attach c i) := aside_modComp _ _ _
theorem aside_detach (s : State) (c : CompId) (i : SpotId) : Aside s (s.detach c i) := aside_modComp _ _ _

theorem aside_applySpot (s : State) (i : SpotId) : Aside s (s.applySpot i) := by
  unfold State.applySpot
  split
  · exact aside_attach _ _ _
  · exact aside_joinList _ _

theorem aside_place (s : State) (i : SpotId) : Aside s (s.place i) := by
  unfold State.place
  simp only
  split
  · split
    · exact aside_detach _ _ _
    · exact .refl s
    · split
      · exact (aside_detach _ _ _).trans (aside_applySpot _ _)
      · exact .refl s
    · split
      · exact (aside_detach _ _ _).trans (aside_applySpot _ _)
      · exact .refl s
  · split
    · split
      · exact .refl s
      · exact aside_leaveList _ _
    · split
      · exact aside_applySpot _ _
      · exact .refl s

/-! ## A handed demand -/

/-- What handing a demand does to the contexts: the spot's demand is the one handed and its grant the answer; every other
context is as it was but for the pass timer of a spot in a recovery pass (R57, R94, R147). -/
structure Handed (s t : State) (i : SpotId) (d : Demand) : Prop where
  conditions : t.conditions = s.conditions
  manifest   : t.manifest = s.manifest
  other      : ∀ j, j ≠ i → t.spot j = { s.spot j with pass := (t.spot j).pass }
  self       : t.spot i = { s.spot i with pass := (t.spot i).pass, demand := d, grant := (t.spot i).grant }
  pass       : ∀ j, ¬ (s.spot j).inPass → (t.spot j).pass = (s.spot j).pass

theorem handed_handDemand (s : State) (i : SpotId) (d : Demand) : Handed s (s.handDemand i d) i d := by
  unfold State.handDemand
  split
  · next h => exact ⟨rfl, rfl, fun _ _ => rfl, by rw [← h], fun _ _ => rfl⟩
  · simp only
    generalize hu : (s.modSpot i (fun x => { x with demand := d })) = u
    have h1 : Aside u (u.place i) := aside_place _ _
    have h2 : Aside (u.place i) ((u.place i).actAll s) := aside_actAll _ _
    generalize (u.place i).actAll s = v at *
    have h3 := h1.trans h2
    unfold State.takeGrant
    generalize hw : v.modSpot i (fun x => { x with grant := grantOf (v.standingAnswer i) x.demand }) = w
    have h4 : Aside w (w.syncPass i) := aside_syncPass _ _
    have hui : ∀ j, u.spot j = if j = i then { s.spot i with demand := d } else s.spot j := by
      intro j; rw [← hu, spot_modSpot]
    have hwi : ∀ j, w.spot j = if j = i then { v.spot i with grant := grantOf (v.standingAnswer i) (v.spot i).demand }
        else v.spot j := by
      intro j; rw [← hw, spot_modSpot]
    have hcu : u.conditions = s.conditions := by rw [← hu]; rfl
    have hmu : u.manifest = s.manifest := by rw [← hu]; rfl
    have hcw : w.conditions = v.conditions := by rw [← hw]; rfl
    have hmw : w.manifest = v.manifest := by rw [← hw]; rfl
    refine ⟨by rw [h4.conditions, hcw, h3.conditions, hcu], by rw [h4.manifest, hmw, h3.manifest, hmu],
      fun j hj => ?_, ?_, fun j hn => ?_⟩
    · rw [h4.spots j, hwi j, if_neg hj, h3.spots j, hui j, if_neg hj]
    · rw [h4.spots i, hwi i, if_pos rfl, h3.spots i, hui i, if_pos rfl]
    · have hnu : ¬ (u.spot j).inPass := by
        rw [hui j]; split
        · next e => subst e; exact hn
        · exact hn
      have hnv : ¬ (v.spot j).inPass := by rw [h3.spots j]; exact hnu
      have hnw : ¬ (w.spot j).inPass := by
        rw [hwi j]; split
        · next e => subst e; exact hnv
        · exact hnv
      rw [h4.pass j hnw, hwi j]
      have hv : (v.spot j).pass = (s.spot j).pass := by
        rw [h3.pass j hnu, hui j]; split
        · next e => subst e; rfl
        · rfl
      split
      · next e => subst e; exact hv
      · exact hv

/-- A handed demand changes no spot's state. -/
theorem Handed.state {s t : State} {i : SpotId} {d : Demand} (h : Handed s t i d) (j : SpotId) :
    (t.spot j).state = (s.spot j).state := by
  by_cases e : j = i
  · subst e; rw [h.self]
  · rw [h.other j e]

end Sys2Proof.Machine
end

