-- ==== Sys2Proof/Laws/InnerSpots.lean ====
section
/-! SUPPORT. The operations of the Spot Sequencer stay inside the relation `Inside`: suspension and return, the sequence, endings,
tags, the grant scan. -/

namespace Sys2Proof.Machine

theorem holdsCar_of_active {st : SpotState} (h : st.active = true) : st.holdsCar = true := by
  simp [SpotState.holdsCar, h]

/-- A step between active states. -/
theorem inner_setState_active (s : State) (i : SpotId) (st : SpotState) (h : s.isActive i = true)
    (hn : st.active = true) : Inside s (s.setState i st) :=
  inner_setState s i st (by rw [holdsCar_of_active hn, holdsCar_of_active h]) (fun _ => h)

theorem isActive_modSpot (s : State) (i : SpotId) (f : SpotContext → SpotContext)
    (h : (f (s.spot i)).state = (s.spot i).state) : (s.modSpot i f).isActive i = s.isActive i := by
  simp [State.isActive, h]

theorem Aside.isActive {s t : State} (h : Aside s t) (j : SpotId) : t.isActive j = s.isActive j := by
  simp [State.isActive, h.state]

theorem Handed.isActive {s t : State} {i : SpotId} {d : Demand} (h : Handed s t i d) (j : SpotId) :
    t.isActive j = s.isActive j := by
  simp [State.isActive, h.state]

theorem isActive_setState (s : State) (i : SpotId) (st : SpotState) : (s.setState i st).isActive i = st.active := by
  simp [State.setState, State.isActive]

/-! ## Demand at a suspended spot -/

theorem inner_handHold (s : State) (i : SpotId) : Inside s (s.handHold i) := by
  unfold State.handHold
  simp only
  split
  · exact inner_handDemand _ _ _
  · exact (inner_handDemand _ _ _).trans (inner_handDemand _ _ _)
  · exact (inner_handDemand _ _ _).trans (inner_handDemand _ _ _)

/-- What `handHold` does is what handing some demand does, HOLD or NONE. -/
theorem handed_handHold (s : State) (i : SpotId) : ∃ d, Handed s (s.handHold i) i d := by
  have two : ∀ (a b c : State) (d e : Demand), Handed a b i d → Handed b c i e → Handed a c i e := by
    intro a b c d e h k
    refine ⟨k.conditions.trans h.conditions, k.manifest.trans h.manifest, fun j hj => ?_, ?_, fun j hn => ?_⟩
    · rw [k.other j hj, h.other j hj]
    · rw [k.self, h.self]
    · have hb : ¬ (b.spot j).inPass := by
        by_cases e : j = i
        · subst e; rw [h.self]; exact hn
        · rw [h.other j e]; exact hn
      rw [k.pass j hb, h.pass j hn]
  unfold State.handHold
  simp only
  split
  · exact ⟨_, handed_handDemand _ _ _⟩
  · exact ⟨_, two _ _ _ _ _ (handed_handDemand _ _ _) (handed_handDemand _ _ _)⟩
  · exact ⟨_, two _ _ _ _ _ (handed_handDemand _ _ _) (handed_handDemand _ _ _)⟩

theorem isActive_handHold (s : State) (i j : SpotId) : (s.handHold i).isActive j = s.isActive j := by
  obtain ⟨d, h⟩ := handed_handHold s i
  exact h.isActive j

theorem inner_followGrant (s : State) (i : SpotId) (v : Saved) : Inside s (s.followGrant i v) := by
  unfold State.followGrant
  split
  · exact inner_handHold _ _
  · exact inner_handDemand _ _ _
  · exact inner_handDemand _ _ _

/-- What `followGrant` does is what handing some demand does. -/
theorem handed_followGrant (s : State) (i : SpotId) (v : Saved) : ∃ d, Handed s (s.followGrant i v) i d := by
  unfold State.followGrant
  split
  · exact handed_handHold _ _
  · exact ⟨_, handed_handDemand _ _ _⟩
  · exact ⟨_, handed_handDemand _ _ _⟩

theorem inner_holdOrNone (s : State) (i : SpotId) : Inside s (s.holdOrNone i) := by
  unfold State.holdOrNone
  split
  · exact inner_handHold _ _
  · exact inner_handDemand _ _ _
  · exact inner_handDemand _ _ _

/-- What `holdOrNone` does is what handing some demand does. -/
theorem handed_holdOrNone (s : State) (i : SpotId) : ∃ d, Handed s (s.holdOrNone i) i d := by
  unfold State.holdOrNone
  split
  · exact handed_handHold _ _
  · exact ⟨_, handed_handDemand _ _ _⟩
  · exact ⟨_, handed_handDemand _ _ _⟩

/-! ## Suspension and return -/

theorem inner_enterSuspended (s : State) (i : SpotId) (v : Saved) (h : s.isActive i = true) :
    Inside s (s.enterSuspended i v) := by
  unfold State.enterSuspended
  simp only
  refine Inside.trans (inner_modSpot s i (fun x =>
    { x with saved := some v, travel := none, pressurise := none, pass := none, settle := none,
             liquidConfirmed := false }) rfl rfl) ?_
  refine Inside.trans (inner_writeValve _ .liqCmd i .closed) ?_
  refine Inside.trans (inner_setState_active _ i .suspended ?_ rfl) ?_
  · rw [(aside_writeValve _ _ _ _).isActive, isActive_modSpot _ _ _ (by rfl)]; exact h
  · exact (inner_followGrant _ _ _).trans ((inner_modSpot _ _ _ rfl rfl).trans (inner_announce _ _))

theorem Saved.state_active (v : Saved) : v.state.active = true := by cases v <;> rfl

theorem inner_completeReturn (s : State) (i : SpotId) (v : Saved) (h : s.isActive i = true) :
    Inside s (s.completeReturn i v) := by
  unfold State.completeReturn
  simp only
  refine Inside.trans (inner_context s i (fun x =>
    { x with suspendTimer := none, saved := none, state := v.state, sub := v.sub }) ?_ (fun _ => h) id) ?_
  · exact (holdsCar_of_active v.state_active).trans (holdsCar_of_active h).symm
  · refine Inside.trans ?_ (inner_announce _ _)
    split
    · exact inner_modSpot _ _ _ rfl rfl
    · exact ((inner_writeValve _ _ _ _).trans (inner_modSpot _ _ _ rfl rfl)).trans (inner_modSpot _ _ _ rfl rfl)
    · exact inner_syncPass _ _
    · exact inner_modSpot _ _ _ rfl rfl

theorem inner_setNoCompressor (s : State) (i : SpotId) (b : Bool) : Inside s (s.setNoCompressor i b) :=
  inner_modSpot _ _ _ rfl rfl

theorem isActive_setNoCompressor (s : State) (i j : SpotId) (b : Bool) :
    (s.setNoCompressor i b).isActive j = s.isActive j := by
  simp only [State.setNoCompressor, State.isActive, spot_modSpot]
  split
  · next e => subst e; rfl
  · rfl

theorem inner_returnAttempt (s : State) (i : SpotId) (h : s.isActive i = true) : Inside s (s.returnAttempt i) := by
  unfold State.returnAttempt
  split
  · exact .refl s
  · split
    · exact inner_completeReturn _ _ _ h
    · simp only
      have hd := handed_handDemand s i (by assumption : Saved).demand
      split
      · refine (inner_handDemand _ _ _).trans ((inner_setNoCompressor _ _ _).trans (inner_completeReturn _ _ _ ?_))
        rw [isActive_setNoCompressor, hd.isActive]; exact h
      · exact (inner_handDemand _ _ _).trans (inner_setNoCompressor _ _ _)
      · exact (inner_handDemand _ _ _).trans (inner_setNoCompressor _ _ _)

theorem active_of_savedOf {st : SpotState} {sub : Option SubState} {v : Saved} (h : savedOf st sub = some v) :
    st.active = true := by
  cases st <;> first | rfl | simp [savedOf] at h

theorem inner_causeTest (s : State) (i : SpotId) : Inside s (s.causeTest i) := by
  unfold State.causeTest
  simp only
  split
  · split
    · next v hv => exact inner_enterSuspended _ _ _ (active_of_savedOf hv)
    · exact .refl s
  · split
    · next h => exact inner_returnAttempt _ _ (by simp [State.isActive, h, SpotState.active])
    · exact .refl s

theorem inner_changeCauses (s : State) (i : SpotId) (f : Causes → Causes) : Inside s (s.changeCauses i f) := by
  unfold State.changeCauses
  split
  · simp only
    split
    · exact .refl s
    · exact (inner_modSpot _ _ _ rfl rfl).trans (inner_causeTest _ _)
  · exact .refl s

theorem inner_takeReport (s : State) (i : SpotId) : Inside s (s.takeReport i) := by
  unfold State.takeReport
  simp only
  have hg : Inside s (s.takeGrant i) := inner_takeGrant s i
  split
  · next ha =>
    have hga : ((s.takeGrant i).setNoCompressor i false).isActive i = true := by
      rw [isActive_setNoCompressor]
      unfold State.takeGrant
      rw [(aside_syncPass _ _).isActive, isActive_modSpot _ _ _ (by rfl)]
      exact ha
    split
    · have h1 := hg.trans (inner_setNoCompressor (s.takeGrant i) i false)
      split
      · split
        · exact h1.trans (inner_handHold _ _)
        · exact h1.trans (inner_returnAttempt _ _ hga)
      · exact h1
    · split
      · exact (hg.trans (inner_setNoCompressor _ _ _)).trans (inner_causeTest _ _)
      · exact (hg.trans (inner_setNoCompressor _ _ _)).trans (inner_causeTest _ _)
      · exact hg.trans (inner_handDemand _ _ _)
      · exact hg
    · split
      · exact hg
      · exact hg
      · exact hg.trans (inner_handDemand _ _ _)
      · exact hg.trans (inner_setNoCompressor _ _ _)
  · exact hg

theorem inner_grantSpot (s : State) (i : SpotId) (c : CompId) : Inside s (s.grantSpot i c) :=
  (((inner_leaveList _ _).trans (inner_attach _ _ _)).trans (inner_actAll _ _)).trans (inner_takeReport _ _)

theorem inner_grantScan (n : Nat) (s : State) : Inside s (grantScan n s) := by
  induction n generalizing s with
  | zero => exact .refl s
  | succ n ih =>
    unfold grantScan
    split
    · exact .refl s
    · exact (inner_grantSpot _ _ _).trans (ih _)

theorem inner_endScan (s : State) : Inside s s.endScan := inner_grantScan _ _

/-! ## The sequence -/

theorem inner_enterPressurising (s : State) (i : SpotId) (h : s.isActive i = true) :
    Inside s (s.enterPressurising i) := by
  unfold State.enterPressurising
  simp only
  refine Inside.trans (inner_context s i (fun x => { x with travel := none, state := .pressurising }) ?_
    (fun _ => h) id) ?_
  · exact (holdsCar_of_active (by rfl)).trans (holdsCar_of_active h).symm
  · refine Inside.trans (b := State.startPressurise _ i) (inner_modSpot _ _ (fun x => { x with
      pressurise := some _ }) rfl rfl) ?_
    exact (((inner_handDemand _ _ _).trans (inner_announce _ _)).trans (inner_takeReport _ _)).trans
      (inner_causeTest _ _)

theorem inner_enterUnloading (s : State) (i : SpotId) (h : s.isActive i = true) :
    Inside s (s.enterUnloading i) := by
  unfold State.enterUnloading
  simp only
  refine Inside.trans (inner_modSpot s i (fun x => { x with pressurise := none }) rfl rfl) ?_
  refine Inside.trans (inner_writeValve _ .liqCmd i .opened) ?_
  refine Inside.trans (inner_context _ i (fun x =>
    { x with liquidConfirmed := false, window := .empty, state := .unloading }) ?_ (fun _ => ?_) id) ?_
  · refine (holdsCar_of_active (by rfl)).trans (holdsCar_of_active ?_).symm
    have := (aside_writeValve (s.modSpot i fun x => { x with pressurise := none }) .liqCmd i .opened).isActive i
    rw [isActive_modSpot _ _ _ (by rfl)] at this
    exact this.trans h
  · have := (aside_writeValve (s.modSpot i fun x => { x with pressurise := none }) .liqCmd i .opened).isActive i
    rw [isActive_modSpot _ _ _ (by rfl)] at this
    exact this.trans h
  · exact (inner_modSpot _ _ _ rfl rfl).trans (inner_announce _ _)

theorem inner_liquidOpened (s : State) (i : SpotId) : Inside s (s.liquidOpened i) := inner_modSpot _ _ _ rfl rfl

theorem inner_enterLiquidClosing (s : State) (i : SpotId) (h : s.isActive i = true) :
    Inside s (s.enterLiquidClosing i) := by
  unfold State.enterLiquidClosing
  simp only
  refine Inside.trans (inner_writeValve s .liqCmd i .closed) ?_
  refine Inside.trans (inner_setState_active _ i .liquidClosing ?_ rfl) ?_
  · rw [(aside_writeValve _ _ _ _).isActive]; exact h
  exact ((inner_modSpot _ _ _ rfl rfl).trans (inner_holdOrNone _ _)).trans (inner_announce _ _)

theorem inner_enterRecovery (s : State) (i : SpotId) (h : s.isActive i = true) : Inside s (s.enterRecovery i) := by
  unfold State.enterRecovery
  simp only
  refine Inside.trans (inner_context s i (fun x =>
    { x with travel := none, state := .recovery, sub := some .pass, passCount := 0 }) ?_ (fun _ => h) id) ?_
  · exact (holdsCar_of_active (by rfl)).trans (holdsCar_of_active h).symm
  · exact (((inner_handDemand _ _ _).trans (inner_announce _ _)).trans (inner_takeReport _ _)).trans
      (inner_causeTest _ _)

theorem inner_endPass (s : State) (i : SpotId) : Inside s (s.endPass i) := by
  unfold State.endPass
  simp only
  exact ((inner_modSpot _ _ _ rfl rfl).trans (inner_handDemand _ _ _)).trans (inner_modSpot _ _ _ rfl rfl)

theorem inner_beginPass (s : State) (i : SpotId) : Inside s (s.beginPass i) := by
  unfold State.beginPass
  simp only
  exact ((inner_modSpot _ _ _ rfl rfl).trans (inner_handDemand _ _ _)).trans (inner_takeReport _ _)

theorem inner_endRecovery (s : State) (i : SpotId) (b : Bool) (h : s.isActive i = true) :
    Inside s (s.endRecovery i b) := by
  unfold State.endRecovery
  simp only
  refine Inside.trans (inner_modSpot s i (fun x =>
    { x with settle := none, sub := none, heel := !b,
             pendingOutcome := some (recoveryOutcome b x.stopMark) }) rfl rfl) ?_
  refine Inside.trans (inner_writeValve _ .vapCmd i .closed) ?_
  refine Inside.trans (inner_setState_active _ i .closing ?_ rfl) ?_
  · rw [(aside_writeValve _ _ _ _).isActive, isActive_modSpot _ _ _ (by rfl)]; exact h
  · exact (inner_modSpot _ _ _ rfl rfl).trans (inner_announce _ _)

theorem inner_settleTest (s : State) (i : SpotId) (h : s.isActive i = true) : Inside s (s.settleTest i) := by
  unfold State.settleTest
  split
  · split
    · exact inner_endRecovery _ _ _ h
    · split
      · exact inner_beginPass _ _
      · exact inner_endRecovery _ _ _ h
  · exact .refl s

/-! ## The manifest -/

theorem boundCount_changeBound (m : List CarRecord) (i j : SpotId) (f : CarRecord → CarRecord)
    (hf : ∀ c k, (f c).status ≠ .bound k) :
    boundCount (changeBound m i f) j = if j = i then boundCount m j - 1 else boundCount m j := by
  induction m with
  | nil => simp [changeBound, boundCount]
  | cons c m ih =>
    simp only [changeBound]
    split
    · next h =>
      have hfj : (f c).status ≠ .bound j := hf c j
      by_cases e : j = i
      · subst e; simp [boundCount, hfj, h]
      · have : CarStatus.bound i ≠ .bound j := by simpa using fun x => e x.symm
        simp [boundCount, hfj, h, this, e]
    · next h =>
      simp only [boundCount] at ih ⊢
      by_cases e : j = i
      · subst e
        simp only [List.countP_cons, h, decide_false, Bool.false_eq_true, if_false, if_true, Nat.add_zero] at ih ⊢
        exact ih
      · simp only [List.countP_cons, ih, e, if_false]

theorem cars_changeBound (m : List CarRecord) (i : SpotId) (f : CarRecord → CarRecord) (hf : ∀ c, (f c).fixed = c.fixed) :
    (changeBound m i f).map CarRecord.fixed = m.map CarRecord.fixed := by
  induction m with
  | nil => rfl
  | cons c m ih => simp only [changeBound]; split <;> simp [ih, hf]

theorem done_changeBound (m : List CarRecord) (i : SpotId) (f : CarRecord → CarRecord) (k : Nat) (c : CarRecord)
    (h : m[k]? = some c) (hd : c.status = .done) : (changeBound m i f)[k]? = some c := by
  induction m generalizing k with
  | nil => simp at h
  | cons d m ih =>
    simp only [changeBound]
    split
    · next hb =>
      cases k with
      | zero => simp at h; subst h; rw [hb] at hd; cases hd
      | succ k => simpa using h
    · cases k with
      | zero => simpa using h
      | succ k => simpa using ih k (by simpa using h)

/-- A spot gives up its BOUND record and takes a state without a car. -/
theorem inner_drop (s : State) (i : SpotId) (g : CarRecord → CarRecord) (f : SpotContext → SpotContext)
    (hg : ∀ c k, (g c).status ≠ .bound k) (hk : ∀ c, (g c).fixed = c.fixed) (hb : (s.spot i).state.holdsCar = true)
    (hf : (f (s.spot i)).state.holdsCar = false) (ha : (f (s.spot i)).acc = (s.spot i).acc) :
    Inside s (({ s with manifest := changeBound s.manifest i g } : State).modSpot i f) := by
  refine ⟨rfl, .refl _, fun _ => rfl, fun j h => ?_, fun j h => ?_, fun h j => ?_, cars_changeBound _ _ _ hk,
    fun k c h hd => done_changeBound _ _ _ _ _ h hd⟩
  · simp only [State.isActive, spot_modSpot] at h ⊢
    by_cases e : j = i
    · subst e
      rw [if_pos rfl] at h
      have hx : (f (({ s with manifest := changeBound s.manifest j g } : State).spot j)) = f (s.spot j) := rfl
      rw [hx] at h
      rw [holdsCar_of_active h] at hf
      cases hf
    · rw [if_neg e] at h; exact h
  · have hr : ∀ q, (({ s with manifest := changeBound s.manifest i g } : State).modSpot i f).recordField j q =
      s.recordField j q := fun _ => rfl
    simp only [Conserved, spot_modSpot, hr]
    by_cases e : j = i
    · subst e
      have hx : (f (({ s with manifest := changeBound s.manifest j g } : State).spot j)) = f (s.spot j) := rfl
      rw [if_pos rfl, hx, ha]; exact h
    · rw [if_neg e]; exact h
  · have hj := h j
    simp only [BindOk, spot_modSpot] at hj ⊢
    have hm : (({ s with manifest := changeBound s.manifest i g } : State).modSpot i f).manifest =
      changeBound s.manifest i g := rfl
    rw [hm, boundCount_changeBound _ _ _ _ hg]
    by_cases e : j = i
    · subst e
      have hx : (f (({ s with manifest := changeBound s.manifest j g } : State).spot j)) = f (s.spot j) := rfl
      rw [if_pos rfl, if_pos rfl, hx, hf, hj, hb]
      rfl
    · rw [if_neg e, if_neg e]; exact hj

/-! ## Endings -/

theorem inner_stopTimers (s : State) (i : SpotId) : Inside s (s.stopTimers i) := inner_modSpot _ _ _ rfl rfl
theorem inner_closeValves (s : State) (i : SpotId) : Inside s (s.closeValves i) :=
  (inner_writeValve _ _ _ _).trans (inner_writeValve _ _ _ _)

theorem isActive_stopTimers (s : State) (i : SpotId) : (s.stopTimers i).isActive i = s.isActive i :=
  isActive_modSpot _ _ _ rfl

theorem modSpot_modSpot (s : State) (i : SpotId) (f g : SpotContext → SpotContext) :
    (s.modSpot i f).modSpot i g = s.modSpot i (fun x => g (f x)) := by
  simp only [State.modSpot, State.spot, vectorGet_set_same]
  simp [Vector.set_set]

/-- The transfer's ending, up to its notices: from a spot that holds a car to a state without one. -/
theorem inner_finishTransfer (s : State) (i : SpotId) (o : Ending) (st : SpotState) (b : Bool)
    (h : (s.spot i).state.holdsCar = true) (hs : st.holdsCar = false) :
    Inside s (s.finishTransfer i o st b) := by
  unfold State.finishTransfer
  simp only
  have h1 : Inside s (((s.stopTimers i).closeValves i).handDemand i .none) :=
    ((inner_stopTimers _ _).trans (inner_closeValves _ _)).trans (inner_handDemand _ _ _)
  have hst : ((((s.stopTimers i).closeValves i).handDemand i .none).spot i).state = (s.spot i).state := by
    rw [(handed_handDemand _ _ _).state, (aside_closeValves _ _).state]
    simp [State.stopTimers]
  generalize ((s.stopTimers i).closeValves i).handDemand i .none = u at *
  refine Inside.trans h1 ?_
  refine Inside.trans (inner_modSpot u i (fun x =>
    { x with grant := .none, causes := .empty, saved := none, sub := none }) rfl rfl) ?_
  unfold State.writeEndRecord State.setState
  simp only [modSpot_modSpot]
  refine inner_drop _ _ _ _ ?_ (fun _ => rfl) ?_ hs (by rfl)
  · intro c k; simp
  · simp [hst, h]

theorem inner_endTransfer (s : State) (i : SpotId) (o : Ending) (st : SpotState) (b : Bool)
    (h : (s.spot i).state.holdsCar = true) (hs : st.holdsCar = false) :
    Inside s (s.endTransfer i o st b) := by
  unfold State.endTransfer
  split
  · exact ((inner_finishTransfer _ _ _ _ _ h hs).trans (inner_announce _ _)).trans (inner_notice _ _)
  · exact (inner_finishTransfer _ _ _ _ _ h hs).trans (inner_announce _ _)

theorem inner_faultSpot (s : State) (i : SpotId) (o : Ending) : Inside s (s.faultSpot i o) := by
  unfold State.faultSpot
  split
  · next h => exact inner_endTransfer _ _ _ _ _ (holdsCar_of_active h) rfl
  · exact .refl s

theorem restState_holdsCar (s : State) (i : SpotId) : (s.restState i).holdsCar = false := by
  unfold State.restState
  split
  · split <;> rfl
  · rfl

/-! ## Readiness and tags -/

theorem inner_readiness (s : State) (i : SpotId) : Inside s (s.readiness i) := by
  unfold State.readiness
  split
  · next h =>
    split
    · exact inner_changeState _ _ _ (by rw [h]; rfl) (fun h => by cases h)
    · exact .refl s
  · next h =>
    split
    · exact .refl s
    · exact inner_changeState _ _ _ (by rw [h]; rfl) (fun h => by cases h)
  · exact .refl s

theorem inner_connectionReport (s : State) (i : SpotId) (b : Bool) (o : Ending) :
    Inside s (s.connectionReport i b o) := by
  unfold State.connectionReport
  split
  · split
    · exact .refl s
    · exact inner_faultSpot _ _ _
  · exact inner_readiness _ _

theorem inner_connectionLost (s : State) (i : SpotId) (o : Ending) : Inside s (s.connectionLost i o) := by
  unfold State.connectionLost
  split
  · exact inner_faultSpot _ _ _
  · split
    · next h => exact inner_changeState _ _ _ (by rw [h]; rfl) (fun h => by cases h)
    · exact .refl s

theorem boundCount_bindFirst {m m' : List CarRecord} {i : SpotId} {chars : List Byte}
    (h : bindFirst m i chars = some m') (j : SpotId) :
    boundCount m' j = if j = i then boundCount m j + 1 else boundCount m j := by
  induction m generalizing m' with
  | nil => simp [bindFirst] at h
  | cons c m ih =>
    simp only [bindFirst] at h
    split at h
    · next hc =>
      cases h
      by_cases e : j = i
      · subst e; simp [boundCount, hc.1]
      · have : CarStatus.bound i ≠ .bound j := by simpa using fun x => e x.symm
        simp [boundCount, hc.1, this, e]
    · obtain ⟨l, hl, rfl⟩ := Option.map_eq_some_iff.mp h
      have := ih hl
      simp only [boundCount] at this ⊢
      simp only [List.countP_cons, this]
      split <;> omega

theorem cars_bindFirst {m m' : List CarRecord} {i : SpotId} {chars : List Byte}
    (h : bindFirst m i chars = some m') : m'.map CarRecord.fixed = m.map CarRecord.fixed := by
  induction m generalizing m' with
  | nil => simp [bindFirst] at h
  | cons c m ih =>
    simp only [bindFirst] at h
    split at h
    · cases h; rfl
    · obtain ⟨l, hl, rfl⟩ := Option.map_eq_some_iff.mp h
      simp [ih hl]

theorem done_bindFirst {m m' : List CarRecord} {i : SpotId} {chars : List Byte} (h : bindFirst m i chars = some m')
    (k : Nat) (c : CarRecord) (hc : m[k]? = some c) (hd : c.status = .done) : m'[k]? = some c := by
  induction m generalizing m' k with
  | nil => simp [bindFirst] at h
  | cons d m ih =>
    simp only [bindFirst] at h
    split at h
    · next hw =>
      cases h
      cases k with
      | zero => simp at hc; subst hc; rw [hw.1] at hd; cases hd
      | succ k => simpa using hc
    · obtain ⟨l, hl, rfl⟩ := Option.map_eq_some_iff.mp h
      cases k with
      | zero => simpa using hc
      | succ k => simpa using ih hl k (by simpa using hc)

/-- A VACANT spot takes a car: its record is BOUND and it becomes IDENTIFIED. -/
theorem inner_take (s : State) (i : SpotId) (m : List CarRecord) (chars : List Byte) (f : SpotContext → SpotContext)
    (hm : bindFirst s.manifest i chars = some m) (hb : (s.spot i).state.holdsCar = false)
    (hf : (f (s.spot i)).state = .identified) (ha : (f (s.spot i)).acc = (s.spot i).acc) :
    Inside s (({ s with manifest := m } : State).modSpot i f) := by
  have hx : ∀ j, ({ s with manifest := m } : State).spot j = s.spot j := fun _ => rfl
  refine ⟨rfl, .refl _, fun _ => rfl, fun j h => ?_, fun j h => ?_, fun h j => ?_, cars_bindFirst hm,
    fun k c h hd => done_bindFirst hm _ _ h hd⟩
  · simp only [State.isActive, spot_modSpot, hx] at h ⊢
    by_cases e : j = i
    · subst e
      rw [if_pos rfl, hf] at h
      cases h
    · rw [if_neg e] at h; exact h
  · have hr : ∀ q, (({ s with manifest := m } : State).modSpot i f).recordField j q = s.recordField j q := fun _ => rfl
    simp only [Conserved, spot_modSpot, hr, hx]
    by_cases e : j = i
    · subst e
      rw [if_pos rfl, ha]; exact h
    · rw [if_neg e]; exact h
  · have hj := h j
    simp only [BindOk, spot_modSpot, hx] at hj ⊢
    have hm' : (({ s with manifest := m } : State).modSpot i f).manifest = m := rfl
    rw [hm', boundCount_bindFirst hm]
    by_cases e : j = i
    · subst e
      rw [if_pos rfl, if_pos rfl, hf, hj, hb]
      rfl
    · rw [if_neg e, if_neg e]; exact hj

theorem reportUnknownTag_eq (s : State) (i : SpotId) (b : Bool) :
    ∃ c r, s.reportUnknownTag i b = { s with conditions := c, rpu := r } := by
  unfold State.reportUnknownTag
  split
  · exact ⟨s.conditions, s.rpu, rfl⟩
  · unfold State.storeConditions
    simp only
    split
    · exact ⟨_, _, rfl⟩
    · exact ⟨_, s.rpu, rfl⟩

theorem inner_matchTag (s : State) (i : SpotId) (chars : List Byte) (h : (s.spot i).state.holdsCar = false) :
    Inside s (s.matchTag i chars) := by
  unfold State.matchTag
  split
  · next m hm =>
    simp only
    refine Inside.trans ?_ (inner_readiness _ _)
    unfold State.changeState
    refine Inside.trans ?_ (inner_announce _ _)
    have h0 := inner_reportUnknownTag
      (({ s with manifest := m } : State).modSpot i (fun x => { x with lastHeld := none })) i false
    obtain ⟨c, r, hcr⟩ := reportUnknownTag_eq
      (({ s with manifest := m } : State).modSpot i (fun x => { x with lastHeld := none })) i false
    rw [hcr] at h0 ⊢
    have hp : PortStep s.rpu r := h0.port
    have e : State.setState { ({ s with manifest := m } : State).modSpot i (fun x => { x with lastHeld := none }) with
        conditions := c, rpu := r } i .identified =
        { (({ s with manifest := m } : State).modSpot i (fun x => { x with lastHeld := none, state := .identified })) with
          conditions := c, rpu := r } := by
      have := modSpot_modSpot ({ s with manifest := m } : State) i (fun x => { x with lastHeld := none })
        (fun x => { x with state := .identified })
      simp only [State.setState]
      rw [show (State.modSpot { ({ s with manifest := m } : State).modSpot i (fun x => { x with lastHeld := none }) with
        conditions := c, rpu := r } i fun x => { x with state := .identified }) =
        { ((({ s with manifest := m } : State).modSpot i (fun x => { x with lastHeld := none })).modSpot i
          fun x => { x with state := .identified }) with conditions := c, rpu := r } from rfl, this]
    rw [e]
    have ht := inner_take s i m chars (fun x => { x with lastHeld := none, state := .identified }) hm h rfl rfl
    refine ht.trans (inner_of_parts rfl hp rfl rfl rfl)
  · exact inner_reportUnknownTag _ _ _

/-- A tag that differs unbinds and is matched afresh (R60). -/
theorem inner_rebind (s : State) (i : SpotId) (chars : List Byte) (h : (s.spot i).state.holdsCar = true) :
    Inside s (((s.unbind i).changeState i .vacant).matchTag i chars) := by
  refine Inside.trans ?_ (inner_matchTag _ _ _ ?_)
  · unfold State.changeState
    refine Inside.trans ?_ (inner_announce _ _)
    unfold State.unbind State.setState
    rw [modSpot_modSpot]
    exact inner_drop s i _ _ (by intro c k; simp) (fun _ => rfl) h rfl rfl
  · unfold State.changeState
    rw [(aside_announce _ _).state]
    simp [State.setState]
    rfl

theorem inner_deliverTag (s : State) (i : SpotId) (chars : List Byte) : Inside s (s.deliverTag i chars) := by
  unfold State.deliverTag
  split
  · next h => exact inner_matchTag _ _ _ (by rw [h]; rfl)
  · next h =>
    split
    · exact .refl s
    · exact inner_rebind _ _ _ (by rw [h]; rfl)
  · next h =>
    split
    · exact .refl s
    · exact inner_rebind _ _ _ (by rw [h]; rfl)
  · exact .refl s
  · exact .refl s
  · exact .refl s
  all_goals
    split
    · exact .refl s
    · exact inner_faultSpot _ _ _

/-! ## Pressures and positions -/

theorem inner_differentialTest (s : State) (i : SpotId) (h : s.isActive i = true) :
    Inside s (s.differentialTest i) := by
  unfold State.differentialTest
  split
  · split
    · exact inner_enterUnloading _ _ h
    · exact .refl s
  · exact .refl s

theorem inner_deliverCarPressure (s : State) (i : SpotId) (p : Int) : Inside s (s.deliverCarPressure i p) := by
  unfold State.deliverCarPressure
  split
  · exact .refl s
  · simp only
    have hc := inner_changeCauses s i
    split
    · next h => exact (hc _).trans (inner_differentialTest _ _ (by simp [State.isActive, h.2, SpotState.active]))
    · split
      · exact (hc _).trans (inner_endPass _ _)
      · exact hc _

theorem inner_deliverTankPressure (s : State) (i : SpotId) : Inside s (s.deliverTankPressure i) := by
  unfold State.deliverTankPressure
  split
  · next h => exact inner_differentialTest _ _ (by simp [State.isActive, h, SpotState.active])
  · exact .refl s

theorem inner_deliverPosition (s : State) (i : SpotId) (r : Role) (p : Position) :
    Inside s (s.deliverPosition i r p) := by
  unfold State.deliverPosition
  simp only
  split
  · exact .refl s
  · split
    · split
      · next h => exact inner_enterPressurising _ _ (by simp [State.isActive, h, SpotState.active])
      · exact inner_liquidOpened _ _
      · next h => exact inner_enterRecovery _ _ (by simp [State.isActive, h, SpotState.active])
      · next h => exact inner_endTransfer _ _ _ _ _ (by rw [h]; rfl) rfl
      · exact .refl s
    · exact .refl s

/-! ## Trip entry and RESET_PART -/

theorem inner_tripSpots (s : State) : Inside s s.tripSpots := Inside.foldl _ (fun _ _ => inner_faultSpot _ _ _) _ _

/-- A spot in IDENTIFIED or READY gives up its record and takes a state without a car (R87). -/
theorem inner_release (s : State) (i : SpotId) (st : SpotState) (b : Bool) (h : (s.spot i).state.holdsCar = true)
    (hs : st.holdsCar = false) : Inside s (((s.unbind i).reportUnknownTag i b).changeState i st) := by
  unfold State.changeState
  refine Inside.trans ?_ (inner_announce _ _)
  have h0 := inner_reportUnknownTag (s.unbind i) i b
  obtain ⟨c, r, hcr⟩ := reportUnknownTag_eq (s.unbind i) i b
  rw [hcr] at h0 ⊢
  have hp : PortStep s.rpu r := h0.port
  have ht := inner_drop s i (fun c => { c with status := .waiting }) (fun x => { x with lastHeld := none, state := st })
    (by intro c k; simp) (fun _ => rfl) h hs rfl
  have e : State.setState { s.unbind i with conditions := c, rpu := r } i st =
      { ({ s with manifest := changeBound s.manifest i (fun c => { c with status := .waiting }) } : State).modSpot i
        (fun x => { x with lastHeld := none, state := st }) with conditions := c, rpu := r } := by
    rw [← modSpot_modSpot _ i (fun x => { x with lastHeld := none }) (fun x => { x with state := st })]
    rfl
  rw [e]
  exact ht.trans (inner_of_parts rfl hp rfl rfl rfl)

theorem state_reportUnknownTag (s : State) (i j : SpotId) (b : Bool) :
    ((s.reportUnknownTag i b).spot j) = s.spot j := by
  obtain ⟨c, r, h⟩ := reportUnknownTag_eq s i b
  rw [h]; rfl

theorem inner_resetSpot (s : State) (i : SpotId) : Inside s (s.resetSpot i) := by
  have hr := restState_holdsCar s i
  have bound : (s.spot i).state.holdsCar = true →
      Inside s (let t := (s.unbind i).reportUnknownTag i false
        if (t.spot i).state = s.restState i then t else t.changeState i (s.restState i)) := by
    intro h
    have hne : (s.spot i).state ≠ s.restState i := by
      intro e; rw [e, hr] at h; cases h
    have hst : ((((s.unbind i).reportUnknownTag i false).spot i).state) = (s.spot i).state := by
      rw [state_reportUnknownTag]
      simp [State.unbind]
      rfl
    simp only [hst, if_neg hne]
    exact inner_release _ _ _ _ h hr
  unfold State.resetSpot
  simp only
  split
  · next h =>
    exact (inner_endTransfer _ _ _ _ _ (holdsCar_of_active h) hr).trans (inner_reportUnknownTag _ _ _)
  · next h =>
    split
    · next e => exact bound (by rw [e]; rfl)
    · next e => exact bound (by rw [e]; rfl)
    · next n1 n2 =>
      have hc : (s.spot i).state.holdsCar = false := by
        simp only [State.isActive, Bool.not_eq_true] at h
        simp [SpotState.holdsCar, h]
        exact ⟨n1, n2⟩
      split
      · exact inner_reportUnknownTag _ _ _
      · refine (inner_reportUnknownTag _ _ _).trans (inner_changeState _ _ _ ?_ (fun x => ?_))
        · rw [state_reportUnknownTag, hr, hc]
        · rw [holdsCar_of_active x] at hr; cases hr

theorem inner_resetSpots (s : State) : Inside s s.resetSpots := Inside.foldl _ inner_resetSpot _ _

end Sys2Proof.Machine
end

