-- ==== Sys2Proof/Laws/InnerUnits.lean ====
section
/-! SUPPORT. The events of the Compressor Coordinator and the Metering Unit stay inside the relation `Inside`; a credited sample keeps the
raw pulses (R112). -/

namespace Sys2Proof.Machine

/-! ## The Compressor Coordinator -/

theorem inner_reportAttached (s : State) (c : CompId) : Inside s (s.reportAttached c) :=
  Inside.foldl _ inner_takeReport _ _

theorem inner_enterUnavailable (s : State) (c : CompId) : Inside s (s.enterUnavailable c) := by
  unfold State.enterUnavailable
  simp only
  refine Inside.trans ?_ (Inside.foldl _ inner_takeReport _ _)
  refine Inside.trans ?_ (Inside.foldl _ inner_joinList _ _)
  refine Inside.trans ?_ (inner_modComp _ _ _)
  refine Inside.trans ?_ (inner_compressorNotice _ _)
  refine Inside.trans ?_ (inner_modComp _ _ _)
  exact (inner_modComp _ _ _).trans (inner_writeComp _ _ _ _)

theorem inner_checkUsable (s : State) (c : CompId) : Inside s (s.checkUsable c) := by
  unfold State.checkUsable
  split
  · exact inner_enterUnavailable _ _
  · exact .refl s

theorem inner_monitorComp (s : State) (c : CompId) : Inside s (s.monitorComp c) :=
  (inner_checkUsable _ _).trans (inner_writeComp _ _ _ _)

theorem inner_returnToLevel (s : State) (c : CompId) (l : Level) : Inside s (s.returnToLevel c l) :=
  (inner_setLevel _ _ _).trans (inner_compressorNotice _ _)

theorem inner_takeOver (s : State) (c : CompId) (d : Command) : Inside s (s.takeOver c d) := by
  unfold State.takeOver
  simp only
  split
  · exact (((inner_writeComp _ _ _ _).trans (inner_writeComp _ _ _ _)).trans (inner_startPopdown _ _)).trans
      (inner_returnToLevel _ _ _)
  · exact (((inner_writeComp _ _ _ _).trans (inner_writeComp _ _ _ _)).trans (inner_startConfirmation _ _ _)).trans
      (inner_returnToLevel _ _ _)

theorem inner_leaveUnavailable (s : State) (c : CompId) (r : CompReading) : Inside s (s.leaveUnavailable c r) := by
  unfold State.leaveUnavailable
  split
  · exact .refl s
  · split
    · exact (inner_writeComp _ _ _ _).trans (inner_returnToLevel _ _ _)
    · exact inner_takeOver _ _ _
    · exact inner_takeOver _ _ _
    · exact .refl s

theorem inner_confirmRunning (s : State) (c : CompId) : Inside s (s.confirmRunning c) :=
  ((inner_modComp _ _ _).trans (inner_setLevel _ _ _)).trans (inner_followDemand _ _)

theorem inner_confirmStop (s : State) (c : CompId) : Inside s (s.confirmStop c) := by
  unfold State.confirmStop
  simp only
  refine Inside.trans ((inner_modComp s c (fun x => { x with confirm := none })).trans
    (inner_setLevel _ c .stopped)) ?_
  split
  · exact .refl _
  · exact (inner_startDecision _ _).trans (inner_reportAttached _ _)

theorem inner_stateReport (s : State) (c : CompId) (r : CompReading) : Inside s (s.stateReport c r) := by
  unfold State.stateReport
  have hu := inner_enterUnavailable s c
  have hr := inner_confirmRunning s c
  cases (s.comp c).level <;> cases r <;> simp only <;> (try split) <;>
    first | exact .refl s | exact hu | exact hr | exact inner_confirmStop s c | exact inner_leaveUnavailable s c _

theorem inner_popdownExpired (s : State) (c : CompId) : Inside s (s.popdownExpired c) := by
  unfold State.popdownExpired
  simp only
  refine Inside.trans (inner_modComp s c (fun x => { x with popdown := none })) ?_
  split
  · exact inner_modComp _ _ _
  · exact inner_stopCompressor _ _

theorem inner_removeStart (s : State) (c : CompId) : Inside s (s.removeStart c) := by
  unfold State.removeStart
  simp only
  refine Inside.trans (inner_modComp s c (fun x => { x with history := x.history.drop 1 })) ?_
  split
  · exact (inner_startDecision _ _).trans (inner_reportAttached _ _)
  · split
    · exact (inner_modComp _ _ _).trans (inner_stopCompressor _ _)
    · exact .refl _

theorem inner_tripComp (s : State) (c : CompId) : Inside s (s.tripComp c) := by
  unfold State.tripComp
  simp only
  refine Inside.trans (inner_modComp s c (fun x =>
    { x with attached := [], popdown := none, deferred := false, held := false })) ?_
  refine Inside.trans (Inside.foldl State.takeReport inner_takeReport (s.comp c).attached _) ?_
  split
  · exact inner_stopCompressor _ _
  · exact .refl _

theorem inner_tripComps (s : State) : Inside s s.tripComps := by
  unfold State.tripComps
  simp only
  refine Inside.trans (Inside.foldl State.tripComp inner_tripComp allComps s) ?_
  generalize allComps.foldl State.tripComp s = t
  refine Inside.trans (b := { t with waitList := [] }) (inner_of_parts rfl (.refl _) rfl rfl rfl) ?_
  exact Inside.foldl State.takeReport inner_takeReport t.waitList _

/-! ## The Metering Unit -/

/-- R112: the raw division keeps every pulse, in litres and residue. -/
theorem credit_raw (a : Accumulators) (k : CreditInputs) (d e : Nat) :
    (credit a k d e).raw * k.kc + (credit a k d e).rawRes = a.raw * k.kc + a.rawRes + d * 100000 := by
  have h := Nat.div_add_mod (d * 100000 + a.rawRes) k.kc
  simp only [credit]
  rw [Nat.add_mul, Nat.mul_comm ((d * 100000 + a.rawRes) / k.kc) k.kc]
  omega

/-- R115: the gross sum keeps its residue. -/
theorem credit_gross (a : Accumulators) (k : CreditInputs) (d e : Nat) :
    (credit a k d e).gross * 10000 + (credit a k d e).grossRes =
      a.gross * 10000 + a.grossRes +
        ((d * 100000 + a.rawRes) / k.kc) * meterFactor k.curve (flowRate ((d * 100000 + a.rawRes) / k.kc) e) := by
  simp only [credit]
  omega

theorem inner_addRate (s : State) (i : SpotId) (q : Nat) (h : s.isActive i = true) : Inside s (s.addRate i q) := by
  unfold State.addRate
  simp only
  refine Inside.trans (inner_modSpot s i (fun x => { x with window := x.window.add q }) rfl rfl) ?_
  split
  · exact inner_enterLiquidClosing _ _ (by rw [isActive_modSpot _ _ _ (by rfl)]; exact h)
  · exact .refl _

theorem inner_excessTest (s : State) (i : SpotId) : Inside s (s.excessTest i) := by
  unfold State.excessTest
  split
  · exact .refl s
  · simp only
    split
    · exact (inner_modSpot s i (fun x => { x with excessSeen := true }) rfl rfl).trans (inner_changeCauses _ _ _)
    · exact .refl s

theorem inner_handOff (s : State) (i : SpotId) (q before : Nat) : Inside s (s.handOff i q before) := by
  unfold State.handOff
  simp only
  have h1 : Inside s (if (s.spot i).state = .unloading then s.addRate i q else s) := by
    split
    · next h => exact inner_addRate _ _ _ (by simp [State.isActive, h, SpotState.active])
    · exact .refl s
  generalize (if (s.spot i).state = .unloading then s.addRate i q else s) = t at *
  refine h1.trans ((inner_excessTest t i).trans ?_)
  split
  · exact inner_standingReport _ _
  · exact .refl _

theorem inner_suspectMeter (s : State) (i : SpotId) : Inside s (s.suspectMeter i) := by
  unfold State.suspectMeter
  split
  all_goals first | exact inner_changeCauses _ _ _ | exact .refl s

theorem inner_rejectSample (s : State) (i : SpotId) (d : Nat) : Inside s (s.rejectSample i d) := by
  unfold State.rejectSample
  simp only
  split
  · exact (inner_context s i (fun x =>
      { x with acc := { x.acc with rejected := Nat.min (x.acc.rejected + d) Config.max64 } }) rfl id id).trans
      (inner_suspectMeter _ _)
  · exact inner_suspectMeter _ _

/-- The Kc of a credit is the meter constant of the spot's record (R42, R111). -/
theorem creditInputs_kc {s : State} {i : SpotId} {k : CreditInputs} (h : s.creditInputs i = some k) :
    k.kc = s.recordField i (·.kc) := by
  unfold State.creditInputs at h
  split at h
  · next r b e hr _ _ =>
    split at h
    · split at h
      · cases h
        simp [State.recordField, hr]
      · cases h
    · cases h
  · cases h

theorem inner_creditSample (s : State) (i : SpotId) (d e : Nat) : Inside s (s.creditSample i d e) := by
  unfold State.creditSample
  split
  · exact .refl s
  · next k hk =>
    simp only
    split
    · refine Inside.trans (inner_context s i (fun x => { x with acc := credit (s.spot i).acc k d e }) rfl id
        (fun h => ?_)) (inner_handOff _ _ _ _)
      have hr := credit_raw (s.spot i).acc k d e
      simp only [Conserved] at h
      rw [creditInputs_kc hk] at hr
      simp only at hr ⊢
      rw [hr, h]
      simp only [credit]
      omega
    · exact inner_rejectSample _ _ _

theorem inner_addUnassigned (s : State) (i : SpotId) (d : Nat) : Inside s (s.addUnassigned i d) :=
  inner_modSpot _ _ _ rfl rfl

theorem inner_disposeSample (s : State) (i : SpotId) (d e : Nat) : Inside s (s.disposeSample i d e) := by
  unfold State.disposeSample
  split
  · split
    · exact inner_rejectSample _ _ _
    · split
      · exact inner_creditSample _ _ _ _
      · exact inner_addUnassigned _ _ _
  · exact inner_addUnassigned _ _ _

theorem inner_setBaseline (s : State) (idx : Nat) (b : Baseline) : Inside s (s.setBaseline idx b) := by
  unfold State.setBaseline
  split
  · next e he =>
    split
    · next d hd =>
      refine inner_setBody s idx _ fun x hx => ?_
      rw [he] at hx; cases hx
      simp [entryShape, MapEntry.image, hd]
    · exact .refl s
  · exact .refl s

theorem inner_meterSample (s : State) (idx : Nat) (i : SpotId) (n t : Word16) : Inside s (s.meterSample idx i n t) := by
  unfold State.meterSample
  split
  · exact inner_setBaseline _ _ _
  · simp only
    split
    · exact .refl s
    · exact (inner_setBaseline _ _ _).trans (inner_disposeSample _ _ _ _)

/-! ## Owners told of freshness and staleness -/

theorem inner_freshSpot (s : State) (i : SpotId) : Inside s (s.freshSpot i) := by
  unfold State.freshSpot
  split
  · exact .refl s
  · exact inner_changeCauses _ _ _

theorem inner_tellFresh (s : State) (r : Role) (l : List SpotId) : Inside s (s.tellFresh r l) := by
  unfold State.tellFresh
  split
  all_goals first | exact Inside.foldl _ inner_freshSpot _ _ | exact .refl s

theorem inner_tankReport (s : State) (i : SpotId) : Inside s (s.tankReport i) := inner_changeCauses _ _ _

/-! ## Expiries -/

theorem inner_travelExpired (s : State) (i : SpotId) : Inside s (s.travelExpired i) := by
  unfold State.travelExpired
  split
  · exact (inner_faultSpot _ _ _).trans (inner_endScan _)
  · exact .refl s

theorem inner_pressuriseExpired (s : State) (i : SpotId) : Inside s (s.pressuriseExpired i) := by
  unfold State.pressuriseExpired
  split
  · exact (inner_faultSpot _ _ _).trans (inner_endScan _)
  · exact .refl s

theorem inner_suspendExpired (s : State) (i : SpotId) : Inside s (s.suspendExpired i) := by
  unfold State.suspendExpired
  simp only
  split
  · refine Inside.trans (inner_modSpot s i (fun x => { x with suspendTimer := none }) rfl rfl) ?_
    exact (((inner_handDemand _ _ _).trans (inner_setNoCompressor _ _ _)).trans (inner_causeTest _ _)).trans
      (inner_endScan _)
  · exact .refl s

theorem inner_passExpired (s : State) (i : SpotId) : Inside s (s.passExpired i) := by
  unfold State.passExpired
  simp only
  split
  · exact (inner_endPass _ _).trans (inner_endScan _)
  · exact .refl s

theorem inner_settleExpired (s : State) (i : SpotId) : Inside s (s.settleExpired i) := by
  unfold State.settleExpired
  simp only
  split
  · next h =>
    simp only [Bool.and_eq_true, decide_eq_true_eq] at h
    exact (inner_settleTest _ _ (by simp [State.isActive, h.2, SpotState.active])).trans (inner_endScan _)
  · exact .refl s

theorem inner_confirmationExpired (s : State) (c : CompId) : Inside s (s.confirmationExpired c) := by
  unfold State.confirmationExpired
  split
  · exact (inner_enterUnavailable _ _).trans (inner_endScan _)
  · exact .refl s

theorem inner_popdownDue (s : State) (c : CompId) : Inside s (s.popdownDue c) := by
  unfold State.popdownDue
  split
  · exact inner_popdownExpired _ _
  · exact .refl s

theorem inner_startAged (s : State) (c : CompId) : Inside s (s.startAged c) := by
  unfold State.startAged
  split
  · exact (inner_removeStart _ _).trans (inner_endScan _)
  · exact .refl s

theorem inner_refreshExpired (s : State) (idx : Nat) : Inside s (s.refreshExpired idx) := by
  unfold State.refreshExpired
  split
  · exact .refl s
  · split
    · exact .refl s
    · split
      · split
        · exact inner_offerCommand _ _ _
        · exact .refl s
      · exact .refl s

end Sys2Proof.Machine
end

