-- ==== Sys2Proof/Laws/Turns.lean ====
section
/-! SUPPORT. Events that can trip the part: one relation, wider than `Inside` by what the Shutdown Unit does, kept by trip causes, samples
and staleness. -/

namespace Sys2Proof.Machine

/-- What an event inside the part can do, trip entry among it. -/
structure Turn (s t : State) : Prop where
  powered  : t.powered = s.powered
  uptime   : t.uptime = s.uptime
  table    : t.table = s.table
  groups   : t.groups = s.groups
  mgu      : t.mgu = s.mgu
  pending  : t.pending = s.pending
  silent   : t.sdu.ringSilent = s.sdu.ringSilent
  esd      : t.sdu.esdAsserted = s.sdu.esdAsserted
  straps   : t.pins = { s.pins with tripEnergised := t.pins.tripEnergised }
  port     : PortStep s.rpu t.rpu
  shapes   : Rising s.imap → shapes t.imap = shapes s.imap
  conserve : ∀ i, Conserved s i → Conserved t i
  bind     : (∀ i, BindOk s i) → ∀ i, BindOk t i
  cars     : t.manifest.map CarRecord.fixed = s.manifest.map CarRecord.fixed
  done     : ∀ (k : Nat) (c : CarRecord), s.manifest[k]? = some c → c.status = .done → t.manifest[k]? = some c
  active   : ∀ i, t.isActive i = true → s.isActive i = true
  line     : s.powered = true → LineOk s → LineOk t
  quiet    : Quiet s → Quiet t
  tripped  : s.sdu.device = .tripped → t.sdu.device = .tripped

theorem Inside.turn {s t : State} (h : Inside s t) : Turn s t where
  powered := h.powered
  uptime := h.uptime
  table := h.table
  groups := h.groups
  mgu := h.mgu
  pending := h.pending
  silent := by rw [h.sdu]
  esd := by rw [h.sdu]
  straps := by rw [h.pins]
  port := h.port
  shapes := h.shapes
  conserve := h.conserve
  bind := h.bind
  cars := h.cars
  done := h.done
  active := h.active
  line := fun _ l => by simpa [LineOk, h.pins, h.powered, h.sdu] using l
  quiet := fun q d i => by
    have := q (by rw [← h.sdu]; exact d) i
    cases e : t.isActive i
    · rfl
    · rw [h.active i e] at this; cases this
  tripped := fun d => by rw [h.sdu]; exact d

theorem Turn.refl (s : State) : Turn s s := (Inside.refl s).turn

theorem Turn.trans {a b c : State} (h : Turn a b) (k : Turn b c) : Turn a c where
  powered := k.powered.trans h.powered
  uptime := k.uptime.trans h.uptime
  table := k.table.trans h.table
  groups := k.groups.trans h.groups
  mgu := k.mgu.trans h.mgu
  pending := k.pending.trans h.pending
  silent := k.silent.trans h.silent
  esd := k.esd.trans h.esd
  straps := by rw [k.straps, h.straps]
  port := h.port.trans k.port
  shapes := fun r => (k.shapes (rising_of_shapes (h.shapes r) r)).trans (h.shapes r)
  conserve := fun i x => k.conserve i (h.conserve i x)
  bind := fun x => k.bind (h.bind x)
  cars := k.cars.trans h.cars
  done := fun n r x y => k.done n r (h.done n r x y) y
  active := fun i x => h.active i (k.active i x)
  line := fun p l => k.line (by rw [h.powered]; exact p) (h.line p l)
  quiet := fun q => k.quiet (h.quiet q)
  tripped := fun d => k.tripped (h.tripped d)

/-- A fold of events. -/
theorem Turn.foldl {α : Type} (f : State → α → State) (h : ∀ s a, Turn s (f s a)) (l : List α) (s : State) :
    Turn s (l.foldl f s) := by
  induction l generalizing s with
  | nil => exact .refl s
  | cons a l ih => exact (h s a).trans (ih _)

/-! ## Trip entry -/

theorem state_finishTransfer (s : State) (i : SpotId) (o : Ending) (st : SpotState) (b : Bool) :
    ((s.finishTransfer i o st b).spot i).state = st := by
  simp [State.finishTransfer, State.setState]

/-- A transfer that ends leaves the spot in the state given (R75). -/
theorem state_endTransfer (s : State) (i : SpotId) (o : Ending) (st : SpotState) (b : Bool) :
    ((s.endTransfer i o st b).spot i).state = st := by
  unfold State.endTransfer
  split
  · rw [(aside_transferEndNotice _ _ _ _).state, (aside_announce _ _).state, state_finishTransfer]
  · rw [(aside_announce _ _).state, state_finishTransfer]

/-- After a fault the spot is not active (R80). -/
theorem faultSpot_inactive (s : State) (i : SpotId) (o : Ending) : (s.faultSpot i o).isActive i = false := by
  unfold State.faultSpot
  split
  · simp [State.isActive, state_endTransfer, SpotState.active]
  · next h => simpa using h

/-- A fold that puts each spot of a list out of the active states and starts none. -/
theorem foldl_inactive (f : State → SpotId → State) (hf : ∀ s i, Inside s (f s i))
    (h : ∀ s i, (f s i).isActive i = false) (l : List SpotId) (s : State) (i : SpotId) (hi : i ∈ l) :
    (l.foldl f s).isActive i = false := by
  induction l generalizing s with
  | nil => cases hi
  | cons a l ih =>
    simp only [List.foldl_cons]
    by_cases e : i ∈ l
    · exact ih _ e
    · have ha : i = a := by simpa [e] using hi
      subst ha
      have k := (Inside.foldl f hf l (f s i)).active i
      cases x : (List.foldl f (f s i) l).isActive i
      · rfl
      · have := h s i
        rw [k x] at this; cases this

theorem mem_allSpots (i : SpotId) : i ∈ allSpots := by revert i; decide

/-- After the trip no spot is active (R86). -/
theorem tripSpots_quiet (s : State) (i : SpotId) : s.tripSpots.isActive i = false :=
  foldl_inactive _ (fun _ _ => inner_faultSpot _ _ _) (fun _ _ => faultSpot_inactive _ _ _) _ _ _ (mem_allSpots i)

/-- The step of trip entry that the Shutdown Unit makes by itself: device state, cause set, entry uptime, line (R175). -/
def State.tripMark (s : State) (added : TripCauses) : State :=
  { s with
    sdu := { s.sdu with device := .tripped, entryUptime := s.uptime, causes := s.sdu.causes.union added }
    pins := { s.pins with tripEnergised := false } }

theorem tripEntry_eq (s : State) (added : TripCauses) :
    s.tripEntry added = (((s.tripMark added).tripNotice added).tripSpots.tripComps.forceAllSafe) := rfl

/-- What follows the Shutdown Unit's own step of trip entry stays inside. -/
theorem inner_tripHandOffs (s : State) (added : TripCauses) :
    Inside s ((s.tripNotice added).tripSpots.tripComps.forceAllSafe) :=
  (((inner_tripNotice _ _).trans (inner_tripSpots _)).trans (inner_tripComps _)).trans (inner_forceAllSafe _)

/-- After trip entry no spot is active (R86, R175). -/
theorem tripEntry_quiet (s : State) (added : TripCauses) (i : SpotId) : (s.tripEntry added).isActive i = false := by
  rw [tripEntry_eq]
  have h := ((inner_tripComps ((s.tripMark added).tripNotice added).tripSpots).trans (inner_forceAllSafe _)).active i
  cases e : (((s.tripMark added).tripNotice added).tripSpots.tripComps.forceAllSafe).isActive i
  · rfl
  · have := h e
    rw [tripSpots_quiet] at this; cases this

theorem turn_tripEntry (s : State) (added : TripCauses) : Turn s (s.tripEntry added) := by
  have h := inner_tripHandOffs (s.tripMark added) added
  rw [← tripEntry_eq] at h
  have hd : (s.tripEntry added).sdu.device = .tripped := by rw [h.sdu]; rfl
  exact
    { powered := h.powered
      uptime := h.uptime
      table := h.table
      groups := h.groups
      mgu := h.mgu
      pending := h.pending
      silent := by rw [h.sdu]; rfl
      esd := by rw [h.sdu]; rfl
      straps := by rw [h.pins]; rfl
      port := h.port
      shapes := h.shapes
      conserve := h.conserve
      bind := h.bind
      cars := h.cars
      done := h.done
      active := h.active
      line := fun _ _ => by rw [LineOk, hd, h.pins]; simp [State.tripMark]
      quiet := fun _ _ i => tripEntry_quiet s added i
      tripped := fun _ => hd }

theorem turn_addTripCause (s : State) (added : TripCauses) : Turn s (s.addTripCause added) := by
  unfold State.addTripCause
  split
  · exact turn_tripEntry _ _
  · next hd =>
    exact
      { powered := rfl
        uptime := rfl
        table := rfl
        groups := rfl
        mgu := rfl
        pending := rfl
        silent := rfl
        esd := rfl
        straps := rfl
        port := .refl _
        shapes := fun _ => rfl
        conserve := fun _ h => h
        bind := fun h => h
        cars := rfl
        done := fun _ _ h _ => h
        active := fun _ h => h
        line := fun _ l => l
        quiet := fun q => q
        tripped := fun d => d }

/-- After a cause is added the part is TRIPPED and the set holds it (R171, R175). -/
theorem addTripCause_tripped (s : State) (added : TripCauses) :
    (s.addTripCause added).sdu.device = .tripped ∧
      (s.addTripCause added).sdu.causes = s.sdu.causes.union added := by
  unfold State.addTripCause
  split
  · have h := inner_tripHandOffs (s.tripMark added) added
    rw [tripEntry_eq, h.sdu]
    exact ⟨rfl, rfl⟩
  · next hd => exact ⟨hd, rfl⟩

/-! ## Samples and staleness -/

theorem turn_deliver (s : State) (idx : Nat) (e : MapEntry) (l : List SpotId) (v : Value) :
    Turn s (s.deliver idx e l v) := by
  unfold State.deliver
  split
  · exact (Inside.foldl _ (fun _ _ => inner_meterSample _ _ _ _ _) _ _).turn
  · exact .refl s
  · split
    · exact (Inside.foldl _ (fun _ _ => inner_deliverCarPressure _ _ _) _ _).turn
    · exact (Inside.foldl _ (fun _ _ => inner_deliverTankPressure _ _) _ _).turn
  · exact (Inside.foldl _ (fun _ _ => inner_deliverPosition _ _ _ _) _ _).turn
  · exact (Inside.foldl _ (fun _ _ => inner_deliverTag _ _ _) _ _).turn
  · split
    · exact (inner_stateReport _ _ _).turn
    · exact .refl s
  · split
    · exact (Inside.foldl _ (fun _ _ => inner_connectionReport _ _ _ _) _ _).turn
    · exact (Inside.foldl _ (fun _ _ => inner_connectionReport _ _ _ _) _ _).turn
    · exact (Inside.foldl _ (fun _ _ => inner_connectionReport _ _ _ _) _ _).turn
    · exact (Inside.foldl _ (fun _ _ => inner_tankReport _ _) _ _).turn
    · split
      · exact turn_addTripCause _ _
      · exact .refl s
    · exact .refl s

/-- An input body replaced by an input body. -/
theorem inner_setInput (s : State) (idx : Nat) (e : MapEntry) (d : Dynamic) (d' : Dynamic)
    (h : entryAt s.imap idx = some e) (hb : e.body = .input d) : Inside s (s.setBody idx (.input d')) := by
  refine inner_setBody s idx _ fun x hx => ?_
  rw [h] at hx; cases hx
  simp [entryShape, MapEntry.image, hb]

theorem turn_acceptSample (s : State) (idx : Nat) (e : MapEntry) (d : Dynamic) (q : Byte) (v : Value)
    (h : entryAt s.imap idx = some e) (hb : e.body = .input d) : Turn s (s.acceptSample idx e d q v) := by
  unfold State.acceptSample
  simp only
  refine Turn.trans ?_ (turn_deliver _ _ _ _ _)
  refine (inner_setInput s idx e d (acceptInto d e.role q v s.uptime) h hb).turn.trans ?_
  generalize s.setBody idx (.input (acceptInto d e.role q v s.uptime)) = t
  refine Turn.trans (inner_reevaluateAll t (concernedSpots t e.role e.owner)).turn ?_
  split
  · exact (inner_tellFresh _ _ _).turn
  · exact .refl _

/-- In a rising map the entry found by its key is the entry at its index. -/
theorem entryAt_of_mem {m : List (Nat × MapEntry)} (hr : Rising m) {k : Nat} {e : MapEntry} (h : (k, e) ∈ m) :
    entryAt m k = some e := by
  induction m with
  | nil => cases h
  | cons p m ih =>
    obtain ⟨j, x⟩ := p
    simp only [Rising, List.map_cons, List.pairwise_cons] at hr
    simp only [entryAt]
    rcases List.mem_cons.mp h with e1 | e1
    · cases e1; simp
    · have : j < k := hr.1 k (List.mem_map.mpr ⟨(k, e), e1, rfl⟩)
      rw [if_neg (by omega)]
      exact ih hr.2 e1

/-- The entry at an index stands in the map. -/
theorem mem_of_entryAt {m : List (Nat × MapEntry)} {k : Nat} {e : MapEntry} (h : entryAt m k = some e) : (k, e) ∈ m := by
  induction m with
  | nil => cases h
  | cons p m ih =>
    obtain ⟨j, x⟩ := p
    simp only [entryAt] at h
    split at h
    · rename_i hj
      cases h
      exact hj ▸ .head _
    · exact .tail _ (ih h)

theorem entryAt_of_findKey {m : List (Nat × MapEntry)} (hr : Rising m) {n c : Byte} {p : Nat × MapEntry}
    (h : findKey m n c = some p) : entryAt m p.1 = some p.2 :=
  entryAt_of_mem hr (List.mem_of_find?_eq_some h)

theorem entryAt_of_findRole {m : List (Nat × MapEntry)} (hr : Rising m) {r : Role} {o : Nat} {p : Nat × MapEntry}
    (h : findRole m r o = some p) : entryAt m p.1 = some p.2 :=
  entryAt_of_mem hr (List.mem_of_find?_eq_some h)

theorem turn_offerSample (s : State) (f : Frame) (hr : Rising s.imap) : Turn s (s.offerSample f) := by
  unfold State.offerSample
  split
  · exact .refl s
  · split
    · exact .refl s
    · split
      · exact .refl s
      · next hk =>
        split
        · exact .refl s
        · next hb =>
          split
          · split
            · exact (turn_acceptSample _ _ _ _ _ _ (entryAt_of_findKey hr hk) hb).trans (inner_endScan _).turn
            · exact .refl s
          · exact .refl s

theorem turn_tellStale (s : State) (r : Role) (o : Nat) (l : List SpotId) : Turn s (s.tellStale r o l) := by
  unfold State.tellStale
  split
  all_goals first
    | exact (Inside.foldl _ (fun _ _ => inner_connectionLost _ _ _) _ _).turn
    | exact (Inside.foldl _ (fun _ _ => inner_changeCauses _ _ _) _ _).turn
    | exact turn_addTripCause _ _
    | exact .refl s
    | skip
  split
  · exact (inner_checkUsable _ _).turn
  · exact .refl s

theorem turn_stalenessExpiry (s : State) (idx : Nat) : Turn s (s.stalenessExpiry idx) := by
  unfold State.stalenessExpiry
  split
  · exact .refl s
  · next e he =>
    split
    · exact .refl s
    · next d hb =>
      split
      · unfold State.goStale
        simp only
        refine (inner_setInput s idx e d { d with stale := true } he hb).turn.trans ?_
        exact ((turn_tellStale _ _ _ _).trans (inner_reevaluateAll _ _).turn).trans (inner_endScan _).turn
      · exact .refl s

end Sys2Proof.Machine
end

