-- ==== Sys2Proof/Laws/Requests.lean ====
section
/-! SUPPORT. What carrying out a request does around the request's own effect (R182, R183), and how a step reaches a command. -/

namespace Sys2Proof.Machine

/-- A step takes the front command and carries it out on the state with the queue's rest. -/
@[simp] theorem step_cons (s : State) (c : Instr) (l : List Instr) :
    step { s with pending := c :: l } = exec c { s with pending := l } := rfl

/-- On an empty queue the block idles. -/
theorem step_nil (s : State) (h : s.pending = []) : step s = .next s := by
  unfold step; rw [h]

/-- A powered part carries the command out. -/
theorem whenPowered_on (s : State) (f : State → State) (h : s.powered = true) : s.whenPowered f = .next (f s) := by
  simp [State.whenPowered, h]

/-- A part without supply leaves everything as it stands (R170). -/
theorem whenPowered_off (s : State) (f : State → State) (h : s.powered = false) : s.whenPowered f = .next s := by
  simp [State.whenPowered, h]

/-- The request the unit holds is carried out and answered. -/
theorem request_held (s : State) (code : Byte) (f : List Byte → State → State × Reply) (q : Request) (args : List Byte)
    (hp : s.powered = true) (hq : s.mgu.held = some q) (hb : q.body = code :: args) :
    s.request code f = .next ((f args s).1.answer q (f args s).2) := by
  simp [State.request, State.whenPowered, hp, State.serve, hq, hb]

/-- The event of a request does not fall while no request is held. -/
theorem request_none (s : State) (code : Byte) (f : List Byte → State → State × Reply) (hq : s.mgu.held = none) :
    s.request code f = .next s := by
  simp [State.request, State.whenPowered, State.serve, hq]

/-- What the unit's next taking writes: the Management Unit and the ring port's two queues. -/
theorem takeRequest_eq (s : State) : ∃ m p q, s.takeRequest =
    { s with mgu := { s.mgu with held := m }, rpu := { s.rpu with requests := p, messages := q } } := by
  unfold State.takeRequest
  split
  · split
    · exact ⟨_, _, _, rfl⟩
    · exact ⟨s.mgu.held, s.rpu.requests, s.rpu.messages, rfl⟩
  · exact ⟨s.mgu.held, s.rpu.requests, s.rpu.messages, rfl⟩

/-- What answering writes: the request held and the ring port. -/
theorem answer_eq (s : State) (q : Request) (p : Reply) :
    ∃ m r, s.answer q p = { s with mgu := { s.mgu with held := m }, rpu := r } := by
  unfold State.answer
  obtain ⟨m, a, b, h⟩ := takeRequest_eq
    { s with
      mgu := { s.mgu with held := none }
      rpu := kick { s.rpu with messages := fillReservation (replyMessage q p) s.rpu.messages } }
  rw [h]
  exact ⟨_, _, rfl⟩

/-- Answering changes nothing outside the Management Unit and the ring port. -/
theorem answer_same (s : State) (q : Request) (p : Reply) : SameParts s (s.answer q p) := by
  obtain ⟨m, r, h⟩ := answer_eq s q p
  rw [h]
  exact ⟨rfl, rfl, rfl, rfl, rfl, rfl, rfl, rfl, rfl, rfl, rfl, rfl, rfl, rfl, rfl⟩

/-- The reply takes the place of the reservation (R9). -/
theorem reservations_fill (d t : Byte) (b : List Byte) (l : List Message) :
    reservations (fillReservation (.reply d t b) l) = reservations l - 1 := by
  induction l with
  | nil => rfl
  | cons m l ih =>
    cases m <;> simp [fillReservation, ih]

theorem length_fill (m : Message) (l : List Message) : (fillReservation m l).length = l.length := by
  induction l with
  | nil => rfl
  | cons a l ih => cases a <;> simp [fillReservation, ih]

theorem reserved_takeRequest (s : State) (h : ReservedOk s) : ReservedOk s.takeRequest := by
  unfold State.takeRequest
  split
  · next hh _ =>
    split
    · simp only [ReservedOk, hh] at h ⊢
      simp at h ⊢
      exact h
    · exact h
  · exact h

theorem reserved_answer (s : State) (q : Request) (p : Reply) (h : ReservedOk s) (hq : s.mgu.held = some q) :
    ReservedOk (s.answer q p) := by
  unfold State.answer
  refine reserved_takeRequest _ ?_
  simp only [ReservedOk]
  rw [(kick_step _).reserved]
  simp only [replyMessage, reservations_fill]
  simp only [ReservedOk, hq] at h
  simp [h]

end Sys2Proof.Machine
end

