-- ==== Sys2Proof/WellFormed.lean ====
section
/-! DEFINITION. Which commands are well formed: each operand inside the numbering of 00_scope.md. -/

namespace Sys2Proof

/-- Spots are numbered 1 to 16 (00_scope.md, Numbering). -/
def spotNumberOk (n : Nat) : Bool := 1 ≤ n && n ≤ 16

/-- Compressors are numbered 1 to 4 (00_scope.md, Numbering). -/
def compressorNumberOk (n : Nat) : Bool := 1 ≤ n && n ≤ 4

/-- Map entries are numbered 0 to 255 (R17). -/
def indexOk (n : Nat) : Bool := n ≤ 255

/-- A command whose operands are inside their numbering. A frame and a strap reading are never ill formed:
any bytes may arrive (R2), and any strap value may be read (R1). -/
def Instr.wellFormed : Instr → Bool
  | .powerOn _ => true
  | .resetInput _ => true
  | .esdLineAsserted => true
  | .esdLineReleased => true
  | .frameArrival _ => true
  | .transmitComplete => true
  | .silenceExpiry => true
  | .stalenessExpiry i => indexOk i
  | .travelTimerExpiry n => spotNumberOk n
  | .pressuriseTimerExpiry n => spotNumberOk n
  | .suspendTimerExpiry n => spotNumberOk n
  | .passTimerExpiry n => spotNumberOk n
  | .settleTimerExpiry n => spotNumberOk n
  | .confirmationTimerExpiry n => compressorNumberOk n
  | .popdownTimerExpiry n => compressorNumberOk n
  | .startHistoryRemoval n => compressorNumberOk n
  | .refreshTimerExpiry i => indexOk i
  | .residencyTick => true
  | .readStatus => true
  | .readSpot => true
  | .readRecord => true
  | .readHistory => true
  | .readCompressor => true
  | .readChannel => true
  | .loadMapEntry => true
  | .loadSpot => true
  | .loadMeterCurve => true
  | .loadProductSegment => true
  | .loadCompressor => true
  | .addCar => true
  | .removeCar => true
  | .start => true
  | .suspend => true
  | .resume => true
  | .stop => true
  | .abort => true
  | .release => true
  | .clear => true
  | .setChannelMode => true
  | .ackChanges => true
  | .trip => true
  | .tripReset => true
  | .resetPart => true
  | .unknownRequest => true
  | .lossOfSupply => true
  | .resetInputRelease => true

end Sys2Proof
end

