-- ==== Sys2Proof/Tests/Slice0.lean ====
section
/-! SUPPORT. Small tests: well-formedness, the check word, worked figures of the spec, one step of each kind of command, and for
every statement with hypotheses a state and operands that meet them. -/

namespace Sys2Proof.Tests

open Sys2Proof.Machine

set_option maxRecDepth 20000
set_option Elab.async false

/-! ## Well-formedness and decoding -/

theorem test_wellFormed_index :
    (Instr.stalenessExpiry 255).wellFormed = true ∧ (Instr.stalenessExpiry 256).wellFormed = false ∧
    (Instr.refreshTimerExpiry 255).wellFormed = true ∧ (Instr.refreshTimerExpiry 256).wellFormed = false := by decide

theorem test_wellFormed_spot :
    (Instr.travelTimerExpiry 16).wellFormed = true ∧ (Instr.travelTimerExpiry 0).wellFormed = false ∧
    (Instr.pressuriseTimerExpiry 17).wellFormed = false ∧ (Instr.suspendTimerExpiry 17).wellFormed = false ∧
    (Instr.passTimerExpiry 0).wellFormed = false ∧ (Instr.settleTimerExpiry 17).wellFormed = false := by decide

theorem test_wellFormed_compressor :
    (Instr.popdownTimerExpiry 4).wellFormed = true ∧ (Instr.popdownTimerExpiry 5).wellFormed = false ∧
    (Instr.confirmationTimerExpiry 0).wellFormed = false ∧ (Instr.startHistoryRemoval 5).wellFormed = false := by decide

theorem test_no_word_spells_a_command : decodeTableWord 8 1 = none ∧ State.reset.withFetchWord 8 1 = State.reset :=
  ⟨rfl, rfl⟩

/-! ## The check word and the figures of the spec -/

/-- The check value of the CRC of R2, and the check word of the reset state's own notice. -/
theorem test_crc : crc16 [0x31, 0x32, 0x33, 0x34, 0x35, 0x36, 0x37, 0x38, 0x39] = 0x29B1 ∧
    frameValid resetNotice = true := by decide +kernel

/-- The falling curve of R114. -/
theorem test_meterFactor : meterFactor [⟨1200, 10020⟩, ⟨2400, 9980⟩] 1851 = 9999 ∧
    meterFactor [⟨1200, 10020⟩, ⟨2400, 9980⟩] 1200 = 10020 ∧
    meterFactor [⟨1200, 10020⟩, ⟨2400, 9980⟩] 2400 = 9980 := by decide +kernel

/-! ## States -/

/-- A powered part in RUN at uptime 100, with its port idle. -/
def run : State := { State.reset with
  pins := ⟨1, false, false, true⟩
  uptime := 100
  rpu := { Rpu.initial (some 1) with lastValid := 95 }
  sdu := ⟨.run, .empty, 0, false, false⟩ }

/-- The same part TRIPPED by REQUESTED. -/
def tripped : State := { run with
  pins := ⟨1, false, false, false⟩
  sdu := ⟨.tripped, { TripCauses.empty with requested := true }, 90, false, false⟩ }

/-- The part holds a request with a body. -/
def holding (s : State) (body : List Byte) : State := { s with
  mgu := { s.mgu with held := some ⟨200, 9, body⟩ }
  rpu := { s.rpu with messages := [.reservation] } }

theorem holds_holding (s : State) (code : Byte) (args : List Byte) (h : s.powered = true) :
    Holds (holding s (code :: args)) ⟨200, 9, code :: args⟩ code args :=
  ⟨h, rfl, rfl, by simp [holding]⟩

/-- The next state of an outcome. -/
def after (o : Host.Outcome State Fault Refusal) : State :=
  match o with
  | .next t => t
  | _ => State.reset

/-- Spot 1 in a context. -/
def withSpot (x : SpotContext) (s : State) : State := s.modSpot 0 (fun _ => x)

/-- A context in a state. -/
def inState (st : SpotState) : SpotContext := { SpotContext.initial with state := st }

def spotRec : SpotRecord :=
  ⟨true, 0, some 1, 1, 150, 100, 20, 300, 600, 30, 300, 60, 20, 4000, 1000, [⟨1200, 10020⟩, ⟨2400, 9980⟩]⟩

def compRec : CompRecord := ⟨120, 6, 30⟩

/-- A car with a status. -/
def car (st : CarStatus) : CarRecord := ⟨[0x41], 0, 5100, 20, 1700, 300, st, none⟩

/-- A fresh value accepted at 95 with sequence number 7. -/
def fresh (v : Option Value) : Sys2Proof.Machine.Dynamic := ⟨v, false, some 7, none, some 95, false⟩

/-- A fresh input entry accepted at 95 with a limit of 5 s, so that its expiry falls at 100. -/
def inp (node : Byte) (r : Role) (owner : Nat) (v : Option Value) : MapEntry := ⟨node, 0, r, owner, 5, .input (fresh v)⟩

/-- An output entry in DRIVE whose refresh is due. -/
def out (node : Byte) (r : Role) (owner : Nat) (safe latch : Command) : MapEntry :=
  ⟨node, 0, r, owner, 5, .output ⟨safe, .drive, latch, some 100⟩⟩

/-- The METER entry of spot 1 with a baseline. -/
def meterEntry : MapEntry := ⟨10, 0, .meter, 1, 5, .input ⟨none, false, some 7, some ⟨100, 1000⟩, some 95, false⟩⟩

/-- A whole map for spot 1, tank 1 and compressor 1. -/
def wholeMap : List (Nat × MapEntry) :=
  [(0, meterEntry), (1, inp 11 .tempLiq 1 (some (.temperature 150))), (2, inp 12 .pCar 1 (some (.pressure 450))),
   (3, inp 13 .liqPos 1 (some (.position .closed))), (4, inp 14 .vapPos 1 (some (.position .closed))),
   (5, inp 15 .bond 1 (some (.discrete .normal))), (6, inp 16 .pTank 1 (some (.pressure 300))),
   (7, out 17 .liqCmd 1 .closed .opened), (8, out 18 .vapCmd 1 .closed .opened),
   (9, out 19 .compRun 1 .stop .run), (10, out 20 .compDir 1 .fwd .fwd), (11, inp 21 .compState 1 (some (.compressor .stopped))),
   (12, inp 22 .gas 0 (some (.discrete .normal))), (13, inp 23 .tag 1 (some (.tag [0x41]))),
   (14, inp 24 .tankHigh 1 (some (.discrete .normal)))]

/-- RUN with the whole map, the records of spot 1 and compressor 1, and spot 1 in a context. -/
def site (x : SpotContext) (cars : List CarRecord) : State := withSpot x { run with
  imap := wholeMap
  table := run.table.set 0 (some spotRec)
  groups := Vector.replicate 4 (Vector.replicate 23 (some 100000))
  manifest := cars }

/-- Compressor 1 in a context. -/
def withComp (x : Compressor) (s : State) : State := s.modComp 0 (fun _ => x)

def compAt (l : Level) : Compressor := { Compressor.initial with record := some compRec, level := l }

/-- The port is busy with the frame of the reset state. -/
def busy (s : State) : State := { s with rpu := { s.rpu with sending := some resetNotice } }

/-- A frame with its check word. -/
def frame (dest source kind hops tag : Byte) (body : List Byte) : Frame :=
  sealFrame ⟨dest, source, kind, hops, tag, byte body.length, body, 0⟩

theorem rising_wholeMap : Rising wholeMap := by unfold Rising; decide

theorem rising_site (x : SpotContext) (cars : List CarRecord) : Rising (site x cars).imap := rising_wholeMap

/-- A transfer at spot 1 on compressor 1. -/
def unloading : State := withComp { compAt .push with attached := [0] }
  (site { inState .unloading with demand := .push, grant := .compressor 0 } [car (.bound 0)])

/-- Spot 1 PRESSURISING with the given car pressure against a tank at 300 kPa. -/
def pressurising (p : Int) : State :=
  let s := site { inState .pressurising with demand := .push, grant := .compressor 0, pressurise := some 100 } [car (.bound 0)]
  { s with imap := putEntry s.imap 2 (inp 12 .pCar 1 (some (.pressure p))) }

/-- A spot ready to start. -/
def ready : State := site (inState .ready) [car (.bound 0)]

/-- Spot 1 SUSPENDED from UNLOADING with a cause set, its timer due at 100, holding compressor 1. -/
def suspended (c : Causes) : State := withComp { compAt .idleRun with attached := [0] } (site
  { inState .suspended with saved := some .unloading, causes := c, demand := .hold, grant := .compressor 0,
                            suspendTimer := some 100 } [car (.bound 0)])

/-- Spot 1 COMPLETE with its arms as given. -/
def complete (liq vap : Bool) : State :=
  let s := site { inState .complete with unassigned := 5 } [car .done]
  { s with conditions := s.conditions.set 0 ⟨{ Conditions.allFalse with armLiq := liq, armVap := vap }, .allFalse⟩ }

/-- Spot 1 in RECOVERY with a sub-state, its timers due at 100, a number of passes and a car pressure. -/
def recovering (b : SubState) (n : Nat) (p : Int) : State :=
  let s := withComp { compAt .recover with attached := [0] } (site
    { inState .recovery with sub := some b, pass := some 100, settle := some 100, passCount := n, demand := .recover,
                             grant := .compressor 0 } [car (.bound 0)])
  { s with imap := putEntry s.imap 2 (inp 12 .pCar 1 (some (.pressure p))) }

/-- Spot 1 in a state with a travel timer due at 100 for a position. -/
def travelling (st : SpotState) (r : Role) (p : Position) : State := site
  { inState st with travel := some ⟨100, r, p⟩, pendingOutcome := some .delivered } [car (.bound 0)]

/-! ## Steps, power and lines -/

/-- The reset state is what POWER_ON with straps 1 gives (log 7). -/
theorem test_reset_is_power_on : exec (.powerOn 1) State.reset = .next State.reset :=
  congrArg Host.Outcome.next (show State.reset.powerOnState 1 = State.reset by decide +kernel)

theorem test_power_on_bad_address : (after (exec (.powerOn 255) run)).sdu.causes.badAddress = true ∧
    (after (exec (.powerOn 0) run)).rpu.address = none ∧
    (after (exec (.powerOn 254) run)).rpu.address = some 254 := by decide +kernel

theorem witness_StepRunsFrontCommand : run.pending = [] ∧ step run = .next run := ⟨rfl, rfl⟩

theorem witness_ResetAndSupplyAct :
    (run.pins.resetAsserted = false ∧ run.powered = true) ∧
    (∃ s : State, s.pins.resetAsserted = false ∧ s.powered = false) ∧
    (∃ s : State, s.pins.resetAsserted = true) ∧
    (startsAnew .residencyTick = false ∧ Instr.residencyTick ≠ .lossOfSupply ∧ Instr.residencyTick ≠ .esdLineAsserted ∧
      Instr.residencyTick ≠ .esdLineReleased ∧ Instr.residencyTick ≠ .resetInputRelease) :=
  ⟨by decide, ⟨{ run with powered := false }, by decide⟩, ⟨{ run with pins := ⟨1, false, true, true⟩ }, by decide⟩,
   by decide⟩

/-! ## Trip -/

theorem test_trip : (after (exec .trip (holding unloading [0x50]))).sdu.causes = causeRequested ∧
    ((after (exec .trip (holding unloading [0x50]))).spot 0).state = .faulted ∧
    ((after (exec .trip (holding unloading [0x50]))).comp 0).level = .stopping := by decide +kernel

theorem witness_CausesTripFromRun :
    (unloading.powered = true ∧ unloading.sdu.device = .run ∧ Rising unloading.imap ∧ unloading.isActive 0 = true ∧
      unloading.isActive 1 = false ∧ (unloading.comp 0).level.tripStops = true ∧
      (unloading.comp 1).level.tripStops = false) ∧
    (∃ f, (busy unloading).rpu.address = some 1 ∧ (busy unloading).rpu.sending = some f) ∧
    (unloading.rpu.silence = .live ∧ unloading.rpu.lastValid + 5 = unloading.uptime) ∧
    (∃ q, Holds (holding unloading [0x50]) q 0x50 [] ∧ (holding unloading [0x50]).sdu.device = .run) :=
  ⟨⟨by decide, by decide, rising_wholeMap, by decide +kernel, by decide +kernel, by decide +kernel, by decide +kernel⟩,
   ⟨_, rfl, rfl⟩, by decide, ⟨_, holds_holding _ _ _ rfl, by decide⟩⟩

theorem witness_CausesJoinWhileTripped :
    (tripped.powered = true ∧ tripped.sdu.device = .tripped ∧ tripped.rpu.silence = .live ∧
      tripped.rpu.lastValid + 5 ≤ tripped.uptime) ∧
    (∃ s : State, s.powered = true ∧ s.rpu.silence = .silent) ∧
    (∃ s : State, s.powered = true ∧ s.uptime + 1 = s.rpu.lastValid + 5) ∧
    (∃ q, Holds (holding tripped [0x50]) q 0x50 [] ∧ (holding tripped [0x50]).sdu.device = .tripped) :=
  ⟨by decide, ⟨{ run with rpu := { run.rpu with silence := .silent } }, by decide⟩,
   ⟨{ run with uptime := 99 }, by decide⟩, ⟨_, holds_holding _ _ _ rfl, by decide⟩⟩

/-- TRIPPED with a whole map and no live condition; the VAP_CMD image is in MONITOR. -/
def quietTrip : State := { tripped with
  imap := [(7, out 17 .liqCmd 1 .closed .opened), (8, ⟨18, 0, .vapCmd, 1, 5, .output ⟨.closed, .monitor, .closed, some 101⟩⟩),
           (10, out 20 .compDir 1 .fwd .fwd), (12, inp 22 .gas 0 (some (.discrete .normal)))] }

theorem test_trip_reset : (after (exec .tripReset (holding quietTrip [0x51]))).sdu.device = .run ∧
    (after (exec .tripReset (holding quietTrip [0x51]))).pins.tripEnergised = true ∧
    (after (exec .tripReset (holding run [0x51]))).sdu = run.sdu := by decide +kernel

theorem witness_TripResetReturnsToRun :
    (∃ q, Holds (holding quietTrip [0x51]) q 0x51 [] ∧ anyLive (holding quietTrip [0x51]) = false) ∧
    (quietTrip.sdu.device = .tripped ∧ Rising quietTrip.imap) ∧
    (∃ (f : Frame) (o o' : Output), (busy quietTrip).rpu.sending = some f ∧ (busy quietTrip).rpu.address = some 1 ∧
      entryAt quietTrip.imap 7 = some (out 17 .liqCmd 1 .closed .opened) ∧ o.direction = .drive ∧
      (out 17 .liqCmd 1 .closed .opened).body = .output o ∧ o.latch ≠ o.safe ∧
      entryAt quietTrip.imap 10 = some (out 20 .compDir 1 .fwd .fwd) ∧ o'.direction = .drive ∧
      (out 20 .compDir 1 .fwd .fwd).body = .output o' ∧ o'.latch = o'.safe) ∧
    (∃ s : State, s.sdu.device = .tripped ∧ anyLive s = true ∧ ∃ q, Holds (holding s [0x51]) q 0x51 []) ∧
    (∃ q, Holds (holding run [0x51]) q 0x51 [] ∧ (holding run [0x51]).sdu.device = .run) :=
  ⟨⟨_, holds_holding _ _ _ rfl, by decide +kernel⟩, ⟨by decide, by unfold Rising; decide⟩,
   ⟨resetNotice, ⟨.closed, .drive, .opened, some 100⟩, ⟨.fwd, .drive, .fwd, some 100⟩, by decide +kernel⟩,
   ⟨{ tripped with sdu := { tripped.sdu with esdAsserted := true } }, by decide, by decide +kernel, _,
     holds_holding _ _ _ rfl⟩,
   ⟨_, holds_holding _ _ _ rfl, by decide⟩⟩

theorem test_reset_part : ((after (exec .resetPart (holding unloading [0x52]))).spot 0).state = .vacant ∧
    ((after (exec .resetPart (holding unloading [0x52]))).comp 0).level = .unavailable ∧
    (after (exec .resetPart (holding unloading [0x52]))).sdu.causes = causeReset := by decide +kernel

/-- The part with compressor 1 UNAVAILABLE and RUN in its COMP_RUN latch. -/
def left : State := withComp (compAt .unavailable) (site (inState .vacant) [])

/-- R179: the latch ends at STOP. -/
theorem test_reset_part_latch : latchOf left .compRun 1 = some .run ∧
    latchOf (after (exec .resetPart (holding left [0x52]))) .compRun 1 = some .stop := by decide +kernel

theorem witness_ResetPartRestsThePart :
    (∃ q, Holds (holding unloading [0x52]) q 0x52 [] ∧ Rising (holding unloading [0x52]).imap) ∧
    (unloading.isActive 0 = true ∧ (unloading.compEntry .compRun 0).isSome = true) ∧
    (∃ p r, ((site (inState .identified) [car (.bound 0)]).spot 0).state = .identified ∧
      boundPosition (site (inState .identified) [car (.bound 0)]).manifest 0 = some p ∧
      recordAt (site (inState .identified) [car (.bound 0)]).manifest p = some r) :=
  ⟨⟨_, holds_holding _ _ _ rfl, rising_wholeMap⟩, by decide +kernel, ⟨1, car (.bound 0), by decide +kernel⟩⟩

/-! ## The ring port -/

theorem test_frame_forwarded : (after (exec (.frameArrival (frame 7 8 2 5 1 [1, 1])) (busy run))).rpu.forward =
    [frame 7 8 2 4 1 [1, 1]] := by decide +kernel

theorem witness_OwnFramesAreStripped :
    (∃ f : Frame, frameValid f = true ∧ run.rpu.address = some f.source) ∧
    (∃ f : Frame, frameValid f = true ∧ run.rpu.address = some 1 ∧ f.source ≠ 1 ∧ f.hops = 0) ∧
    (∃ (s : State) (f : Frame), s.powered = true ∧ frameValid f = true ∧ s.rpu.address = none) :=
  ⟨⟨frame 1 1 3 0 0 [], by decide +kernel⟩, ⟨frame 1 200 3 0 0 [], by decide +kernel⟩,
   ⟨{ run with rpu := Rpu.initial none }, frame 1 200 3 1 0 [], by decide +kernel⟩⟩

theorem witness_FramesAreForwarded :
    (∃ f : Frame, frameValid f = false) ∧
    (∃ f : Frame, frameValid f = true ∧ f.hops ≠ 0 ∧ run.rpu.address = some 1 ∧ f.source ≠ 1 ∧ f.kind ≠ 1 ∧
      (f.kind = 3 → f.dest ≠ 1)) ∧
    (∃ (s : State) (g : Frame), s.rpu.address = none ∧ s.rpu.forward.length = 5 ∧ s.rpu.sending = some g) ∧
    (run.rpu.forward = [] ∧ run.rpu.actuates = [] ∧ run.rpu.messages = [] ∧ run.rpu.sending = none) ∧
    (∃ s : State, s.rpu.forward.length = 6) ∧
    (∃ f g : Frame, frameValid f = true ∧ f.hops ≠ 0 ∧ (busy run).rpu.address = some 1 ∧ f.source ≠ 1 ∧ f.kind = 1 ∧
      (busy run).rpu.sending = some g ∧ Rising (busy run).imap) :=
  ⟨⟨{ frame 1 0 3 0 0 [] with check := 1 }, by decide +kernel⟩, ⟨frame 7 200 3 1 0 [], by decide +kernel⟩,
   ⟨{ run with rpu := { Rpu.initial none with forward := List.replicate 5 resetNotice, sending := some resetNotice } },
     resetNotice, by decide⟩,
   by decide, ⟨{ run with rpu := { run.rpu with forward := List.replicate 6 resetNotice } }, by decide⟩,
   ⟨frame 255 12 1 5 8 [0, 3, 1, 0xC2], resetNotice, by unfold Rising; decide +kernel⟩⟩

/-- The part with `n` requests waiting and a request held or not. -/
def waiting (n : Nat) (held : Option Request) : State := { run with
  rpu := { run.rpu with requests := List.replicate n ⟨200, 1, [1]⟩ }
  mgu := { run.mgu with held := held } }

theorem witness_ManageFramesAreTaken :
    (∃ f : Frame, frameValid f = true ∧ f.source ≠ 1 ∧ f.hops ≠ 0 ∧ f.kind = 3 ∧ f.dest = 1) ∧
    ((waiting 3 none).rpu.requests.length = 3 ∧ (waiting 3 none).mgu.held = none ∧
      (waiting 3 none).rpu.messages.length < 24 ∧ (waiting 3 none).rpu.address = some 1 ∧
      (waiting 3 none).powered = true) ∧
    (waiting 3 (some ⟨200, 1, [1]⟩)).mgu.held ≠ none ∧
    (∃ s : State, s.mgu.held = none ∧ s.rpu.messages.length = 24) ∧
    (waiting 4 none).rpu.requests.length = 4 :=
  ⟨⟨frame 1 200 3 1 0 [1, 1, 0], by decide +kernel⟩, by decide, by decide,
   ⟨{ run with rpu := { run.rpu with messages := List.replicate 24 (.notice 0 []) } }, by decide⟩, by decide⟩

/-- A busy port with frames to forward, a notice ready or not, and a run count. -/
def port (forward : List Frame) (messages : List Message) (n : Nat) : State :=
  busy { run with rpu := { run.rpu with forward := forward, messages := messages, runCount := n } }

theorem test_transmit_complete : (after (exec .transmitComplete (port [] [.notice 3 [1]] 0))).rpu.sending =
    some (frame 255 1 5 16 3 [1]) := by decide +kernel

theorem witness_ArbiterSharesThePort :
    (run.powered = true ∧ run.rpu.sending = none) ∧
    (∃ g f, (port [resetNotice] [.notice 0 []] 3).rpu.sending = some g ∧
      (port [resetNotice] [.notice 0 []] 3).rpu.address = some 1 ∧
      (port [resetNotice] [.notice 0 []] 3).rpu.forward = f :: [] ∧
      ownReady (port [resetNotice] [.notice 0 []] 3).rpu = true ∧ (port [resetNotice] [.notice 0 []] 3).rpu.runCount = 3) ∧
    ownReady (port [resetNotice] [] 3).rpu = false ∧
    (ownReady (port [] [.notice 0 []] 0).rpu = true ∧ (port [] [.notice 0 []] 0).rpu.forward = []) ∧
    (port [resetNotice] [.notice 0 []] 4).rpu.runCount = 4 ∧
    (ownReady (port [] [] 0).rpu = false ∧ (port [] [] 0).rpu.forward = []) ∧
    (∃ (s : State) (g : Frame), s.powered = true ∧ s.rpu.sending = some g ∧ s.rpu.address = none) :=
  ⟨by decide, ⟨resetNotice, resetNotice, by decide⟩, by decide, by decide, by decide, by decide,
   ⟨busy { run with rpu := Rpu.initial none }, resetNotice, by decide⟩⟩

/-! ## Samples and conditions -/

theorem test_sequence : sequenceOk (some 200) 71 = true ∧ sequenceOk (some 200) 72 = false ∧
    sequenceOk (some 200) 200 = false ∧ sequenceOk (some 200) 201 = true := by decide

/-- A P_CAR sample of 450 kPa from the instrument of the site. -/
def pressureSample (tag : Byte) : Frame := frame 255 12 1 5 tag [0, 3, 0x01, 0xC2]

theorem witness_SequenceTestPasses :
    (∃ x k e d, parseSample (pressureSample 7).body = some x ∧ x.channel.toNat ≤ 15 ∧
      findKey wholeMap (pressureSample 7).source x.channel = some (k, e) ∧ e.body = .input d ∧
      sequenceOk d.seq (pressureSample 7).tag = false) ∧
    (∃ (w : MapWrite) (d : Sys2Proof.Machine.Dynamic), newBody w = .input d) :=
  ⟨⟨⟨0, .pressure, .value (.pressure 450)⟩, 2, inp 12 .pCar 1 (some (.pressure 450)),
     ⟨some (.pressure 450), false, some 7, none, some 95, false⟩, by decide +kernel⟩,
   ⟨⟨10, 0, .pCar, 1, 5, 0⟩, ⟨none, false, none, none, none, true⟩, by decide⟩⟩

theorem witness_SamplesAreTested :
    (parseSample [0, 9, 1] = none ∧ parseSample [0, 3, 0] = none ∧ parseSample [0, 7, 2, 0x41] = none) ∧
    (parseSample [0, 2, 255, 156] = some ⟨0, .temperature, .value (.temperature (-100))⟩ ∧
      parseSample [0, 4, 4] = some ⟨0, .position, .invalid⟩ ∧ parseSample [0, 7, 0] = some ⟨0, .tag, .invalid⟩) ∧
    (∃ (chars : List Byte) (n : Byte), chars.length = n.toNat ∧ n.toNat = 11) ∧
    (∃ x, parseSample [16, 3, 0, 0] = some x ∧ 15 < x.channel.toNat) ∧
    (∃ x, parseSample [0, 3, 0, 0] = some x ∧ findKey wholeMap 9 x.channel = none ∧
      (∃ k e o, findKey wholeMap 17 x.channel = some (k, e) ∧ e.body = .output o) ∧
      (∃ k e, findKey wholeMap 11 x.channel = some (k, e) ∧ valueTest e.role x = none) ∧
      (∃ v, valueTest .pCar x = some v)) :=
  ⟨by decide, by decide, ⟨List.replicate 11 0x41, 11, by decide⟩, ⟨⟨16, .pressure, .value (.pressure 0)⟩, by decide⟩,
   ⟨⟨0, .pressure, .value (.pressure 0)⟩, by decide, by decide,
     ⟨7, out 17 .liqCmd 1 .closed .opened, ⟨.closed, .drive, .opened, some 100⟩, by decide +kernel⟩,
     ⟨1, inp 11 .tempLiq 1 (some (.temperature 150)), by decide +kernel⟩, ⟨.pressure 0, by decide⟩⟩⟩

/-- What a sample frame brings to a part at address 1: the index and entry it is accepted for, and the value. -/
def accepted (s : State) (f : Frame) : Option (Nat × MapEntry × Sys2Proof.Machine.Dynamic × Value) :=
  if s.powered = true ∧ frameValid f = true ∧ s.rpu.address = some 1 ∧ f.source ≠ 1 ∧ f.hops ≠ 0 ∧ f.kind = 1 then
    match parseSample f.body with
    | none => none
    | some x =>
      match findKey s.imap f.source x.channel with
      | none => none
      | some (k, e) =>
        match e.body, valueTest e.role x with
        | .input d, some v =>
          if x.channel.toNat ≤ 15 ∧ sequenceOk d.seq f.tag = true then some (k, e, d, v) else none
        | _, _ => none
  else none

theorem accepts_of {s : State} {f : Frame} {k : Nat} {e : MapEntry} {d : Sys2Proof.Machine.Dynamic} {v : Value}
    (hr : Rising s.imap) (h : accepted s f = some (k, e, d, v)) : Accepts s f k e d v := by
  unfold accepted at h
  split at h
  · rename_i h0
    split at h
    · exact absurd h (by simp)
    · rename_i x hx
      split at h
      · exact absurd h (by simp)
      · rename_i k' e' hk
        split at h
        · rename_i d' v' hb hv
          split at h
          · rename_i h1
            simp only [Option.some.injEq, Prod.mk.injEq] at h
            obtain ⟨rfl, rfl, rfl, rfl⟩ := h
            exact ⟨h0.1, h0.2.1, ⟨1, h0.2.2.1, h0.2.2.2.1⟩, h0.2.2.2.2.1, h0.2.2.2.2.2, ⟨x, hx, h1.1, hk, hv⟩, hb, h1.2, hr⟩
          · exact absurd h (by simp)
        · exact absurd h (by simp)
  · exact absurd h (by simp)

/-- The site's map with one car pressure. -/
def atPressure (p : Int) (s : State) : State := { s with imap := putEntry wholeMap 2 (inp 12 .pCar 1 (some (.pressure p))) }

theorem rising_atPressure (p : Int) (s : State) : Rising (atPressure p s).imap := by
  show [0, 1, 2, 3, 4, 5, 6, 7, 8, 9, 10, 11, 12, 13, 14].Pairwise (· < ·)
  decide

theorem witness_AcceptedSamplesAreStored :
    (∃ k e d v, Accepts (busy (site (inState .vacant) [])) (pressureSample 8) k e d v ∧ e.role ≠ .meter) ∧
    (∃ g, (busy (site (inState .vacant) [])).rpu.sending = some g ∧
      (busy (site (inState .vacant) [])).rpu.forward.length < 6) :=
  ⟨⟨2, inp 12 .pCar 1 (some (.pressure 450)), fresh (some (.pressure 450)), .pressure 450,
     accepts_of rising_wholeMap (by decide +kernel), by decide⟩, ⟨resetNotice, by decide +kernel⟩⟩

/-- The tag sample of car A. -/
def tagSample : Frame := frame 255 23 1 5 8 [0, 7, 1, 0x41]

theorem test_tag :
    ((after (exec (.frameArrival tagSample) (site (inState .vacant) [car .waiting]))).spot 0).state = .identified ∧
    ((after (exec (.frameArrival tagSample) (site (inState .vacant) []))).values 0).unknownTag = true := by decide +kernel

theorem witness_TagsBindCars :
    bindFirst [car .done, car .waiting] 0 [0x41] = some [car .done, car (.bound 0)] ∧
    (∃ e d, Accepts (site (inState .vacant) [car .waiting]) tagSample 13 e d (.tag [0x41]) ∧ e.role = .tag ∧
      spotId e.owner = some 0) ∧
    (∃ e d, Accepts ready tagSample 13 e d (.tag [0x41]) ∧ (ready.spot 0).state = .ready ∧
      ready.sameCar 0 [0x41] = true) ∧
    ({ ready with manifest := [{ car (.bound 0) with car := [0x42] }] } : State).sameCar 0 [0x41] = false ∧
    (∃ e d, Accepts unloading tagSample 13 e d (.tag [0x41]) ∧ unloading.isActive 0 = true ∧
      (0 : SpotId) ∉ unloading.waitList ∧ unloading.sameCar 0 [0x41] = true) ∧
    (∃ e d, Accepts (site (inState .faulted) []) tagSample 13 e d (.tag [0x41]) ∧
      ((site (inState .faulted) []).spot 0).state = .faulted) :=
  ⟨by decide +kernel,
   ⟨_, fresh (some (.tag [0x41])), accepts_of (e := inp 23 .tag 1 (some (.tag [0x41]))) rising_wholeMap (by decide +kernel),
     by decide +kernel⟩,
   ⟨_, fresh (some (.tag [0x41])), accepts_of (e := inp 23 .tag 1 (some (.tag [0x41]))) rising_wholeMap (by decide +kernel),
     by decide +kernel⟩,
   by decide +kernel,
   ⟨_, fresh (some (.tag [0x41])), accepts_of (e := inp 23 .tag 1 (some (.tag [0x41]))) rising_wholeMap (by decide +kernel),
     by decide +kernel⟩,
   ⟨_, fresh (some (.tag [0x41])), accepts_of (e := inp 23 .tag 1 (some (.tag [0x41]))) rising_wholeMap (by decide +kernel),
     by decide +kernel⟩⟩

/-- A sample of one discrete reading from a node of the site. -/
def discreteSample (node code : Byte) : Frame := frame 255 node 1 5 8 [0, 5, code]

theorem test_deliveries :
    ((after (exec (.frameArrival (discreteSample 15 2)) unloading)).spot 0).state = .faulted ∧
    ((after (exec (.frameArrival (discreteSample 24 2)) unloading)).spot 0).state = .suspended ∧
    (after (exec (.frameArrival (discreteSample 22 2)) unloading)).sdu.device = .tripped := by decide +kernel

theorem witness_bonds :
    (∃ e d, Accepts unloading (discreteSample 15 2) 5 e d (.discrete .abnormal) ∧ e.role = .bond ∧
      unloading.spotEntry e.role 0 = some (5, e) ∧ unloading.isActive 0 = true) ∧
    (∃ e d, Accepts unloading (discreteSample 15 1) 5 e d (.discrete .normal) ∧ unloading.spotEntry e.role 0 = some (5, e) ∧
      (0 : SpotId) ∉ unloading.waitList) ∧
    (∃ e d, Accepts ready (discreteSample 15 2) 5 e d (.discrete .abnormal) ∧ ready.spotEntry e.role 0 = some (5, e)) ∧
    (∃ e d, Accepts (complete false false) (discreteSample 15 1) 5 e d (.discrete .normal) ∧
      ((complete false false).spot 0).state = .complete) :=
  ⟨⟨_, fresh (some (.discrete .normal)), accepts_of (e := inp 15 .bond 1 (some (.discrete .normal))) rising_wholeMap
     (by decide +kernel), by decide +kernel⟩,
   ⟨_, fresh (some (.discrete .normal)), accepts_of (e := inp 15 .bond 1 (some (.discrete .normal))) rising_wholeMap
     (by decide +kernel), by decide +kernel⟩,
   ⟨_, fresh (some (.discrete .normal)), accepts_of (e := inp 15 .bond 1 (some (.discrete .normal))) rising_wholeMap
     (by decide +kernel), by decide +kernel⟩,
   ⟨_, fresh (some (.discrete .normal)), accepts_of (e := inp 15 .bond 1 (some (.discrete .normal))) rising_wholeMap
     (by decide +kernel), by decide +kernel⟩⟩

/-- A car pressure sample of two value bytes. -/
def carPressureSample (hi lo : Byte) : Frame := frame 255 12 1 5 8 [0, 3, hi, lo]

/-- The part accepts a car pressure for spot 1, which has an active transfer with its record BOUND. -/
def PressureComes (s : State) (hi lo : Byte) (p : Int) : Prop :=
  ∃ e d v, Accepts s (carPressureSample hi lo) 2 e d v ∧ clampValue v = .pressure p ∧ s.spotEntry .pCar 0 = some (2, e) ∧
    s.isActive 0 = true ∧ s.boundRecord 0 = some (car (.bound 0))

theorem witness_carPressures :
    (PressureComes unloading 0x06 0xA5 1701 ∧ PressureComes unloading 0x06 0xA4 1700 ∧
      PressureComes unloading 0x06 0x91 1681 ∧ (unloading.spot 0).causes.any = false) ∧
    (PressureComes (suspended { Causes.empty with pressureHigh := true }) 0x06 0x90 1680 ∧
      ((suspended { Causes.empty with pressureHigh := true }).spot 0).saved = some .unloading) ∧
    (PressureComes (recovering .pass 0 450) 0x01 0x2C 300 ∧ PressureComes (recovering .pass 0 450) 0x01 0x2D 301 ∧
      ((recovering .pass 0 450).spot 0).sub = some .pass ∧ (0 : SpotId) ∉ (recovering .pass 0 450).waitList) ∧
    (PressureComes (pressurising 400) 0x01 0xC2 450 ∧ PressureComes (pressurising 400) 0x01 0xC1 449 ∧
      (pressurising 400).tankPressure 0 = some 300 ∧ (0 : SpotId) ∉ (pressurising 400).waitList) := by
  refine ⟨⟨?_, ?_, ?_, by decide +kernel⟩, ⟨?_, by decide +kernel⟩, ⟨?_, ?_, by decide +kernel⟩,
    ⟨?_, ?_, by decide +kernel⟩⟩
  · exact ⟨inp 12 .pCar 1 (some (.pressure 450)), fresh (some (.pressure 450)), .pressure 1701,
      accepts_of rising_wholeMap (by decide +kernel), by decide +kernel⟩
  · exact ⟨inp 12 .pCar 1 (some (.pressure 450)), fresh (some (.pressure 450)), .pressure 1700,
      accepts_of rising_wholeMap (by decide +kernel), by decide +kernel⟩
  · exact ⟨inp 12 .pCar 1 (some (.pressure 450)), fresh (some (.pressure 450)), .pressure 1681,
      accepts_of rising_wholeMap (by decide +kernel), by decide +kernel⟩
  · exact ⟨inp 12 .pCar 1 (some (.pressure 450)), fresh (some (.pressure 450)), .pressure 1680,
      accepts_of rising_wholeMap (by decide +kernel), by decide +kernel⟩
  · exact ⟨inp 12 .pCar 1 (some (.pressure 450)), fresh (some (.pressure 450)), .pressure 300,
      accepts_of (rising_atPressure 450 run) (by decide +kernel), by decide +kernel⟩
  · exact ⟨inp 12 .pCar 1 (some (.pressure 450)), fresh (some (.pressure 450)), .pressure 301,
      accepts_of (rising_atPressure 450 run) (by decide +kernel), by decide +kernel⟩
  · exact ⟨inp 12 .pCar 1 (some (.pressure 400)), fresh (some (.pressure 400)), .pressure 450,
      accepts_of (rising_atPressure 400 run) (by decide +kernel), by decide +kernel⟩
  · exact ⟨inp 12 .pCar 1 (some (.pressure 400)), fresh (some (.pressure 400)), .pressure 449,
      accepts_of (rising_atPressure 400 run) (by decide +kernel), by decide +kernel⟩

/-- A meter sample of one pulse and 1 ms more than the baseline of the site, and a tank pressure sample. -/
def meterSample1 : Frame := frame 255 10 1 5 8 [0, 1, 0, 101, 3, 233]

def tankSample (hi lo : Byte) : Frame := frame 255 16 1 5 8 [0, 3, hi, lo]

theorem test_hand_over :
    ((after (exec (.frameArrival meterSample1) unloading)).spot 0).acc.credited = 1 ∧
    ((after (exec (.frameArrival (frame 255 14 1 5 8 [0, 4, 2])) (travelling .closing .vapPos .closed))).spot 0).state =
      .complete ∧
    ((after (exec (.frameArrival (tankSample 0x01 0x2C)) (pressurising 450))).spot 0).state = .unloading ∧
    ((after (exec (.frameArrival (tankSample 0x01 0x2D)) (pressurising 450))).spot 0).state = .pressurising := by
  decide +kernel

theorem witness_hand_over :
    (∃ e d, Accepts unloading meterSample1 0 e d (.count 101 1001) ∧ spotId e.owner = some 0) ∧
    (∃ e d, Accepts (travelling .closing .vapPos .closed) (frame 255 14 1 5 8 [0, 4, 2]) 4 e d (.position .closed) ∧
      spotId e.owner = some 0) ∧
    (∃ e d v, Accepts (pressurising 450) (tankSample 0x01 0x2C) 6 e d v ∧ clampValue v = .pressure 300 ∧ e.role = .pTank ∧
      (pressurising 450).tankEntry .pTank 0 = some (6, e) ∧ ((pressurising 450).spot 0).state = .pressurising ∧
      ((pressurising 450).spot 0).causes.any = false ∧ (0 : SpotId) ∉ (pressurising 450).waitList ∧
      (pressurising 450).carPressure 0 = some 450) :=
  ⟨⟨_, ⟨none, false, some 7, some ⟨100, 1000⟩, some 95, false⟩, accepts_of (e := meterEntry) rising_wholeMap
     (by decide +kernel), by decide +kernel⟩,
   ⟨_, fresh (some (.position .closed)), accepts_of (e := inp 14 .vapPos 1 (some (.position .closed))) rising_wholeMap
     (by decide +kernel), by decide +kernel⟩,
   ⟨_, fresh (some (.pressure 300)), .pressure 300, accepts_of (e := inp 16 .pTank 1 (some (.pressure 300)))
     (rising_atPressure 450 run) (by decide +kernel), by decide +kernel⟩⟩

/-- The clauses on bonds and arms, on the car pressure, and on meter, position and tank pressure have their witnesses in
`witness_bonds`, `witness_carPressures` and `witness_hand_over`. -/
theorem witness_DeliveriesReachTheirOwners :
    (∃ e d, Accepts unloading (discreteSample 24 2) 14 e d (.discrete .abnormal) ∧ e.role = .tankHigh ∧
      unloading.tankEntry .tankHigh 0 = some (14, e) ∧ unloading.isActive 0 = true ∧
      (unloading.spot 0).causes.any = false) ∧
    (∃ e d, Accepts (suspended { Causes.empty with tankHigh := true }) (discreteSample 24 1) 14 e d (.discrete .normal) ∧
      ((suspended { Causes.empty with tankHigh := true }).spot 0).saved = some .unloading) ∧
    (∃ e d, Accepts unloading (discreteSample 22 2) 12 e d (.discrete .abnormal) ∧ e.role = .gas ∧
      unloading.sdu.device = .run) ∧
    (∃ e d, Accepts { tripped with imap := wholeMap } (discreteSample 22 2) 12 e d (.discrete .abnormal) ∧
      tripped.sdu.device = .tripped) ∧
    (∃ e d, Accepts unloading (discreteSample 22 1) 12 e d (.discrete .normal)) ∧
    (∃ e d, Accepts unloading (frame 255 21 1 5 8 [0, 6, 1]) 11 e d (.compressor .stopped) ∧ e.role = .compState ∧
      compId e.owner = some 0) :=
  ⟨⟨_, fresh (some (.discrete .normal)), accepts_of (e := inp 24 .tankHigh 1 (some (.discrete .normal))) rising_wholeMap
     (by decide +kernel), by decide +kernel⟩,
   ⟨_, fresh (some (.discrete .normal)), accepts_of (e := inp 24 .tankHigh 1 (some (.discrete .normal))) rising_wholeMap
     (by decide +kernel), by decide +kernel⟩,
   ⟨_, fresh (some (.discrete .normal)), accepts_of (e := inp 22 .gas 0 (some (.discrete .normal))) rising_wholeMap
     (by decide +kernel), by decide +kernel⟩,
   ⟨_, fresh (some (.discrete .normal)), accepts_of (e := inp 22 .gas 0 (some (.discrete .normal))) rising_wholeMap
     (by decide +kernel), by decide +kernel⟩,
   ⟨_, fresh (some (.discrete .normal)), accepts_of (e := inp 22 .gas 0 (some (.discrete .normal))) rising_wholeMap
     (by decide +kernel)⟩,
   ⟨_, fresh (some (.compressor .stopped)), accepts_of (e := inp 21 .compState 1 (some (.compressor .stopped)))
     rising_wholeMap (by decide +kernel), by decide +kernel⟩⟩

theorem test_staleness : ((after (exec (.stalenessExpiry 5) unloading)).spot 0).state = .faulted ∧
    ((after (exec (.stalenessExpiry 0) unloading)).spot 0).state = .suspended ∧
    (after (exec (.stalenessExpiry 12) unloading)).sdu.causes.gas = true := by decide +kernel

theorem witness_StaleEntriesAreTold :
    (∃ e d u, entryAt unloading.imap 5 = some e ∧ e.body = .input d ∧ d.stale = false ∧ e.limit ≠ 0 ∧
      d.acceptedAt = some u ∧ u + e.limit = unloading.uptime ∧ spotId e.owner = some 0 ∧ unloading.isActive 0 = true ∧
      e.role = .bond) ∧
    (unloading.tankEntry .pTank 0 = some (6, inp 16 .pTank 1 (some (.pressure 300))) ∧
      unloading.tankEntry .tankHigh 0 = some (14, inp 24 .tankHigh 1 (some (.discrete .normal))) ∧
      (unloading.spot 0).causes.any = false ∧
      savedOf (unloading.spot 0).state (unloading.spot 0).sub = some .unloading) ∧
    unloading.compEntry .compState 0 = some (11, inp 21 .compState 1 (some (.compressor .stopped))) ∧
    entryAt unloading.imap 200 = none ∧
    (∃ e o, entryAt unloading.imap 7 = some e ∧ e.body = .output o) ∧
    (∃ (s : State) (e : MapEntry) (d : Sys2Proof.Machine.Dynamic) (u : Nat), s.powered = true ∧
      entryAt s.imap 5 = some e ∧ e.body = .input d ∧ d.acceptedAt = some u ∧ s.uptime + 1 = u + e.limit) :=
  ⟨⟨inp 15 .bond 1 (some (.discrete .normal)), ⟨some (.discrete .normal), false, some 7, none, some 95, false⟩, 95,
     by decide +kernel⟩,
   by decide +kernel, by decide +kernel, by decide +kernel,
   ⟨out 17 .liqCmd 1 .closed .opened, ⟨.closed, .drive, .opened, some 100⟩, by decide +kernel⟩,
   ⟨{ unloading with uptime := 99 }, inp 15 .bond 1 (some (.discrete .normal)),
     ⟨some (.discrete .normal), false, some 7, none, some 95, false⟩, 95, by decide +kernel⟩⟩

theorem test_ack_changes : (after (exec .ackChanges (holding
      { run with conditions := run.conditions.set 0 ⟨.allFalse, ⟨true, true, false, false, false, true⟩⟩ }
      [0x41, 1, 1]))).latches 0 = ⟨false, true, false, false, false, true⟩ := by decide +kernel

theorem witness_ChangesLatchUntilAcknowledged :
    (∃ q, Holds (holding run [0x41, 16, 63]) q 0x41 [16, 63] ∧ bitOf 63 6 = false ∧ bitOf 63 7 = false ∧
      spotId (16 : Byte).toNat = some 15) ∧
    (∃ q, Holds (holding run [0x41, 17, 64]) q 0x41 [17, 64] ∧ bitOf 64 6 = true) ∧
    (∃ q, Holds (holding run [0x41, 17, 63]) q 0x41 [17, 63] ∧ spotId (17 : Byte).toNat = none) :=
  ⟨⟨_, holds_holding _ _ _ rfl, by decide⟩, ⟨_, holds_holding _ _ _ rfl, by decide⟩,
   ⟨_, holds_holding _ _ _ rfl, by decide⟩⟩

/-! ## Metering -/

/-- Credit inputs of the site. -/
def inputs : CreditInputs :=
  ⟨4000, [⟨1200, 10020⟩, ⟨2400, 9980⟩], 150, false, Vector.replicate 23 (some 100000), 5100⟩

theorem test_credit : (credit .zero inputs 800 1000).raw = 20000 ∧ creditRate .zero 4000 800 1000 = 1200 ∧
    (credit .zero inputs 800 1000).gross = 20040 ∧ (credit .zero inputs 800 1000).mass = 10220 ∧
    (credit .zero inputs 800 1000).massRes = 4000 := by decide +kernel

/-- The transfer with its credited pulses at the end of their range. -/
def full : State := unloading.modSpot 0 (fun x => { x with acc := { x.acc with credited := 18446744073709551615 } })

/-- The transfer at 105% of the declared volume. -/
def laden : State := unloading.modSpot 0 (fun x => { x with acc := { x.acc with net := 21000 } })

theorem witness_MeterSamplesAreDisposed :
    (∃ e d, entryAt (site (inState .vacant) []).imap 2 = some e ∧ e.body = .input d ∧ d.baseline = none) ∧
    (∃ d b r, entryAt unloading.imap 0 = some meterEntry ∧ meterEntry.body = .input d ∧ d.baseline = some b ∧
      (1001 : Word16) ≠ b.time ∧ unloading.record 0 = some r ∧
      r.plausibility * ((1001 : Word16) - b.time).toNat / 1000 < ((102 : Word16) - b.count).toNat ∧
      ((101 : Word16) - b.count).toNat = r.plausibility * ((1001 : Word16) - b.time).toNat / 1000 ∧
      (unloading.spot 0).state.crediting = true) ∧
    ((site (inState .vacant) []).spot 0).state.crediting = false ∧
    (∃ c, unloading.creditInputs 0 = some c ∧ fits64 (credit (unloading.spot 0).acc c 1 1) = true) ∧
    (∃ c, full.creditInputs 0 = some c ∧ (full.spot 0).state.crediting = true ∧
      fits64 (credit (full.spot 0).acc c 1 1) = false) ∧
    (∃ c, laden.creditInputs 0 = some c ∧ (laden.spot 0).state.crediting = true ∧
      laden.boundRecord 0 = some (car (.bound 0)) ∧ (laden.spot 0).causes.excess = false ∧
      (laden.spot 0).excessAck = false ∧ (car (.bound 0)).declared * 1050 < (credit (laden.spot 0).acc c 1 1).net ∧
      fits64 (credit (laden.spot 0).acc c 1 1) = true) :=
  ⟨⟨inp 12 .pCar 1 (some (.pressure 450)), ⟨some (.pressure 450), false, some 7, none, some 95, false⟩,
     by decide +kernel⟩,
   ⟨⟨none, false, some 7, some ⟨100, 1000⟩, some 95, false⟩, ⟨100, 1000⟩, spotRec, by decide +kernel⟩,
   by decide +kernel, ⟨inputs, rfl, by decide +kernel⟩, ⟨inputs, rfl, by decide +kernel⟩, ⟨inputs, rfl, by decide +kernel⟩⟩

theorem test_excess : ((laden.meterSample 0 0 101 1001).spot 0).causes.excess = true ∧
    ((full.meterSample 0 0 101 1001).spot 0).acc.rejected = 1 ∧
    ((full.meterSample 0 0 101 1001).spot 0).causes.meterSuspect = true := by decide +kernel

theorem witness_CreditIsExact : 0 < inputs.kc := by decide

theorem witness_MassFollowsTheNetIncrement : unloading.creditInputs 0 = some inputs := rfl

theorem witness_MeterFactorReadsTheCurve :
    (∃ p : CurvePoint, 1200 ≤ p.rate) ∧
    (∃ (l : List CurvePoint) (p : CurvePoint), ratesRise (l ++ [p]) = true ∧ p.rate ≤ 2400) ∧
    (∃ (p p' : CurvePoint), ratesRise ([] ++ p :: p' :: []) = true ∧ p.rate ≤ 1200 ∧ 1200 < p'.rate) ∧
    (∃ l : List CurvePoint, l ≠ [] ∧ l.all pointOk = true ∧ ratesRise l = true) ∧
    unloading.creditInputs 0 = some inputs :=
  ⟨⟨⟨1200, 10020⟩, by decide⟩, ⟨[⟨1200, 10020⟩], ⟨2400, 9980⟩, by decide⟩, ⟨⟨1200, 10020⟩, ⟨2400, 9980⟩, by decide⟩,
   ⟨[⟨1200, 10020⟩, ⟨2400, 9980⟩], by decide⟩, rfl⟩

theorem witness_CorrectionReadsTheGroup :
    unloading.creditInputs 0 = some inputs ∧ (-500 : Int) ≤ -500 ∧ (600 : Int) ≤ 600 ∧
    ∃ g : Group, ∀ k, k < 23 → 90000 ≤ pointValue g k ∧ pointValue g k ≤ 115000 :=
  ⟨rfl, by decide, by decide, ⟨Vector.replicate 23 (some 90000), fun k h => by simp [pointValue, h]⟩⟩

/-! ## The sequence -/

theorem test_differential : (((pressurising 450).differentialTest 0).spot 0).state = .unloading ∧
    (((pressurising 449).differentialTest 0).spot 0).state = .pressurising := by decide +kernel

theorem witness_DifferentialOpensTheLiquidValve :
    (Rising (pressurising 450).imap ∧ (pressurising 450).carPressure 0 = some 450 ∧
      (pressurising 450).tankPressure 0 = some 300 ∧
      ((pressurising 450).recordField 0 (·.dpStart) : Int) = 450 - 300 ∧
      latchOf (pressurising 450) .liqCmd 1 = some .opened) ∧
    ((pressurising 449).carPressure 0 = some 449 ∧ (pressurising 449).tankPressure 0 = some 300 ∧
      449 - 300 < ((pressurising 449).recordField 0 (·.dpStart) : Int)) ∧
    run.carPressure 0 = none :=
  ⟨⟨by unfold Rising; decide +kernel, by decide +kernel⟩, by decide +kernel, by decide +kernel⟩

theorem test_positions :
    (((travelling .opening .vapPos .opened).deliverPosition 0 .vapPos .opened).spot 0).state = .suspended ∧
    (((travelling .closing .vapPos .closed).deliverPosition 0 .vapPos .closed).spot 0).state = .complete := by
  decide +kernel

theorem witness_AwaitedPositionsConfirm :
    (∃ u, ((travelling .opening .vapPos .opened).spot 0).travel = some ⟨u, .vapPos, .opened⟩ ∧
      ((travelling .opening .vapPos .opened).spot 0).state = .opening ∧
      ((travelling .unloading .liqPos .opened).spot 0).state = .unloading ∧
      ((travelling .liquidClosing .liqPos .closed).spot 0).state = .liquidClosing ∧
      ((travelling .closing .vapPos .closed).spot 0).state = .closing ∧
      ((travelling .closing .vapPos .closed).spot 0).pendingOutcome = some .delivered) ∧
    Rising (travelling .opening .vapPos .opened).imap ∧
    (unloading.spot 0).travel = none ∧
    (∃ x, ((travelling .opening .vapPos .opened).spot 0).travel = some x ∧ x.position ≠ .closed) :=
  ⟨⟨100, by decide +kernel⟩, rising_wholeMap, by decide +kernel, ⟨⟨100, .vapPos, .opened⟩, by decide +kernel⟩⟩

/-- Spot 1 UNLOADING with seven rates of 99 in its window and the valve confirmed or not. -/
def flowing (b : Bool) : State := unloading.modSpot 0 (fun x => { x with
  liquidConfirmed := b, window := ⟨(Vector.replicate 8 (some 99)).set 7 none, 7⟩ })

theorem witness_LiquidEndClosesTheValve :
    (Rising (flowing true).imap ∧ ((flowing true).spot 0).liquidConfirmed = true ∧
      (((flowing true).spot 0).window.add 100).below ((flowing true).recordField 0 (·.heelRate)) = true) ∧
    (((flowing true).spot 0).window.add 107).below ((flowing true).recordField 0 (·.heelRate)) = false ∧
    ((flowing false).spot 0).liquidConfirmed = false :=
  ⟨⟨rising_wholeMap, by decide +kernel⟩, by decide +kernel, by decide +kernel⟩

/-! ## Loads -/

theorem test_load_map : entryAt (after (exec .loadMapEntry (holding run [0x10, 255, 10, 15, 14, 16, 2, 88, 2]))).imap 255 =
    some ⟨10, 15, .liqCmd, 16, 600, .output ⟨.closed, .monitor, .closed, none⟩⟩ := by decide +kernel

theorem witness_MapWritesStoreTheEntry :
    (∃ q, Holds (holding run [0x10, 255, 10, 15, 14, 16, 2, 88, 2]) q 0x10 [255, 10, 15, 14, 16, 2, 88, 2] ∧
      roleOf 14 = some .liqCmd ∧ Rising run.imap ∧ Role.isOutput .liqCmd = true ∧
      writeInRange (some 1) ⟨10, 15, .liqCmd, 16, 600, 2⟩ = true ∧ run.entryInUse (entryAt run.imap 255) = false ∧
      run.ownerInUse .liqCmd 16 = false ∧ duplicates run.imap 255 ⟨10, 15, .liqCmd, 16, 600, 2⟩ = false) ∧
    (roleOf 3 = some .pCar ∧ Role.isOutput .pCar = false ∧ writeInRange (some 1) ⟨10, 15, .pCar, 16, 1, 0⟩ = true ∧
      run.ownerInUse .pCar 16 = false) ∧
    (roleOf 13 = some .gas ∧ writeInRange (some 1) ⟨10, 15, .gas, 0, 600, 0⟩ = true ∧ run.ownerInUse .gas 0 = false) :=
  ⟨⟨_, holds_holding _ _ _ rfl, by decide, by unfold Rising; decide, by decide +kernel⟩, by decide +kernel,
   by decide +kernel⟩

theorem test_remove_map : entryAt (after (exec .loadMapEntry (holding (site (inState .vacant) []) [0x10, 7]))).imap 7 =
    none := by decide +kernel

theorem witness_MapRemovalsClearTheIndex :
    (∃ q e, Holds (holding (site (inState .vacant) []) [0x10, 10]) q 0x10 [10] ∧
      Rising (holding (site (inState .vacant) []) [0x10, 10]).imap ∧
      entryAt (holding (site (inState .vacant) []) [0x10, 10]).imap 10 = some e ∧
      (holding (site (inState .vacant) []) [0x10, 10]).ownerInUse e.role e.owner = false ∧
      e.role.ownerKind = .compressor ∧ compId e.owner = some 0 ∧
      findRole (dropEntry (holding (site (inState .vacant) []) [0x10, 10]).imap 10) e.role e.owner = none) ∧
    (∃ q, Holds (holding run [0x10, 255]) q 0x10 [255] ∧ entryAt (holding run [0x10, 255]).imap 255 = none) :=
  ⟨⟨_, out 20 .compDir 1 .fwd .fwd, holds_holding _ _ _ rfl, rising_wholeMap, by decide +kernel⟩,
   ⟨_, holds_holding _ _ _ rfl, by decide⟩⟩

/-- The parameters of a LOAD_SPOT for spot 16, with defaults in the fields that have them. -/
def spotBody : List Byte :=
  [16, 1, 4, 255, 1, 255, 255, 0, 100, 20, 0, 100, 1, 44, 255, 0, 100, 0, 60, 20, 0, 0, 15, 160, 255, 255]

theorem test_load_spot : ((after (exec .loadSpot (holding run (0x11 :: spotBody)))).spot 15).state = .vacant ∧
    (after (exec .loadSpot (holding run (0x11 :: spotBody)))).recordField 15 (·.dpStart) = 150 := by decide +kernel

theorem witness_SpotLoadsReplaceTheRecord :
    (∃ q, Holds (holding run (0x11 :: spotBody)) q 0x11 spotBody) ∧ spotId (16 : Byte).toNat = some 15 ∧
    (∃ r, SpotFields.record ⟨1, (4 : Byte).toNat, (255 : Byte).toNat, (1 : Byte).toNat, num2 255 255, num2 0 100,
      (20 : Byte).toNat, num2 0 100, num2 1 44, (255 : Byte).toNat, num2 0 100, num2 0 60, (20 : Byte).toNat,
      num4 0 0 15 160, num2 255 255⟩ (run.keptCurve 15) = some r) ∧
    run.spotInUse 15 = false ∧ (∃ x : SpotContext, x.state = .vacant ∧ (0 : Byte) ≠ 1) :=
  ⟨⟨_, holds_holding _ _ _ rfl⟩, by decide,
   ⟨⟨true, 3, none, 1, 150, 100, 20, 100, 300, 30, 100, 60, 20, 4000, 65535, []⟩, by decide +kernel⟩, by decide +kernel,
   ⟨inState .vacant, by decide⟩⟩

/-- The bytes of a curve of one point at 100 L/min with factor 10000. -/
def curveBytes : List Byte := [0, 100, 39, 16]

theorem test_load_curve : ((after (exec .loadMeterCurve (holding (site (inState .vacant) [])
    (0x12 :: 1 :: 1 :: curveBytes)))).record 0).map (·.curve) = some [⟨100, 10000⟩] := by decide +kernel

theorem test_load_segment : (after (exec .loadProductSegment (holding run [0x13, 4, 22, 1, 0, 1, 95, 144]))).groups.get 3 =
    (Vector.replicate 23 none).set 22 (some 90000) := by decide +kernel

theorem witness_CurveAndSegmentLoadsWriteTheirPoints :
    (∃ q r, Holds (holding (site (inState .vacant) []) (0x12 :: 1 :: 1 :: curveBytes)) q 0x12 (1 :: 1 :: curveBytes) ∧
      pointsOf 1 curveBytes = some [⟨100, 10000⟩] ∧ List.all [⟨100, 10000⟩] pointOk = true ∧
      ratesRise [⟨100, 10000⟩] = true ∧ (site (inState .vacant) []).record 0 = some r ∧
      (site (inState .vacant) []).spotInUse 0 = false) ∧
    List.all [⟨100, 9499⟩] pointOk = false ∧
    (List.all [⟨100, 9500⟩, ⟨100, 10500⟩] pointOk = true ∧ ratesRise [⟨100, 9500⟩, ⟨100, 10500⟩] = false) ∧
    run.record 0 = none ∧ ((unloading.record 0).isSome = true ∧ unloading.spotInUse 0 = true) ∧
    (∃ q values, Holds (holding run [0x13, 4, 22, 1, 0, 1, 95, 144]) q 0x13 (4 :: 22 :: 1 :: [0, 1, 95, 144]) ∧
      valuesOf (1 : Byte).toNat [0, 1, 95, 144] = some values ∧ compId (4 : Byte).toNat = some 3 ∧
      (22 : Byte).toNat + values.length = 23 ∧ values.all (within 90000 115000) = true ∧ run.groupInUse 3 = false) :=
  ⟨⟨_, spotRec, holds_holding _ _ _ rfl, by decide +kernel⟩, by decide, by decide, by decide, by decide +kernel,
   ⟨_, [90000], holds_holding _ _ _ rfl, by decide +kernel⟩⟩

theorem test_load_compressor : ((after (exec .loadCompressor (holding run [0x14, 4, 255, 255, 255, 255]))).comp 3).record =
    some ⟨120, 6, 30⟩ := by decide +kernel

theorem witness_CompressorLoadsKeepTheContext :
    (∃ q r, Holds (holding run [0x14, 4, 255, 255, 255, 255]) q 0x14 [4, 255, 255, 255, 255] ∧
      compId (4 : Byte).toNat = some 3 ∧ compRecordOf (num2 255 255) (255 : Byte).toNat (255 : Byte).toNat = some r ∧
      run.compInUse 3 = false) ∧
    (∃ q, Holds (holding (withComp (compAt .stopped) run) [0x14, 1, 255]) q 0x14 [1, 255] ∧
      ((withComp (compAt .stopped) run).comp 0).record.isSome = true ∧
      (withComp (compAt .stopped) run).compInUse 0 = false) :=
  ⟨⟨_, ⟨120, 6, 30⟩, holds_holding _ _ _ rfl, by decide +kernel⟩, ⟨_, holds_holding _ _ _ rfl, by decide +kernel⟩⟩

/-! ## Cars -/

/-- The parameters of an ADD_CAR of car A. -/
def carBody : List Byte := 1 :: ([0x41] ++ [1, 19, 236, 0, 0, 0, 20, 6, 164, 1, 44])

theorem test_add_car : (after (exec .addCar (holding run (0x20 :: carBody)))).manifest =
    [⟨[0x41], 0, 5100, 20, 1700, 300, .waiting, none⟩] := by decide +kernel

theorem test_remove_car : (after (exec .removeCar (holding (site (inState .vacant) [car .done, car .waiting])
    [0x21, 1, 1, 0x41]))).manifest = [car .waiting] := by decide +kernel

theorem witness_CarsJoinAndLeaveTheList :
    (∃ q, Holds (holding run (0x20 :: carBody)) q 0x20 (byte [(0x41 : Byte)].length ::
        ([0x41] ++ [1, 19, 236, 0, 0, 0, 20, 6, 164, 1, 44])) ∧ compId (1 : Byte).toNat = some 0 ∧
      carFieldsOk ⟨[0x41], 0, num2 19 236, num4 0 0 0 20, num2 6 164, num2 1 44, .waiting, none⟩ = true ∧
      run.manifest.length < 48 ∧ carKnown run.manifest [0x41] = false) ∧
    (∃ q, Holds (holding (site (inState .vacant) [car .waiting]) [0x21, 1, 1, 0x41]) q 0x21 (1 :: byte 1 :: [0x41]) ∧
      recordAt (site (inState .vacant) [car .waiting]).manifest 1 = some (car .waiting) ∧
      (car .waiting).car = [0x41] ∧ (car .waiting).status.isBound = false) ∧
    (∃ q, Holds (holding unloading [0x21, 1, 1, 0x41]) q 0x21 (1 :: byte 1 :: [0x41]) ∧
      recordAt unloading.manifest 1 = some (car (.bound 0)) ∧ (car (.bound 0)).status.isBound = true) :=
  ⟨⟨_, holds_holding _ _ _ rfl, by decide +kernel⟩, ⟨_, holds_holding _ _ _ rfl, by decide +kernel⟩,
   ⟨_, holds_holding _ _ _ rfl, by decide +kernel⟩⟩

/-! ## Transfers -/

theorem test_start : ((after (exec .start (holding ready [0x30, 1]))).spot 0).state = .opening ∧
    latchOf (after (exec .start (holding ready [0x30, 1]))) .liqCmd 1 = some .closed := by decide +kernel

theorem witness_StartOpensTheVapourValve :
    ∃ q, Holds (holding ready [0x30, 1]) q 0x30 [1] ∧ Rising ready.imap ∧ spotId (1 : Byte).toNat = some 0 ∧
      ready.sdu.device = .run ∧ (ready.spot 0).state = .ready ∧ ready.mapIncomplete 0 = false ∧
      ready.valveLocal 0 = false ∧ ready.curveEmpty 0 = false ∧ ready.productReady 0 = true ∧
      staleEntry (ready.spotEntry .tempLiq 0) = false ∧ staleEntry (ready.spotEntry .pCar 0) = false :=
  ⟨_, holds_holding _ _ _ rfl, rising_wholeMap, by decide +kernel⟩

theorem test_suspend : ((after (exec .suspend (holding unloading [0x31, 1]))).spot 0).state = .suspended ∧
    ((after (exec .suspend (holding unloading [0x31, 1]))).spot 0).demand = .hold := by decide +kernel

theorem witness_SuspendHoldsTheTransfer :
    (∃ q, Holds (holding unloading [0x31, 1]) q 0x31 [1] ∧ Rising unloading.imap ∧
      (unloading.spot 0).state.suspendable = true ∧ (unloading.spot 0).causes.requested = false ∧
      unloading.guarded 0 = false ∧ unloading.sdu.device = .run ∧ (unloading.spot 0).state ≠ .suspended) ∧
    (((suspended .empty).spot 0).state = .suspended ∧ ((suspended .empty).spot 0).causes.requested = false ∧
      (suspended .empty).guarded 0 = false) ∧
    (unloading.modSpot 0 (fun x => { x with lastResume := some 70 })).guarded 0 = false :=
  ⟨⟨_, holds_holding _ _ _ rfl, rising_wholeMap, by decide +kernel⟩, by decide +kernel, by decide +kernel⟩

theorem test_resume :
    ((after (exec .resume (holding (suspended { Causes.empty with excess := true }) [0x32, 1]))).spot 0).state =
      .unloading ∧
    ((after (exec .resume (holding (suspended { Causes.empty with excess := true }) [0x32, 1]))).spot 0).excessAck =
      true := by decide +kernel

theorem witness_ResumeAttemptsTheReturn :
    (∃ q, Holds (holding (suspended { Causes.empty with excess := true }) [0x32, 1]) q 0x32 [1] ∧
      (suspended { Causes.empty with excess := true }).sdu.device = .run ∧
      ((suspended { Causes.empty with excess := true }).spot 0).saved = some .unloading ∧
      ((suspended { Causes.empty with excess := true }).spot 0).causes.live = false) ∧
    (((suspended { Causes.empty with tankHigh := true }).spot 0).causes.live = true) :=
  ⟨⟨_, holds_holding _ _ _ rfl, by decide +kernel⟩, by decide +kernel⟩

theorem test_stop : ((after (exec .stop (holding unloading [0x33, 1]))).spot 0).state = .liquidClosing := by
  decide +kernel

theorem witness_StopClosesTheLiquidValve :
    ∃ q, Holds (holding unloading [0x33, 1]) q 0x33 [1] ∧ Rising unloading.imap ∧ unloading.sdu.device = .run ∧
      (unloading.spot 0).stoppable = true ∧ ((suspended .empty).spot 0).stoppable = true ∧
      latchOf unloading .liqCmd 1 = some .opened :=
  ⟨_, holds_holding _ _ _ rfl, rising_wholeMap, by decide +kernel⟩

theorem test_abort : ((after (exec .abort (holding unloading [0x34, 1]))).spot 0).state = .closing ∧
    ((after (exec .abort (holding ready [0x34, 1]))).spot 0).state = .complete := by decide +kernel

theorem witness_AbortEndsTheTransfer :
    (∃ q, Holds (holding unloading [0x34, 1]) q 0x34 [1] ∧ Rising unloading.imap ∧ unloading.sdu.device = .run ∧
      unloading.isActive 0 = true ∧ (unloading.spot 0).demand ≠ .none) ∧
    ((travelling .closing .vapPos .closed).isActive 0 = true) ∧
    (∃ q, Holds (holding ready [0x34, 1]) q 0x34 [1] ∧ (ready.spot 0).state = .ready ∧
      boundPosition ready.manifest 0 = some 1 ∧ recordAt ready.manifest 1 = some (car (.bound 0)) ∧
      0 < (car (.bound 0)).declared) :=
  ⟨⟨_, holds_holding _ _ _ rfl, rising_wholeMap, by decide +kernel⟩, by decide +kernel,
   ⟨_, holds_holding _ _ _ rfl, by decide +kernel⟩⟩

theorem test_release : ((after (exec .release (holding (complete false false) [0x35, 1]))).spot 0).state = .vacant ∧
    ((after (exec .release (holding (complete false true) [0x35, 1]))).spot 0).state = .complete := by decide +kernel

theorem witness_ReleaseFreesTheSpot :
    (∃ q r, Holds (holding (complete false false) [0x35, 1]) q 0x35 [1] ∧
      ((complete false false).spot 0).state = .complete ∧ ((complete false false).values 0).armLiq = false ∧
      ((complete false false).values 0).armVap = false ∧ (complete false false).record 0 = some r) ∧
    ((complete true false).values 0).armLiq = true ∧ ((complete false true).values 0).armVap = true :=
  ⟨⟨_, spotRec, holds_holding _ _ _ rfl, by decide +kernel⟩, by decide +kernel, by decide +kernel⟩

theorem test_clear : ((after (exec .clear (holding (site (inState .faulted) [car .done]) [0x36, 1]))).spot 0).state =
      .vacant ∧
    ((after (exec .clear (holding (site (inState .vacant) [car .waiting]) [0x36, 1]))).spot 0).state = .identified := by
  decide +kernel

theorem witness_ClearFreesTheSpot :
    (∃ q, Holds (holding (site (inState .faulted) []) [0x36, 1]) q 0x36 [1] ∧
      ((site (inState .faulted) []).spot 0).state = .faulted ∧ (site (inState .faulted) []).valvesClosed 0 = true) ∧
    (withSpot (inState .faulted) run).valvesClosed 0 = false ∧
    (((site (inState .vacant) []).spot 0).state = .vacant ∧
      lastOf ((site (inState .vacant) []).spotEntry .tag 0) = some (.tag [0x41]) ∧
      (bindFirst [car .waiting] 0 [0x41]).isSome = true ∧ bindFirst [] 0 [0x41] = none) ∧
    lastOf (run.spotEntry .tag 0) = none :=
  ⟨⟨_, holds_holding _ _ _ rfl, by decide +kernel⟩, by decide +kernel, by decide +kernel, by decide +kernel⟩

/-! ## Compressors -/

/-- Compressor 1 at a level with spot 1 attached, which unloads on it. -/
def serving (l : Level) : State := withComp { compAt l with attached := [0] }
  (site { inState .unloading with demand := .push, grant := .compressor 0 } [car (.bound 0)])

theorem test_comp_reports :
    (((serving .push).stateReport 0 .stopped).comp 0).level = .unavailable ∧
    ((serving .push).stateReport 0 .stopped).waitList = [0] ∧
    (((serving .starting).stateReport 0 .runningFwd).comp 0).level = .push ∧
    (((serving .stopping).stateReport 0 .stopped).comp 0).level = .starting ∧
    ((withComp (compAt .unavailable) (site (inState .vacant) [])).stateReport 0 .stopped).comp 0 =
      compAt .stopped := by decide +kernel

theorem witness_StateReportsMoveTheCompressor :
    LeavesTheLevel (serving .push) 0 .runningFwd ∧ LeavesTheLevel (serving .reversing) 0 .stopped ∧
    (ContradictsTheLevel (serving .push) 0 .stopped ∧ ArbiterOk (serving .push) ∧
      ∀ i ∈ ((serving .push).comp 0).attached, DemandsItsState (serving .push) i) ∧
    (((serving .reversing).comp 0).level = .reversing ∧ RunsAsDirected (serving .reversing) 0 .runningFwd ∧
      (serving .reversing).resolved 0 = .push) ∧
    ((withComp (compAt .starting) (site (inState .vacant) [])).resolved 0 = .none ∧
      (suspended .empty).resolved 0 = .hold ∧ (recovering .pass 0 450).resolved 0 = .recover) ∧
    (((serving .stopping).comp 0).attached ≠ [] ∧
      ((serving .stopping).comp 0).history.length < (serving .stopping).compField 0 (·.startLimit) ∧
      AttachedOnly (serving .stopping) 0 0 ∧ (serving .stopping).isActive 0 = true ∧
      ((serving .stopping).spot 0).demand.flows = true ∧ DemandsItsState (serving .stopping) 0) ∧
    (∃ s : State, (s.comp 0).level = .stopping ∧ (s.comp 0).attached = []) ∧
    (∃ s : State, (s.comp 0).level = .stopping ∧ (s.comp 0).attached ≠ [] ∧
      s.compField 0 (·.startLimit) = (s.comp 0).history.length) ∧
    (Rising (serving .push).imap ∧ unusable (withComp (compAt .unavailable) (site (inState .vacant) [])) 0 = false) := by
  have runs : RunsAsDirected (serving .push) 0 .runningFwd := Or.inl ⟨rfl, by decide +kernel⟩
  refine ⟨runs, ⟨by decide, by unfold RunsAsDirected; decide +kernel⟩,
    ⟨show ¬ RunsAsDirected (serving .push) 0 .stopped by unfold RunsAsDirected; decide +kernel,
      by constructor <;> decide +kernel, ?_⟩,
    ⟨by decide +kernel, Or.inl ⟨rfl, by decide +kernel⟩, by decide +kernel⟩, by decide +kernel, ?_, ⟨withComp (compAt .stopping) run, by decide +kernel⟩,
    ⟨withComp { compAt .stopping with attached := [0], history := [1, 2, 3, 4, 5, 6] } run, by decide +kernel⟩,
    rising_wholeMap, by decide +kernel⟩
  · intro i hi
    rw [List.mem_singleton.mp (show i ∈ [(0 : SpotId)] from hi)]
    exact fun v h => by cases (show some Saved.unloading = some v from h); rfl
  · exact ⟨by decide +kernel, by decide +kernel, by unfold AttachedOnly; decide +kernel, by decide +kernel, by decide +kernel,
      fun v h => by
      cases (show some Saved.unloading = some v from h); rfl⟩

/-- Spot 1 waits for a compressor at a level, with causes. -/
def waitingSpot (l : Level) (c : Causes) : State := withComp (compAt l) { site
  { inState .suspended with saved := some .unloading, demand := .push, grant := .waiting, causes := c } [car (.bound 0)]
  with waitList := [0] }

theorem test_grant_scan :
    (((waitingSpot .push { Causes.empty with noCompressor := true }).endScan).spot 0).state = .unloading ∧
    ((waitingSpot .unavailable { Causes.empty with noCompressor := true }).endScan).waitList = [0] := by decide +kernel

theorem witness_GrantScanServesTheList :
    (∀ c : Causes, WaitersSuspended (waitingSpot .push c)) ∧
    (waitingSpot .push { Causes.empty with tankHigh := true }).taker 0 = some 0 ∧
    (waitingSpot .unavailable .empty).taker 0 = none ∧
    (((waitingSpot .push .empty).grantSpot 0 0).comp 0).deferred = false ∧
    (((withComp { compAt .stopped with history := [1, 2, 3, 4, 5, 6] } (waitingSpot .push .empty)).grantSpot 0 0).comp
      0).deferred = true :=
  ⟨fun c => ⟨show [(0 : SpotId)].Nodup by decide, fun i hi => by
      rw [List.mem_singleton.mp (show i ∈ [(0 : SpotId)] from hi)]
      exact ⟨rfl, rfl, ⟨.unloading, rfl, rfl⟩, fun d => match d with
        | 0 => List.not_mem_nil
        | 1 => List.not_mem_nil
        | 2 => List.not_mem_nil
        | 3 => List.not_mem_nil⟩⟩,
   by decide +kernel, by decide +kernel, by decide +kernel, by decide +kernel⟩

/-! ## Expiries -/

theorem test_travel_expiry :
    ((after (exec (.travelTimerExpiry 1) (travelling .opening .vapPos .opened))).spot 0).state = .faulted ∧
    ((after (exec (.pressuriseTimerExpiry 1) (pressurising 300))).spot 0).state = .faulted := by decide +kernel

theorem witness_SpotExpiriesFault :
    (∃ x, ((travelling .opening .vapPos .opened).spot 0).travel = some x ∧
      x.deadline = (travelling .opening .vapPos .opened).uptime ∧ (travelling .opening .vapPos .opened).isActive 0 = true ∧
      Rising (travelling .opening .vapPos .opened).imap ∧ spotId 1 = some 0 ∧ spotId 16 = some 15) ∧
    (((pressurising 300).spot 0).pressurise = some (pressurising 300).uptime ∧ (pressurising 300).isActive 0 = true) ∧
    ((unloading.spot 0).travel = none ∧ (unloading.spot 0).pressurise = none) ∧
    (∃ (s : State) (x : Travel), (s.spot 0).travel = some x ∧ s.uptime + 1 = x.deadline) :=
  ⟨⟨⟨100, .vapPos, .opened⟩, by decide +kernel, by decide +kernel, by decide +kernel, rising_wholeMap, by decide⟩,
   by decide +kernel, by decide +kernel,
   ⟨{ travelling .opening .vapPos .opened with uptime := 99 }, ⟨100, .vapPos, .opened⟩, by decide +kernel⟩⟩

theorem test_suspend_expiry :
    ((after (exec (.suspendTimerExpiry 1) (suspended { Causes.empty with tankHigh := true }))).spot 0).state =
      .suspended ∧
    ((after (exec (.suspendTimerExpiry 1) (suspended { Causes.empty with tankHigh := true }))).comp 0).attached = [] := by
  decide +kernel

theorem witness_SuspendExpiryReleases :
    (((suspended { Causes.empty with tankHigh := true }).spot 0).suspendTimer =
        some (suspended { Causes.empty with tankHigh := true }).uptime ∧
      ({ ((suspended { Causes.empty with tankHigh := true }).spot 0).causes with noCompressor := false } : Causes).any =
        true ∧
      (0 : SpotId) ∉ (suspended { Causes.empty with tankHigh := true }).waitList ∧
      ((suspended { Causes.empty with tankHigh := true }).spot 0).demand ≠ .none) ∧
    (∃ s : State, (0 : SpotId) ∈ s.waitList ∧ s.attachedTo 0 = none ∧ (s.spot 0).demand.flows = true) ∧
    (((suspended { Causes.empty with noCompressor := true }).spot 0).saved = some .unloading ∧
      ({ ((suspended { Causes.empty with noCompressor := true }).spot 0).causes with noCompressor := false } :
        Causes).any = false) ∧
    (unloading.spot 0).suspendTimer = none :=
  ⟨by decide +kernel,
   ⟨{ withSpot { inState .suspended with demand := .push } run with waitList := [0] }, by decide +kernel⟩,
   by decide +kernel, by decide +kernel⟩

theorem test_recovery :
    ((after (exec (.passTimerExpiry 1) (recovering .pass 0 500))).spot 0).sub = some .settle ∧
    ((after (exec (.settleTimerExpiry 1) (recovering .settle 1 320))).spot 0).pendingOutcome = some .delivered ∧
    ((after (exec (.settleTimerExpiry 1) (recovering .settle 4 321))).spot 0).pendingOutcome = some .deliveredHeel := by
  decide +kernel

theorem witness_RecoveryExpiriesDecide :
    (((recovering .pass 0 500).spot 0).state = .recovery ∧
      ((recovering .pass 0 500).spot 0).pass = some (recovering .pass 0 500).uptime ∧
      ((recovering .pass 0 500).spot 0).demand ≠ .none) ∧
    (∃ r, ((recovering .settle 1 320).spot 0).settle = some (recovering .settle 1 320).uptime ∧
      (recovering .settle 1 320).carPressure 0 = some 320 ∧ (recovering .settle 1 320).boundRecord 0 = some r ∧
      320 = (r.residual : Int) + ((recovering .settle 1 320).recordField 0 (·.rebound) : Int) ∧
      ((recovering .settle 3 321).spot 0).passCount = 3 ∧ (recovering .settle 3 321).carPressure 0 = some 321 ∧
      ((recovering .settle 4 321).spot 0).passCount = 4) ∧
    ((unloading.spot 0).pass = none ∧ (unloading.spot 0).settle = none) :=
  ⟨by decide +kernel, ⟨car (.bound 0), by decide +kernel⟩, by decide +kernel⟩

/-- Compressor 1 with its timers due at 4000, when its oldest start of five is 3600 s old. -/
def aged (x : Compressor) : State := withComp
  { x with confirm := some ⟨4000, .stopped⟩, popdown := some 4000, history := [400, 500, 600, 700, 800] }
  { site (inState .vacant) [] with uptime := 4000 }

theorem test_compressor_expiries :
    ((after (exec (.confirmationTimerExpiry 1) (aged (compAt .starting)))).comp 0).level = .unavailable ∧
    ((after (exec (.popdownTimerExpiry 1) (aged (compAt .idleRun)))).comp 0).level = .stopping ∧
    ((after (exec (.startHistoryRemoval 1) (aged (compAt .stopped)))).comp 0).history = [500, 600, 700, 800] := by
  decide +kernel

theorem witness_CompressorExpiriesAct :
    (∃ x u l, ((aged (compAt .starting)).comp 0).confirm = some x ∧ x.deadline = (aged (compAt .starting)).uptime ∧
      ((aged (compAt .starting)).comp 0).popdown = some (aged (compAt .starting)).uptime ∧
      ((aged (compAt .starting)).comp 0).history = u :: l ∧ u + 3600 = (aged (compAt .starting)).uptime ∧
      l.length < (aged (compAt .starting)).compField 0 (·.startLimit) ∧
      ((aged (compAt .starting)).comp 0).history.length < (aged (compAt .starting)).compField 0 (·.startLimit)) ∧
    (∃ s : State, s.compField 0 (·.startLimit) = (s.comp 0).history.length) ∧
    (∃ s : State, (s.comp 0).deferred = true ∧ (s.comp 0).held = false) ∧
    (∃ s : State, (s.comp 0).deferred = false ∧ (s.comp 0).held = true ∧ s.waitList = []) ∧
    ((run.comp 3).confirm = none ∧ (run.comp 3).popdown = none ∧ (run.comp 3).history = [] ∧ compId 4 = some 3) ∧
    (∃ s : State, ∃ u l, (s.comp 0).history = u :: l ∧ s.uptime + 1 = u + 3600) :=
  ⟨⟨⟨4000, .stopped⟩, 400, [500, 600, 700, 800], by decide +kernel⟩,
   ⟨aged { compAt .idleRun with record := some ⟨120, 5, 30⟩ }, by decide +kernel⟩,
   ⟨aged { compAt .stopped with deferred := true }, by decide +kernel⟩,
   ⟨aged { compAt .idleRun with held := true }, by decide +kernel⟩, by decide +kernel,
   ⟨{ aged (compAt .stopped) with uptime := 3999 }, 400, [500, 600, 700, 800], by decide +kernel⟩⟩

theorem test_refresh : queuedCommand 7 (after (exec (.refreshTimerExpiry 7) (busy unloading))).rpu = some .opened := by
  decide +kernel

theorem witness_RefreshRepeatsTheCommand :
    (∃ o u cmd, entryAt (busy unloading).imap 7 = some (out 17 .liqCmd 1 .closed .opened) ∧
      (out 17 .liqCmd 1 .closed .opened).body = .output o ∧ o.refresh = some u ∧ u = (busy unloading).uptime ∧
      outgoing (busy unloading).sdu.device o = some cmd) ∧
    Rising (busy unloading).imap ∧ entryAt unloading.imap 255 = none ∧
    (∃ e d, entryAt unloading.imap 0 = some e ∧ e.body = .input d) ∧
    (∃ e o, entryAt quietTrip.imap 8 = some e ∧ e.body = .output o ∧ ∃ u, o.refresh = some u ∧ quietTrip.uptime + 1 = u) :=
  ⟨⟨⟨.closed, .drive, .opened, some 100⟩, 100, .opened, by decide +kernel⟩, rising_wholeMap, by decide +kernel,
   ⟨meterEntry, ⟨none, false, some 7, some ⟨100, 1000⟩, some 95, false⟩, by decide +kernel⟩,
   ⟨⟨18, 0, .vapCmd, 1, 5, .output ⟨.closed, .monitor, .closed, some 101⟩⟩, ⟨.closed, .monitor, .closed, some 101⟩, rfl,
     rfl, 101, rfl, rfl⟩⟩

theorem test_residency : ((after (exec .residencyTick (aged (compAt .push)))).comp 0).residency.get Level.push.place = 1 ∧
    (after (exec .residencyTick run)).uptime = 101 := by decide +kernel

theorem witness_SecondsCountAtTheLevel :
    (∃ s : State, s.powered = true ∧ s.uptime = 4294967294) ∧ (∃ s : State, s.powered = true ∧ s.uptime = 4294967295) :=
  ⟨⟨{ run with uptime := 4294967294 }, by decide⟩, ⟨{ run with uptime := 4294967295 }, by decide⟩⟩

/-! ## Reads and channels -/

theorem test_read_status : (after (exec .readStatus (holding (busy run) [1, 1, 0]))).rpu.messages =
    [.reply 200 9 ([1, 0] ++ statusSection1 (holding (busy run) [1, 1, 0]))] := by decide +kernel

theorem witness_ReadsReportAndChangeNothing :
    (∃ q, Holds (holding run [1, 1, 0]) q 0x01 [1, 0]) ∧ (∃ q, Holds (holding run [1, 2, 255]) q 0x01 [2, 255]) ∧
    (∃ q data, Holds (holding run [2, 16, 1, 1]) q 0x02 [16, 1, 1] ∧ spotId (16 : Byte).toNat = some 15 ∧
      spotSection (holding run [2, 16, 1, 1]) 15 1 = some data) ∧
    (∃ q, Holds (holding unloading [3, 1, 4]) q 0x03 [1, 4] ∧
      recordAt unloading.manifest (1 : Byte).toNat = some (car (.bound 0))) ∧
    (∃ q, Holds (holding run [4, 16, 7]) q 0x04 [16, 7] ∧ (7 : Byte).toNat < 8) ∧
    (∃ q, Holds (holding run [5, 4, 5, 0]) q 0x05 [4, 5, 0] ∧ compId (4 : Byte).toNat = some 3) ∧
    (∃ q, Holds (holding run [5, 4, 2, 1]) q 0x05 [4, 2, 1]) ∧
    (∃ q, Holds (holding unloading [6, 7]) q 0x06 [7] ∧
      entryAt unloading.imap (7 : Byte).toNat = some (out 17 .liqCmd 1 .closed .opened)) :=
  ⟨⟨_, holds_holding _ _ _ rfl⟩, ⟨_, holds_holding _ _ _ rfl⟩, ⟨_, _, holds_holding _ _ _ rfl, by decide, rfl⟩,
   ⟨_, holds_holding _ _ _ rfl, by decide +kernel⟩, ⟨_, holds_holding _ _ _ rfl, by decide⟩,
   ⟨_, holds_holding _ _ _ rfl, by decide⟩, ⟨_, holds_holding _ _ _ rfl⟩,
   ⟨_, holds_holding _ _ _ rfl, by decide +kernel⟩⟩

theorem test_channel_mode : (entryAt (after (exec .setChannelMode (holding (site (inState .vacant) []) [0x40, 7, 1]))).imap
    7).map MapEntry.image = some (some ⟨.closed, .monitor, .opened, none⟩) := by decide +kernel

theorem test_channel_mode_drive : queuedCommand 7 (after (exec .setChannelMode (busy (holding (site (inState .vacant) [])
    [0x40, 7, 2, 2])))).rpu = some .closed := by decide +kernel

/-- The site with compressor 1 STOPPED. -/
def stoppedSite : State := withComp (compAt .stopped) (site (inState .vacant) [])

/-- R167: the latch of a compressor that becomes UNAVAILABLE holds STOP; COMP_RUN still in DRIVE sends it (log 44). -/
theorem test_channel_mode_stop :
    latchOf (after (exec .setChannelMode (holding stoppedSite [0x40, 9, 1]))) .compRun 1 = some .stop ∧
    queuedCommand 9 (after (exec .setChannelMode (busy (holding stoppedSite [0x40, 10, 1])))).rpu = some .stop := by decide +kernel

theorem witness_ChannelModesChangeTheImage :
    (∃ f, (busy (site (inState .vacant) [])).rpu.address = some 1 ∧
      (busy (site (inState .vacant) [])).rpu.sending = some f) ∧
    (∃ q e o cmd, Holds (holding (site (inState .vacant) []) [0x40, 7, 2, 2]) q 0x40 [7, 2, 2] ∧
      Rising (holding (site (inState .vacant) []) [0x40, 7, 2, 2]).imap ∧ entryAt wholeMap (7 : Byte).toNat = some e ∧
      e.body = .output o ∧ initialCommand e.role 2 = some cmd ∧ (site (inState .vacant) []).channelInUse e = false) ∧
    (∃ q e, Holds (holding (site (inState .vacant) []) [0x40, 9, 1]) q 0x40 [9, 1] ∧
      entryAt wholeMap (9 : Byte).toNat = some e ∧ e.role = .compRun ∧
      (site (inState .vacant) []).compEntry e.role 0 = some (9, e) ∧
      (site (inState .vacant) []).channelInUse e = false) ∧
    (stoppedSite.sdu.device = .run ∧ (stoppedSite.comp 0).level = .stopped ∧ (left.comp 0).level = .unavailable ∧
      left.compEntry .compRun 0 = some (9, out 19 .compRun 1 .stop .run)) ∧
    (∃ o, entryAt quietTrip.imap 8 = some ⟨18, 0, .vapCmd, 1, 5, .output o⟩ ∧ o.direction = .monitor ∧
      quietTrip.sdu.device = .tripped) :=
  ⟨⟨_, rfl, rfl⟩, ⟨_, out 17 .liqCmd 1 .closed .opened, ⟨.closed, .drive, .opened, some 100⟩, .closed, holds_holding _ _ _ rfl,
     rising_wholeMap, by decide +kernel⟩,
   ⟨_, out 19 .compRun 1 .stop .run, holds_holding _ _ _ rfl, by decide +kernel⟩, by decide +kernel,
   ⟨⟨.closed, .monitor, .closed, some 101⟩, by decide⟩⟩

theorem test_unknown_request : (after (exec .unknownRequest (holding (busy run) [0x99]))).rpu.messages =
    [.reply 200 9 [0x99, Result.badRequest.code]] := by decide +kernel

theorem witness_RefusalsChangeNothing :
    (∃ f ∈ requestMeanings, ∃ args : List Byte, (f args run).2.result ≠ .done) ∧
    (unknownBody [0x53] = true ∧ unknownBody [] = true ∧ (holding run [0x53]).mgu.held = some ⟨200, 9, [0x53]⟩ ∧
      (holding run [0x53]).powered = true ∧ Message.reservation ∈ (holding run [0x53]).rpu.messages ∧
      unknownBody [0x52] = false) ∧
    (∃ q, Holds (holding run [0x52, 0]) q 0x52 (0 :: [])) :=
  ⟨⟨readStatus, by simp [requestMeanings], [], by decide +kernel⟩, by decide, ⟨_, holds_holding _ _ _ rfl⟩⟩

/-! ## Writers and laws -/

theorem witness_TablesAndManifestKeepTheirRecords :
    exec .transmitComplete (complete false false) = .next (after (exec .transmitComplete (complete false false))) ∧
    startsAnew .transmitComplete = false ∧ recordAt (complete false false).manifest 1 = some (car .done) ∧
    (car .done).status = .done := ⟨rfl, rfl, rfl, rfl⟩

theorem witness_PartsChangeByTheirCommandsAlone :
    exec .residencyTick quietTrip = .next (after (exec .residencyTick quietTrip)) ∧ Rising quietTrip.imap ∧
    quietTrip.sdu.device = .tripped := ⟨rfl, by unfold Rising; decide, rfl⟩

/-- A part in RUN with a transfer, a command waiting and a request held. -/
def working : State := { holding unloading [0x50] with pending := [.trip] }

theorem witness_StepsKeepTheTripSafe : step working = .next (after (step working)) ∧ LineOk working ∧ Quiet working ∧
    LineOk tripped ∧ Quiet tripped :=
  ⟨rfl, by unfold LineOk; decide, by unfold Quiet; decide, by unfold LineOk; decide, by unfold Quiet; decide +kernel⟩

theorem witness_StepsKeepRawConservation : working.isActive 0 = true ∧ (∀ i, working.isActive i = true → Conserved working i) :=
  by unfold Conserved; decide +kernel

theorem witness_StepsKeepTheManifestBound : ∀ i, BindOk working i := by unfold BindOk; decide +kernel

theorem mapOk_wholeMap : MapOk wholeMap :=
  ⟨rising_wholeMap, by decide, by decide, by decide, by decide +kernel⟩

theorem witness_StepsKeepMapAndPortInForm :
    (Rising working.imap ∧ PortOk working.rpu ∧ ReservedOk working) ∧ MapOk working.imap ∧ ActuatesOk working :=
  ⟨⟨rising_wholeMap, by unfold PortOk; decide, by unfold ReservedOk; decide⟩, mapOk_wholeMap,
   ⟨by decide +kernel, by decide +kernel, fun a h => (nomatch (show a ∈ ([] : List Actuate) from h)),
    fun _ => rfl⟩⟩

theorem witness_StepsKeepTheChannelLaws : MapOk working.imap ∧ LiquidOk working ∧ RefreshOk working := by
  have hl : ∀ p ∈ wholeMap, ∀ o ∈ p.2.image, p.2.role = .liqCmd → o.latch = .opened → p.2.owner = 1 := by
    decide +kernel
  have hr : ∀ p ∈ wholeMap, ∀ o ∈ p.2.image, o.refresh.isSome = (outgoing .run o).isSome := by decide +kernel
  refine ⟨mapOk_wholeMap, fun k e o h hb hrole hlatch => ⟨0, ?_, by decide +kernel⟩, fun k e o h hb => ?_⟩
  · rw [hl (k, e) (mem_of_entryAt h) o (by simp [MapEntry.image, hb]) hrole hlatch]
    decide
  · exact hr (k, e) (mem_of_entryAt h) o (by simp [MapEntry.image, hb])

theorem arbiterOk_working : ArbiterOk working := by constructor <;> decide +kernel

theorem witness_StepsKeepTheArbiter : ArbiterOk working ∧ DemandsOk working :=
  ⟨arbiterOk_working, fun i v h => by
      have hv : ∀ i, ((savedOf (working.spot i).state (working.spot i).sub).all
          (fun v => decide (v.demand = (working.spot i).demand))) = true := by decide +kernel
      have := hv i
      rw [h] at this
      simpa using this,
    fun i h => nomatch (show i ∈ ([] : List SpotId) from h)⟩

theorem witness_StepsKeepTheLevels : ArbiterOk working ∧ LevelsOk working :=
  ⟨arbiterOk_working, by constructor <;> decide +kernel⟩

end Sys2Proof.Tests
end

section
/-! The Ring Port Unit at a frame's arrival: what a valid frame leads to, by the part's address and the frame's source
(R1, R3, R4), and O8, which says so of the command. -/

namespace Sys2Proof.Machine

/-! ## The arrival of a valid frame -/

@[simp] theorem address_noteValidFrame (s : State) : s.noteValidFrame.rpu.address = s.rpu.address := rfl

theorem exec_frameArrival_on (s : State) (f : Frame) (hp : s.powered = true) :
    exec (.frameArrival f) s = .next (s.frameArrival f) :=
  whenPowered_on s (fun s => s.frameArrival f) hp

theorem frameArrival_own (s : State) (f : Frame) (hv : frameValid f = true) (ha : s.rpu.address = some f.source) :
    s.frameArrival f = s.noteValidFrame := by
  simp [State.frameArrival, hv, ha]

theorem frameArrival_other (s : State) (f : Frame) (a : Byte) (hv : frameValid f = true)
    (ha : s.rpu.address = some a) (hne : f.source ≠ a) :
    s.frameArrival f = if f.hops = 0 then s.noteValidFrame else s.noteValidFrame.disposeFrame a f := by
  simp [State.frameArrival, hv, ha, hne]

theorem frameArrival_noAddress (s : State) (f : Frame) (hv : frameValid f = true) (ha : s.rpu.address = none) :
    s.frameArrival f = if f.hops = 0 then s.noteValidFrame else s.noteValidFrame.modRpu (forwardFrame f) := by
  simp [State.frameArrival, State.forward, hv, ha]

/-! ## Stripping -/

/-- Settles O8, by the three cases of the part's address: the frame's source, another node's, none. -/
theorem ownFramesAreStripped : Obligations.OwnFramesAreStripped := by
  unfold Obligations.OwnFramesAreStripped
  refine ⟨fun s f hp hv ha => ?own, fun s f a hp hv ha hne => ?other, fun s f hp hv ha => ?noAddress⟩
  case own =>
    rw [exec_frameArrival_on s f hp, frameArrival_own s f hv ha]
    rfl
  case other => rw [exec_frameArrival_on s f hp, frameArrival_other s f a hv ha hne]
  case noAddress => rw [exec_frameArrival_on s f hp, frameArrival_noAddress s f hv ha]

end Sys2Proof.Machine
end

section
/-! The Instrument Map's sequence test: the distance of a sample's number from the last one, what a sample that fails the
test leaves (R25), and the dynamic state an input entry starts with (R22). -/

namespace Sys2Proof.Machine

/-! ## The sequence test -/

/-- The difference of two sequence numbers is their distance modulo 256 (R25). -/
theorem toNat_sequenceDistance (l x : Byte) : (x - l).toNat = (x.toNat + 256 - l.toNat) % 256 := by
  have hl : l.toNat < 256 := l.isLt
  rw [BitVec.toNat_sub]
  omega

@[simp] theorem sequenceOk_none (x : Byte) : sequenceOk none x = true := rfl

theorem sequenceOk_some_iff (l x : Byte) :
    sequenceOk (some l) x = true ↔ 1 ≤ (x - l).toNat ∧ (x - l).toNat ≤ 127 := by
  simp only [sequenceOk, Bool.and_eq_true, decide_eq_true_eq]

theorem offerSample_of_sequence_fails (s : State) (f : Frame) (x : Sample) (k : Nat) (e : MapEntry) (d : Dynamic)
    (hx : parseSample f.body = some x) (hk : findKey s.imap f.source x.channel = some (k, e))
    (hb : e.body = .input d) (hseq : sequenceOk d.seq f.tag = false) : s.offerSample f = s := by
  simp [State.offerSample, hx, hk, hb, hseq]

/-! ## The entry of a write -/

/-- A written input entry starts with no value, no sequence number and no acceptance, and is stale unless its limit is 0 (R22). -/
theorem newBody_input {w : MapWrite} {d : Dynamic} (h : newBody w = .input d) :
    d = ⟨none, false, none, none, none, decide (w.limit ≠ 0)⟩ := by
  unfold newBody at h
  split at h
  · cases h
  · exact (EntryBody.input.inj h).symm

/-- Settles O12: the first sample, the window ahead of the last number, a sample that fails, a rewritten entry. -/
theorem sequenceTestPasses : Obligations.SequenceTestPasses := by
  unfold Obligations.SequenceTestPasses
  refine ⟨sequenceOk_none, fun l x => ?window, fun s f x k e d hx _ hk hb hseq => ?fails, fun w d h => ?rewritten⟩
  case window => rw [sequenceOk_some_iff, toNat_sequenceDistance]
  case fails => exact offerSample_of_sequence_fails s f x k e d hx hk hb hseq
  case rewritten => rw [newBody_input h]

end Sys2Proof.Machine
end

section
/-! The arithmetic of the Metering Unit: the truncated step between two points (R120), the meter curve (R114), the
temperature correction (R117), and the mass of a credit (R119). -/

namespace Sys2Proof.Machine

/-! ## The inputs of a credit -/

/-- Everything a credit reads, and where it reads it (R111). -/
theorem creditInputs_cases {s : State} {i : SpotId} {c : CreditInputs} (h : s.creditInputs i = some c) :
    ∃ r b k e d t, s.record i = some r ∧ s.boundRecord i = some b ∧ s.spotEntry .tempLiq i = some (k, e) ∧
      e.body = .input d ∧ d.last.bind Value.tenths? = some t ∧
      c = ⟨r.kc, r.curve, t, d.clamped, s.groups.get b.group, b.density⟩ := by
  unfold State.creditInputs at h
  split at h
  · next r b k e hr hb he =>
    split at h
    · next d hd =>
      split at h
      · next t ht => exact ⟨r, b, k, e, d, t, hr, hb, he, hd, ht, (Option.some.inj h).symm⟩
      · cases h
    · cases h
  · cases h

theorem creditInputs_curve {s : State} {i : SpotId} {c : CreditInputs} (h : s.creditInputs i = some c) :
    ∃ r, s.record i = some r ∧ c.curve = r.curve := by
  obtain ⟨r, _, _, _, _, _, hr, _, _, _, _, rfl⟩ := creditInputs_cases h
  exact ⟨r, hr, rfl⟩

theorem creditInputs_bound {s : State} {i : SpotId} {c : CreditInputs} (h : s.creditInputs i = some c) :
    ∃ b, s.boundRecord i = some b ∧ c.group = s.groups.get b.group ∧ c.density = b.density := by
  obtain ⟨_, b, _, _, _, _, _, hb, _, _, _, rfl⟩ := creditInputs_cases h
  exact ⟨b, hb, rfl, rfl⟩

/-! ## The truncated step between two points -/

/-- Between rising values the truncated quotient is the floor (R120). -/
theorem tdiv_of_rising {a b : Nat} (h : a ≤ b) (x span : Nat) :
    Int.tdiv (((b : Int) - a) * x) span = (((b - a) * x / span : Nat) : Int) := by
  rw [← Int.ofNat_sub h, ← Int.natCast_mul, Int.ofNat_tdiv]

/-- Between falling values the truncated quotient is minus the floor of the fall, nearer zero than the floor (R120). -/
theorem tdiv_of_falling {a b : Nat} (h : b ≤ a) (x span : Nat) :
    Int.tdiv (((b : Int) - a) * x) span = -(((a - b) * x / span : Nat) : Int) := by
  rw [← tdiv_of_rising h, ← Int.neg_tdiv, ← Int.neg_mul, Int.neg_sub]

/-- A step of at most the whole span moves a value by at most the whole difference. -/
theorem step_le_difference {x span : Nat} (hx : x ≤ span) (n : Nat) : n * x / span ≤ n :=
  Nat.div_le_of_le_mul ((Nat.mul_le_mul_left n hx).trans_eq (Nat.mul_comm n span))

theorem interpolate_of_rising {a b : Nat} (h : a ≤ b) (x span : Nat) :
    interpolate a b x span = a + (b - a) * x / span := by
  rw [interpolate, tdiv_of_rising h, ← Int.natCast_add, Int.toNat_natCast]

theorem interpolate_of_falling {a b : Nat} (h : b ≤ a) (x span : Nat) :
    interpolate a b x span = a - (a - b) * x / span := by
  rw [interpolate, tdiv_of_falling h]
  omega

@[simp] theorem interpolate_at_start (a b span : Nat) : interpolate a b 0 span = a := by simp [interpolate]

theorem interpolate_at_end (a b : Nat) {span : Nat} (hs : 0 < span) : interpolate a b span span = b := by
  have hs' : (span : Int) ≠ 0 := by omega
  rw [interpolate, Int.mul_tdiv_cancel _ hs']
  omega

/-- Inside the span no part of the step is lost below zero: the factor is the signed sum the rules write (R114, R117). -/
theorem natCast_interpolate (a b : Nat) {x span : Nat} (hx : x ≤ span) :
    ((interpolate a b x span : Nat) : Int) = a + Int.tdiv (((b : Int) - a) * x) span := by
  rcases Nat.le_total a b with h | h
  · rw [interpolate_of_rising h, tdiv_of_rising h]
    omega
  · have hle : (a - b) * x / span ≤ a - b := step_le_difference hx _
    rw [interpolate_of_falling h, tdiv_of_falling h]
    omega

theorem interpolate_between (a b : Nat) {x span : Nat} (hx : x ≤ span) :
    min a b ≤ interpolate a b x span ∧ interpolate a b x span ≤ max a b := by
  rcases Nat.le_total a b with h | h
  · have hle : (b - a) * x / span ≤ b - a := step_le_difference hx _
    rw [interpolate_of_rising h, min_eq_left h, max_eq_right h]
    exact ⟨Nat.le_add_right a _, Nat.add_le_of_le_sub' h hle⟩
  · have hle : (a - b) * x / span ≤ a - b := step_le_difference hx _
    rw [interpolate_of_falling h, min_eq_right h, max_eq_left h]
    exact ⟨Nat.le_sub_of_add_le' (Nat.add_le_of_le_sub h hle), Nat.sub_le a _⟩

/-- A range that holds both points holds the factor. -/
theorem interpolate_mem_Icc {lo hi a b x span : Nat} (ha : a ∈ Set.Icc lo hi) (hb : b ∈ Set.Icc lo hi)
    (hx : x ≤ span) : interpolate a b x span ∈ Set.Icc lo hi :=
  have hbetween := interpolate_between a b hx
  ⟨(le_min ha.1 hb.1).trans hbetween.1, hbetween.2.trans (max_le ha.2 hb.2)⟩

/-! ## The meter curve -/

/-- Neighbours in order put every two points of the curve in order. -/
theorem ratesRise_iff_pairwise (l : List CurvePoint) :
    ratesRise l = true ↔ l.Pairwise (fun p q => p.rate < q.rate) := by
  induction l with
  | nil => simp [ratesRise]
  | cons p rest ih =>
    cases rest with
    | nil => simp [ratesRise]
    | cons q rest =>
      simp only [ratesRise, Bool.and_eq_true, decide_eq_true_eq, ih, List.pairwise_cons (a := p), List.forall_mem_cons]
      refine and_congr_left fun hrest => (and_iff_left_of_imp fun hpq x hx => ?_).symm
      exact hpq.trans (List.rel_of_pairwise_cons hrest hx)

theorem pointOk_iff (p : CurvePoint) : pointOk p = true ↔ p.rate ≤ 9999 ∧ p.mf ∈ Set.Icc 9500 10500 := by
  simp [pointOk, within]

@[simp] theorem factorFrom_nil (p : CurvePoint) (q : Nat) : factorFrom p [] q = p.mf := rfl

theorem factorFrom_of_lt {p p' : CurvePoint} {q : Nat} (h : q < p'.rate) (rest : List CurvePoint) :
    factorFrom p (p' :: rest) q = interpolate p.mf p'.mf (q - p.rate) (p'.rate - p.rate) := if_pos h

theorem factorFrom_of_le {p' : CurvePoint} {q : Nat} (h : p'.rate ≤ q) (p : CurvePoint) (rest : List CurvePoint) :
    factorFrom p (p' :: rest) q = factorFrom p' rest q := if_neg (Nat.not_lt.mpr h)

theorem meterFactor_of_le {p : CurvePoint} {q : Nat} (h : q ≤ p.rate) (rest : List CurvePoint) :
    meterFactor (p :: rest) q = p.mf := if_pos h

theorem meterFactor_of_lt {p : CurvePoint} {q : Nat} (h : p.rate < q) (rest : List CurvePoint) :
    meterFactor (p :: rest) q = factorFrom p rest q := if_neg (Nat.not_le.mpr h)

/-- A rate that lands on a point takes that point's factor exactly (R114). -/
theorem factorFrom_at_rate {p : CurvePoint} {rest : List CurvePoint} (h : ∀ x ∈ rest, p.rate < x.rate) :
    factorFrom p rest p.rate = p.mf := by
  cases rest with
  | nil => rfl
  | cons p' rest => rw [factorFrom_of_lt (h p' List.mem_cons_self), Nat.sub_self, interpolate_at_start]

/-- The points before the last one at or below the rate have no part in the factor. -/
theorem factorFrom_append {l : List CurvePoint} {p : CurvePoint} {q : Nat} (hl : ∀ x ∈ l, x.rate < p.rate)
    (hq : p.rate ≤ q) (p₀ : CurvePoint) (r : List CurvePoint) :
    factorFrom p₀ (l ++ p :: r) q = factorFrom p r q := by
  induction l generalizing p₀ with
  | nil => exact factorFrom_of_le hq p₀ r
  | cons x l ih =>
    obtain ⟨hx, hl⟩ := List.forall_mem_cons.mp hl
    rw [List.cons_append, factorFrom_of_le (hx.le.trans hq), ih hl]

theorem meterFactor_append {l r : List CurvePoint} {p : CurvePoint} {q : Nat} (hrise : ratesRise (l ++ p :: r) = true)
    (hq : p.rate ≤ q) : meterFactor (l ++ p :: r) q = factorFrom p r q := by
  obtain ⟨_, hpr, hlp⟩ := List.pairwise_append.mp ((ratesRise_iff_pairwise _).mp hrise)
  have hl : ∀ x ∈ l, x.rate < p.rate := fun x hx => hlp x hx p List.mem_cons_self
  cases l with
  | nil =>
    rcases hq.eq_or_lt with rfl | hlt
    · exact (meterFactor_of_le le_rfl r).trans (factorFrom_at_rate (List.pairwise_cons.mp hpr).1).symm
    · exact meterFactor_of_lt hlt r
  | cons x l =>
    obtain ⟨hx, hl⟩ := List.forall_mem_cons.mp hl
    rw [List.cons_append, meterFactor_of_lt (hx.trans_le hq), factorFrom_append hl hq]

/-- Between two neighbours of the curve the factor is the step from the lower to the upper one. -/
theorem meterFactor_interior {l r : List CurvePoint} {p p' : CurvePoint} {q : Nat}
    (hrise : ratesRise (l ++ p :: p' :: r) = true) (hq : p.rate ≤ q) (hq' : q < p'.rate) :
    meterFactor (l ++ p :: p' :: r) q = interpolate p.mf p'.mf (q - p.rate) (p'.rate - p.rate) := by
  rw [meterFactor_append hrise hq, factorFrom_of_lt hq']

theorem factorFrom_mem_Icc {lo hi : Nat} {p : CurvePoint} {rest : List CurvePoint} (hp : p.mf ∈ Set.Icc lo hi)
    (hrest : ∀ x ∈ rest, x.mf ∈ Set.Icc lo hi) (q : Nat) : factorFrom p rest q ∈ Set.Icc lo hi := by
  induction rest generalizing p with
  | nil => exact hp
  | cons p' rest ih =>
    obtain ⟨hp', hrest⟩ := List.forall_mem_cons.mp hrest
    rcases Nat.lt_or_ge q p'.rate with hlt | hge
    · rw [factorFrom_of_lt hlt]
      exact interpolate_mem_Icc hp hp' (Nat.sub_le_sub_right hlt.le _)
    · rw [factorFrom_of_le hge]
      exact ih hp' hrest

theorem meterFactor_mem_Icc {lo hi : Nat} {l : List CurvePoint} (hne : l ≠ [])
    (hl : ∀ x ∈ l, x.mf ∈ Set.Icc lo hi) (q : Nat) : meterFactor l q ∈ Set.Icc lo hi := by
  cases l with
  | nil => exact absurd rfl hne
  | cons p rest =>
    obtain ⟨hp, hrest⟩ := List.forall_mem_cons.mp hl
    rcases le_or_gt q p.rate with hle | hlt
    · rw [meterFactor_of_le hle]
      exact hp
    · rw [meterFactor_of_lt hlt]
      exact factorFrom_mem_Icc hp hrest q

/-- Settles O22, by the place of the rate on the curve: at the first point, at the last, between two neighbours. -/
theorem meterFactorReadsTheCurve : Obligations.MeterFactorReadsTheCurve := by
  unfold Obligations.MeterFactorReadsTheCurve
  refine ⟨fun p rest q h => meterFactor_of_le h rest, fun l p q hrise hq => meterFactor_append hrise hq,
    fun l r p p' q hrise hq hq' => ?interior, fun l q hne hok _ => ?range, fun s i c h => creditInputs_curve h⟩
  case interior =>
    have hx : q - p.rate ≤ p'.rate - p.rate := Nat.sub_le_sub_right hq'.le _
    rw [meterFactor_interior hrise hq hq']
    refine ⟨?_, interpolate_between p.mf p'.mf hx⟩
    rw [natCast_interpolate p.mf p'.mf hx, Int.ofNat_sub hq, Int.ofNat_sub (hq.trans hq'.le)]
  case range =>
    have hmf : ∀ x ∈ l, x.mf ∈ Set.Icc 9500 10500 := fun x hx => ((pointOk_iff x).mp (List.all_eq_true.mp hok x hx)).2
    exact meterFactor_mem_Icc hne hmf q

/-! ## The temperature correction -/

/-- The index of a temperature of the table (R117). -/
theorem pointIndex_eq {t : Int} (h : -500 ≤ t) : pointIndex t = min ((t + 500) / 50).toNat 21 := by
  have hfloor : (t + 500).toNat / 50 = ((t + 500) / 50).toNat := by omega
  exact congrArg (min · 21) hfloor

theorem pointIndex_le (t : Int) : pointIndex t ≤ 21 := Nat.min_le_right _ _

/-- The way of a temperature of the table past its lower point: 50 at the upper end of the table alone (R117). -/
theorem sub_pointTemperature {t : Int} (h : -500 ≤ t) (h' : t ≤ 600) :
    0 ≤ t - pointTemperature (pointIndex t) ∧ t - pointTemperature (pointIndex t) ≤ 50 ∧
      (t < 600 → t - pointTemperature (pointIndex t) ≤ 49) := by
  rw [pointIndex_eq h, pointTemperature]
  omega

theorem correction_eq (g : Group) (t : Int) : correction g t = interpolate (pointValue g (pointIndex t))
    (pointValue g (pointIndex t + 1)) (t - pointTemperature (pointIndex t)).toNat 50 := rfl

theorem correction_at_first (g : Group) : correction g (-500) = pointValue g 0 := interpolate_at_start _ _ 50

theorem correction_at_last (g : Group) : correction g 600 = pointValue g 22 :=
  interpolate_at_end (pointValue g 21) _ (span := 50) (by decide)

/-- Settles O23: the way past the lower point is within the step's span, so the factor is the truncated step. -/
theorem correctionReadsTheGroup : Obligations.CorrectionReadsTheGroup := by
  unfold Obligations.CorrectionReadsTheGroup
  refine ⟨fun s i c h => ?group, fun g t h h' => ?factor⟩
  case group =>
    obtain ⟨b, hb, hgroup, _⟩ := creditInputs_bound h
    exact ⟨b, hb, hgroup⟩
  case factor =>
    obtain ⟨hpos, hspan, hbelow⟩ := sub_pointTemperature h h'
    have hx : (t - pointTemperature (pointIndex t)).toNat ≤ 50 := Int.toNat_le.mpr hspan
    rw [← pointIndex_eq h]
    obtain ⟨hmin, hmax⟩ := interpolate_between (pointValue g (pointIndex t)) (pointValue g (pointIndex t + 1)) hx
    refine ⟨rfl, rfl, hpos, hbelow, ?step, hmin, hmax, ?last, ?first, fun hg => ?range⟩
    case step => rw [correction_eq, natCast_interpolate _ _ hx, Int.toNat_of_nonneg hpos, Nat.cast_ofNat]
    case last => rintro rfl; exact correction_at_last g
    case first => rintro rfl; exact correction_at_first g
    case range =>
      have hj := pointIndex_le t
      exact interpolate_mem_Icc (hg _ (by omega)) (hg _ (by omega)) hx

/-! ## The mass of a credit -/

/-- Settles O21: the mass is divided from the net increment, and the density is the bound record's. -/
theorem massFollowsTheNetIncrement : Obligations.MassFollowsTheNetIncrement := by
  unfold Obligations.MassFollowsTheNetIncrement
  refine ⟨fun a c d e => ?mass, fun s i c h => ?density⟩
  case mass => simp only [credit, Nat.add_sub_cancel_left, and_self]
  case density =>
    obtain ⟨b, hb, _, hdensity⟩ := creditInputs_bound h
    exact ⟨b, hb, hdensity⟩

end Sys2Proof.Machine
end

section
/-! What a command can do, said once: the effect of a request before it is answered, the effect of each command, and the
commands of a part without supply. Every statement about all commands is a case analysis of `Falls` (and of `Carries` inside it). -/

namespace Sys2Proof.Machine

/-! ## The effect of an accepted request -/

/-- The effect of an accepted request before its answer, with what its checks have made sure of (R20 to R23, R35, R39 to R53, R63,
R77 to R84, R104, R105, R153, R165 to R167, R177, R178, R186). -/
inductive Carries (s : State) : Instr → State → Prop
  | readSpot (i : SpotId) (b : Bool) : Carries s .readSpot (s.setStanding i b)
  | readCompressor (c : CompId) : Carries s .readCompressor (s.clearResidency c)
  | writeEntry (idx : Nat) (w : MapWrite) (index : idx < 256)
      (range : writeInRange s.rpu.address w = true) (free : s.entryInUse (entryAt s.imap idx) = false)
      (owner : s.ownerInUse w.role w.owner = false) (single : duplicates s.imap idx w = false) :
      Carries s .loadMapEntry (s.writeEntry idx w)
  | removeEntry (idx : Nat) (e : MapEntry) (entry : entryAt s.imap idx = some e)
      (owner : s.ownerInUse e.role e.owner = false) : Carries s .loadMapEntry (s.removeEntry idx e)
  | storeRecord (i : SpotId) (r : SpotRecord) (free : s.spotInUse i = false) :
      Carries s .loadSpot (s.storeRecord i r)
  | storeCurve (i : SpotId) (r : SpotRecord) (points : List CurvePoint) (record : s.record i = some r)
      (free : s.spotInUse i = false) : Carries s .loadMeterCurve (s.setRecord i { r with curve := points })
  | storeGroup (g : Fin 4) (v : Group) :
      Carries s .loadProductSegment { s with groups := s.groups.set g.val v g.isLt }
  | storeComp (c : CompId) (r : CompRecord) (free : s.compInUse c = false) :
      Carries s .loadCompressor (s.storeCompRecord c r)
  | removeComp (c : CompId) (free : s.compInUse c = false) :
      Carries s .loadCompressor (s.removeCompRecord c)
  | addCar (r : CarRecord) (waiting : r.status = .waiting) :
      Carries s .addCar { s with manifest := s.manifest ++ [r] }
  | removeCar (p : Nat) (r : CarRecord) (record : recordAt s.manifest p = some r)
      (free : r.status.isBound = false) : Carries s .removeCar (s.removeRecord p)
  | start (i : SpotId) (run : s.sdu.device = .run) (ready : (s.spot i).state = .ready)
      (valves : s.valveLocal i = false) : Carries s .start (s.startTransfer i)
  | suspend (i : SpotId) (run : s.sdu.device = .run) (state : (s.spot i).state.suspendable = true) :
      Carries s .suspend (s.changeCauses i (fun c => { c with requested := true })).endScan
  | resume (i : SpotId) (run : s.sdu.device = .run) (state : (s.spot i).state = .suspended)
      (live : (s.spot i).causes.live = false) : Carries s .resume (s.resumeTransfer i)
  | stop (i : SpotId) (run : s.sdu.device = .run) (state : (s.spot i).stoppable = true) :
      Carries s .stop (s.stopTransfer i)
  | abort (i : SpotId) (run : s.sdu.device = .run) (active : s.isActive i = true) :
      Carries s .abort (s.abortTransfer i)
  | abortIdle (i : SpotId) (run : s.sdu.device = .run)
      (state : (s.spot i).state = .identified ∨ (s.spot i).state = .ready) :
      Carries s .abort (s.endTransfer i .aborted .complete false)
  | release (i : SpotId) (state : (s.spot i).state = .complete) :
      Carries s .release ((s.dropTally i).changeState i (s.restState i))
  | clearFaulted (i : SpotId) (state : (s.spot i).state = .faulted) :
      Carries s .clear (((s.dropTally i).reportUnknownTag i false).changeState i (s.restState i))
  | clearVacant (i : SpotId) (state : (s.spot i).state = .vacant) : Carries s .clear (s.clearVacant i)
  | drive (idx : Nat) (e : MapEntry) (o : Output) (b : Byte) (cmd : Command)
      (entry : entryAt s.imap idx = some e) (output : e.body = .output o) (initial : initialCommand e.role b = some cmd)
      (free : s.channelInUse e = false) :
      Carries s .setChannelMode (s.changeOutput idx (fun o => { o with latch := cmd, direction := .drive }))
  | monitor (idx : Nat) (e : MapEntry) (o : Output) (entry : entryAt s.imap idx = some e)
      (output : e.body = .output o) (free : s.channelInUse e = false) :
      Carries s .setChannelMode
        ((s.changeOutput idx (fun o => { o with direction := .monitor })).checkOwner e.role e.owner).endScan
  | ackChanges (i : SpotId) (named : Conditions) : Carries s .ackChanges (s.clearLatches i named)
  | trip : Carries s .trip (s.addTripCause causeRequested)
  | tripReset (tripped : s.sdu.device = .tripped) (live : anyLive s = false) :
      Carries s .tripReset s.enterRun

/-- A meaning of a command: it leaves the state as it was, or answers DONE and has the command's effect. -/
def Meaning (c : Instr) (f : List Byte → State → State × Reply) : Prop :=
  ∀ (args : List Byte) (s : State), (f args s).1 = s ∨ ((f args s).2.result = .done ∧ Carries s c (f args s).1)

@[simp] theorem fst_refuse (s : State) (r : Result) : (s.refuse r).1 = s := rfl
@[simp] theorem fst_done (s : State) (d : List Byte) : (s.done d).1 = s := rfl
@[simp] theorem result_done (s : State) (d : List Byte) : (s.done d).2.result = .done := rfl

/-- A check of the spot number before a meaning of the spot (RANGE outside 1 to 16). -/
theorem meaning_onSpot {c : Instr} {s : State} {f : SpotId → State × Reply} (n : Byte)
    (h : ∀ i, (f i).1 = s ∨ ((f i).2.result = .done ∧ Carries s c (f i).1)) :
    (s.onSpot n f).1 = s ∨ ((s.onSpot n f).2.result = .done ∧ Carries s c (s.onSpot n f).1) := by
  unfold State.onSpot
  split
  · exact .inl rfl
  · exact h _

theorem meaning_readStatus : Meaning .readStatus readStatus := fun args s => by
  unfold readStatus
  repeat' split
  all_goals exact .inl rfl

theorem meaning_readSpot : Meaning .readSpot readSpot := fun args s => by
  unfold readSpot
  split
  · refine meaning_onSpot _ fun i => ?_
    split
    · exact .inr ⟨rfl, .readSpot _ _⟩
    · exact .inl rfl
  · exact .inl rfl

theorem meaning_readRecord : Meaning .readRecord readRecord := fun args s => by
  unfold readRecord
  repeat' split
  all_goals exact .inl rfl

theorem meaning_readHistory : Meaning .readHistory readHistory := fun args s => by
  unfold readHistory State.onSpot
  repeat' split
  all_goals exact .inl rfl

theorem meaning_readCompressor : Meaning .readCompressor readCompressor := fun args s => by
  unfold readCompressor
  split
  · split
    · split
      exacts [.inl rfl, .inl rfl, .inr ⟨rfl, .readCompressor _⟩, .inl rfl, .inl rfl, .inl rfl, .inl rfl]
    · exact .inl rfl
  · exact .inl rfl

theorem meaning_readChannel : Meaning .readChannel readChannel := fun args s => by
  unfold readChannel
  repeat' split
  all_goals exact .inl rfl

theorem meaning_loadEntry (idx : Nat) (h : idx < 256) (w : MapWrite) (s : State) :
    (loadEntry idx w s).1 = s ∨
      ((loadEntry idx w s).2.result = .done ∧ Carries s .loadMapEntry (loadEntry idx w s).1) := by
  unfold loadEntry
  split
  · exact .inl rfl
  · next hr =>
    split
    · exact .inl rfl
    · next hu =>
      split
      · exact .inl rfl
      · next hd =>
        simp only [Bool.or_eq_true, not_or, Bool.not_eq_true] at hu
        exact .inr ⟨rfl, .writeEntry _ _ h (by simpa using hr) hu.1 hu.2 (by simpa using hd)⟩

theorem meaning_unloadEntry (idx : Nat) (s : State) :
    (unloadEntry idx s).1 = s ∨
      ((unloadEntry idx s).2.result = .done ∧ Carries s .loadMapEntry (unloadEntry idx s).1) := by
  unfold unloadEntry
  split
  · next he =>
    split
    · exact .inl rfl
    · next hu => exact .inr ⟨rfl, .removeEntry _ _ he (by simpa using hu)⟩
  · exact .inl rfl

theorem meaning_loadMap : Meaning .loadMapEntry loadMap := fun args s => by
  unfold loadMap
  split
  · exact meaning_unloadEntry _ _
  · split
    · exact meaning_loadEntry _ (BitVec.isLt _) _ _
    · exact .inl rfl
  · exact .inl rfl

theorem meaning_loadSpotRecord : Meaning .loadSpot loadSpotRecord := fun args s => by
  unfold loadSpotRecord
  split
  · refine meaning_onSpot _ fun i => ?_
    split
    · exact .inl rfl
    · split
      · exact .inl rfl
      · next hu => exact .inr ⟨rfl, .storeRecord _ _ (by simpa using hu)⟩
  · exact .inl rfl

theorem meaning_loadCurve : Meaning .loadMeterCurve loadCurve := fun args s => by
  unfold loadCurve
  split
  · split
    · refine meaning_onSpot _ fun i => ?_
      split
      · exact .inl rfl
      · split
        · exact .inl rfl
        · split
          · exact .inl rfl
          · next hr =>
            split
            · exact .inl rfl
            · next hu => exact .inr ⟨rfl, .storeCurve _ _ _ hr (by simpa using hu)⟩
    · exact .inl rfl
  · exact .inl rfl

theorem meaning_loadSegment : Meaning .loadProductSegment loadSegment := fun args s => by
  unfold loadSegment
  split
  · split
    · unfold loadValues
      split
      · exact .inl rfl
      · split
        · exact .inl rfl
        · split
          · exact .inl rfl
          · exact .inr ⟨rfl, .storeGroup _ _⟩
    · exact .inl rfl
  · exact .inl rfl

theorem meaning_loadCompRecord : Meaning .loadCompressor loadCompRecord := fun args s => by
  unfold loadCompRecord
  split
  · split
    · split
      · exact .inl rfl
      · split
        · exact .inl rfl
        · split
          · exact .inl rfl
          · next hu => exact .inr ⟨rfl, .removeComp _ (by simpa using hu)⟩
    · exact .inl rfl
  · split
    · split
      · exact .inl rfl
      · next hu => exact .inr ⟨rfl, .storeComp _ _ (by simpa using hu)⟩
    · exact .inl rfl
  · exact .inl rfl

theorem meaning_addRecord (group : Nat) (f : Fin 4 → CarRecord) (hf : ∀ g, (f g).status = .waiting) (s : State) :
    (addRecord group f s).1 = s ∨
      ((addRecord group f s).2.result = .done ∧ Carries s .addCar (addRecord group f s).1) := by
  unfold addRecord
  split
  · exact .inl rfl
  · simp only
    split
    · exact .inl rfl
    · split
      · exact .inl rfl
      · split
        · exact .inl rfl
        · exact .inr ⟨rfl, .addCar _ (hf _)⟩

theorem meaning_addCarRecord : Meaning .addCar addCarRecord := fun args s => by
  unfold addCarRecord
  split
  · simp only
    split
    · exact meaning_addRecord _ _ (fun _ => rfl) _
    · exact .inl rfl
  · exact .inl rfl

theorem meaning_removeCarRecord : Meaning .removeCar removeCarRecord := fun args s => by
  unfold removeCarRecord
  split
  · split
    · split
      · exact .inl rfl
      · next hr =>
        split
        · exact .inl rfl
        · split
          · exact .inl rfl
          · next hb => exact .inr ⟨rfl, .removeCar _ _ hr (by simpa using hb)⟩
    · exact .inl rfl
  · exact .inl rfl

/-- A request of one spot has the meaning its effect on the spot has. -/
theorem meaning_spotRequest {c : Instr} {f : SpotId → State → State × Reply}
    (h : ∀ i s, (f i s).1 = s ∨ ((f i s).2.result = .done ∧ Carries s c (f i s).1)) : Meaning c (spotRequest f) :=
  fun args s => by
    unfold spotRequest
    split
    · exact meaning_onSpot _ fun i => h i s
    · exact .inl rfl

/-- The same for a request that is refused while the part is TRIPPED (R181). -/
theorem meaning_transferRequest {c : Instr} {f : SpotId → State → State × Reply}
    (h : ∀ i s, s.sdu.device = .run → (f i s).1 = s ∨ ((f i s).2.result = .done ∧ Carries s c (f i s).1)) :
    Meaning c (transferRequest f) :=
  meaning_spotRequest fun i s => by
    unfold State.inRun
    split
    · exact .inl rfl
    · next hd => exact h _ _ hd

theorem meaning_start : Meaning .start (transferRequest startSpot) := meaning_transferRequest fun i s hd => by
  unfold startSpot
  split
  · exact .inl rfl
  · next hs =>
    split
    · exact .inl rfl
    · split
      · exact .inl rfl
      · next hv =>
        repeat' split
        exacts [.inl rfl, .inl rfl, .inl rfl, .inr ⟨rfl, .start _ hd (by simpa using hs) (by simpa using hv)⟩]

theorem meaning_suspend : Meaning .suspend (transferRequest suspendSpot) := meaning_transferRequest fun i s hd => by
  unfold suspendSpot
  split
  · exact .inl rfl
  · next hs =>
    repeat' split
    exacts [.inl rfl, .inl rfl, .inr ⟨rfl, .suspend _ hd (by simpa using hs)⟩]

theorem meaning_resume : Meaning .resume (transferRequest resumeSpot) := meaning_transferRequest fun i s hd => by
  unfold resumeSpot
  split
  · exact .inl rfl
  · next hs =>
    split
    · exact .inl rfl
    · next hl => exact .inr ⟨rfl, .resume _ hd (by simpa using hs) (by simpa using hl)⟩

theorem meaning_stop : Meaning .stop (transferRequest stopSpot) := meaning_transferRequest fun i s hd => by
  unfold stopSpot
  split
  · next hs => exact .inr ⟨rfl, .stop _ hd hs⟩
  · exact .inl rfl

theorem meaning_abort : Meaning .abort (transferRequest abortSpot) := meaning_transferRequest fun i s hd => by
  unfold abortSpot
  split
  · next ha => exact .inr ⟨rfl, .abort _ hd ha⟩
  · split
    · next hs => exact .inr ⟨rfl, .abortIdle _ hd hs⟩
    · exact .inl rfl

theorem meaning_release : Meaning .release (spotRequest releaseSpot) := meaning_spotRequest fun i s => by
  unfold releaseSpot
  split
  · exact .inl rfl
  · next hs =>
    split
    · exact .inl rfl
    · exact .inr ⟨rfl, .release _ (by simpa using hs)⟩

theorem meaning_clear : Meaning .clear (spotRequest clearSpot) := meaning_spotRequest fun i s => by
  unfold clearSpot
  split
  · next hs =>
    split
    · exact .inr ⟨rfl, .clearFaulted _ hs⟩
    · exact .inl rfl
  · next hs => exact .inr ⟨rfl, .clearVacant _ hs⟩
  · exact .inl rfl

/-- The output entry at an index is the entry there, and its body is an image. -/
theorem outputAt_eq_some {s : State} {idx : Nat} {e : MapEntry} (h : s.outputAt idx = some e) :
    entryAt s.imap idx = some e ∧ ∃ o, e.body = .output o := by
  unfold State.outputAt at h
  split at h
  · next he =>
    split at h
    · next o ho =>
      cases h
      exact ⟨he, o, ho⟩
    · cases h
  · cases h

theorem meaning_setMode : Meaning .setChannelMode setMode := fun args s => by
  unfold setMode
  split
  · split
    · split
      · next he =>
        obtain ⟨he, o, ho⟩ := outputAt_eq_some he
        unfold monitorChannel
        split
        · exact .inl rfl
        · next hu => exact .inr ⟨rfl, .monitor _ _ o he ho (by simpa using hu)⟩
      · exact .inl rfl
    · exact .inl rfl
  · split
    · split
      · next he =>
        obtain ⟨he, o, ho⟩ := outputAt_eq_some he
        split
        · next hc =>
          unfold driveChannel
          split
          · exact .inl rfl
          · next hu => exact .inr ⟨rfl, .drive _ _ o _ _ he ho hc (by simpa using hu)⟩
        · exact .inl rfl
      · exact .inl rfl
    · exact .inl rfl
  · exact .inl rfl

theorem meaning_ackSpot : Meaning .ackChanges ackSpot := fun args s => by
  unfold ackSpot
  split
  · split
    · exact .inl rfl
    · exact meaning_onSpot _ fun i => .inr ⟨rfl, .ackChanges _ _⟩
  · exact .inl rfl

theorem meaning_tripPart : Meaning .trip tripPart := fun args s => by
  unfold tripPart
  split
  · exact .inr ⟨rfl, .trip⟩
  · exact .inl rfl

theorem meaning_resetTrip : Meaning .tripReset resetTrip := fun args s => by
  unfold resetTrip
  split
  · split
    · exact .inl rfl
    · next hd =>
      split
      · exact .inl rfl
      · next hl => exact .inr ⟨rfl, .tripReset hd (by simpa using hl)⟩
  · exact .inl rfl

/-! ## The effect of a command -/

/-- The effect of a command on a powered part. -/
inductive Acts (s : State) : Instr → State → Prop
  | esdAsserted : Acts s .esdLineAsserted (State.addTripCause { s with
      pins := { s.pins with esdAsserted := true }, sdu := { s.sdu with esdAsserted := true } } causeEsd)
  | esdReleased : Acts s .esdLineReleased
      { s with pins := { s.pins with esdAsserted := false }, sdu := { s.sdu with esdAsserted := false } }
  | frame (f : Frame) : Acts s (.frameArrival f) (s.frameArrival f)
  | transmit : Acts s .transmitComplete s.transmitComplete
  | silence : Acts s .silenceExpiry s.silenceExpired
  | staleness (k : Nat) : Acts s (.stalenessExpiry k) (s.stalenessExpiry k)
  | travel (n : Nat) (i : SpotId) : Acts s (.travelTimerExpiry n) (s.travelExpired i)
  | pressurise (n : Nat) (i : SpotId) : Acts s (.pressuriseTimerExpiry n) (s.pressuriseExpired i)
  | suspend (n : Nat) (i : SpotId) : Acts s (.suspendTimerExpiry n) (s.suspendExpired i)
  | pass (n : Nat) (i : SpotId) : Acts s (.passTimerExpiry n) (s.passExpired i)
  | settle (n : Nat) (i : SpotId) : Acts s (.settleTimerExpiry n) (s.settleExpired i)
  | confirmation (n : Nat) (c : CompId) : Acts s (.confirmationTimerExpiry n) (s.confirmationExpired c)
  | popdown (n : Nat) (c : CompId) : Acts s (.popdownTimerExpiry n) (s.popdownDue c)
  | history (n : Nat) (c : CompId) : Acts s (.startHistoryRemoval n) (s.startAged c)
  | refresh (k : Nat) : Acts s (.refreshTimerExpiry k) (s.refreshExpired k)
  | tick : Acts s .residencyTick (allComps.foldl (fun s c => s.modComp c addSecond) s).tickUptime
  | answered (c : Instr) (q : Request) (p : Reply) (held : s.mgu.held = some q) (plain : startsAnew c = false)
      (supply : c ≠ .lossOfSupply) : Acts s c (s.answer q p)
  | carried (c : Instr) (u : State) (q : Request) (p : Reply) (held : s.mgu.held = some q) (effect : Carries s c u) :
      Acts s c (u.answer q p)
  | resetPart (q : Request) (held : s.mgu.held = some q) :
      Acts s .resetPart (State.takeRequest { s.resetEffect (replyMessage q ⟨.done, []⟩) with
        mgu := { (s.resetEffect (replyMessage q ⟨.done, []⟩)).mgu with held := none } })

/-- The effect of a command on the part. -/
inductive Falls (s : State) : Instr → State → Prop
  | idle (c : Instr) : Falls s c s
  | powerOn (b : Byte) : Falls s (.powerOn b) (s.powerOnState b)
  | resetInput (b : Byte) :
      Falls s (.resetInput b) (State.powerOnState { s with pins := { s.pins with resetAsserted := true } } b)
  | resetLine (b : Byte) : Falls s (.resetInput b) { s with pins := { s.pins with resetAsserted := true } }
  | resetRelease : Falls s .resetInputRelease { s with pins := { s.pins with resetAsserted := false } }
  | loss : Falls s .lossOfSupply { s with
      powered := false, pins := { s.pins with tripEnergised := false }, rpu := { s.rpu with sending := none } }
  | esdLevel (c : Instr) (b : Bool) (line : c = .esdLineAsserted ∨ c = .esdLineReleased) :
      Falls s c { s with pins := { s.pins with esdAsserted := b } }
  | acts (c : Instr) (t : State) (on : s.powered = true) (effect : Acts s c t) : Falls s c t

/-- A command of a powered part has its effect or none; without supply nothing falls. -/
theorem falls_whenPowered {c : Instr} {s : State} {f : State → State} (h : f s = s ∨ Acts s c (f s)) :
    ∃ t, s.whenPowered f = .next t ∧ Falls s c t := by
  cases hp : s.powered with
  | false => exact ⟨_, whenPowered_off s f hp, .idle _⟩
  | true =>
    refine ⟨_, whenPowered_on s f hp, ?_⟩
    rcases h with h | h
    · rw [h]
      exact .idle _
    · exact .acts _ _ hp h

theorem acts_atSpot {c : Instr} {s : State} (n : Nat) {f : State → SpotId → State} (h : ∀ i, Acts s c (f s i)) :
    s.atSpot n f = s ∨ Acts s c (s.atSpot n f) := by
  unfold State.atSpot
  split
  · exact .inr (h _)
  · exact .inl rfl

theorem acts_atComp {c : Instr} {s : State} (n : Nat) {f : State → CompId → State} (h : ∀ i, Acts s c (f s i)) :
    s.atComp n f = s ∨ Acts s c (s.atComp n f) := by
  unfold State.atComp
  split
  · exact .inr (h _)
  · exact .inl rfl

/-- The request rows: what falls is the meaning's effect, answered (R182). -/
theorem falls_request {c : Instr} {f : List Byte → State → State × Reply} (code : Byte) (hf : Meaning c f)
    (hc : startsAnew c = false) (hl : c ≠ .lossOfSupply) (s : State) :
    ∃ t, s.request code f = .next t ∧ Falls s c t :=
  falls_whenPowered (f := fun s => s.serve code f) <| by
    unfold State.serve
    split
    · exact .inl rfl
    · next q hq =>
      split
      · exact .inl rfl
      · next args _ =>
        split
        · rcases hf args s with h | ⟨_, h⟩
          · rw [h]
            exact .inr (.answered _ _ _ hq hc hl)
          · exact .inr (.carried _ _ _ _ hq h)
        · exact .inl rfl

/-- The ESD line of a powered part: the Shutdown Unit is told (R172). -/
theorem exec_esdLineAsserted_on (s : State) (h : s.powered = true) : exec .esdLineAsserted s =
    .next (State.addTripCause { s with
      pins := { s.pins with esdAsserted := true }, sdu := { s.sdu with esdAsserted := true } } causeEsd) := if_pos h

theorem exec_esdLineReleased_on (s : State) (h : s.powered = true) : exec .esdLineReleased s =
    .next { s with pins := { s.pins with esdAsserted := false }, sdu := { s.sdu with esdAsserted := false } } :=
  if_pos h

/-- Without supply the line's level alone moves (log 8). -/
theorem exec_esdLineAsserted_off (s : State) (h : s.powered = false) : exec .esdLineAsserted s =
    .next { s with pins := { s.pins with esdAsserted := true } } := if_neg (ne_true_of_eq_false h)

theorem exec_esdLineReleased_off (s : State) (h : s.powered = false) : exec .esdLineReleased s =
    .next { s with pins := { s.pins with esdAsserted := false } } := if_neg (ne_true_of_eq_false h)

/-- Every command answers a next state, and the state is one of the effects listed. -/
theorem exec_falls (c : Instr) (s : State) : ∃ t, exec c s = .next t ∧ Falls s c t := by
  cases c with
  | powerOn b => exact ⟨_, rfl, .powerOn _⟩
  | resetInput b =>
    change ∃ t, execResetInput b s = .next t ∧ _
    unfold execResetInput
    split
    · exact ⟨_, rfl, .idle _⟩
    · simp only
      split
      · exact ⟨_, rfl, .resetInput _⟩
      · exact ⟨_, rfl, .resetLine _⟩
  | esdLineAsserted =>
    by_cases hp : s.powered = true
    · exact ⟨_, exec_esdLineAsserted_on s hp, .acts _ _ hp .esdAsserted⟩
    · have off : s.powered = false := by simpa using hp
      exact ⟨_, exec_esdLineAsserted_off s off, .esdLevel _ _ (.inl rfl)⟩
  | esdLineReleased =>
    by_cases hp : s.powered = true
    · exact ⟨_, exec_esdLineReleased_on s hp, .acts _ _ hp .esdReleased⟩
    · have off : s.powered = false := by simpa using hp
      exact ⟨_, exec_esdLineReleased_off s off, .esdLevel _ _ (.inr rfl)⟩
  | frameArrival f => exact falls_whenPowered (f := fun s => s.frameArrival f) (.inr (.frame f))
  | transmitComplete => exact falls_whenPowered (.inr .transmit)
  | silenceExpiry => exact falls_whenPowered (.inr .silence)
  | stalenessExpiry k => exact falls_whenPowered (f := fun s => s.stalenessExpiry k) (.inr (.staleness k))
  | travelTimerExpiry n =>
    exact falls_whenPowered (f := fun s => s.atSpot n State.travelExpired) (acts_atSpot n fun i => .travel n i)
  | pressuriseTimerExpiry n =>
    exact falls_whenPowered (f := fun s => s.atSpot n State.pressuriseExpired) (acts_atSpot n fun i => .pressurise n i)
  | suspendTimerExpiry n =>
    exact falls_whenPowered (f := fun s => s.atSpot n State.suspendExpired) (acts_atSpot n fun i => .suspend n i)
  | passTimerExpiry n =>
    exact falls_whenPowered (f := fun s => s.atSpot n State.passExpired) (acts_atSpot n fun i => .pass n i)
  | settleTimerExpiry n =>
    exact falls_whenPowered (f := fun s => s.atSpot n State.settleExpired) (acts_atSpot n fun i => .settle n i)
  | confirmationTimerExpiry n =>
    exact falls_whenPowered (f := fun s => s.atComp n State.confirmationExpired) (acts_atComp n fun i => .confirmation n i)
  | popdownTimerExpiry n =>
    exact falls_whenPowered (f := fun s => s.atComp n State.popdownDue) (acts_atComp n fun i => .popdown n i)
  | startHistoryRemoval n =>
    exact falls_whenPowered (f := fun s => s.atComp n State.startAged) (acts_atComp n fun i => .history n i)
  | refreshTimerExpiry k => exact falls_whenPowered (f := fun s => s.refreshExpired k) (.inr (.refresh k))
  | residencyTick =>
    exact falls_whenPowered (f := fun s => (allComps.foldl (fun s c => s.modComp c addSecond) s).tickUptime)
      (.inr .tick)
  | readStatus => exact falls_request _ meaning_readStatus rfl (by decide) s
  | readSpot => exact falls_request _ meaning_readSpot rfl (by decide) s
  | readRecord => exact falls_request _ meaning_readRecord rfl (by decide) s
  | readHistory => exact falls_request _ meaning_readHistory rfl (by decide) s
  | readCompressor => exact falls_request _ meaning_readCompressor rfl (by decide) s
  | readChannel => exact falls_request _ meaning_readChannel rfl (by decide) s
  | loadMapEntry => exact falls_request _ meaning_loadMap rfl (by decide) s
  | loadSpot => exact falls_request _ meaning_loadSpotRecord rfl (by decide) s
  | loadMeterCurve => exact falls_request _ meaning_loadCurve rfl (by decide) s
  | loadProductSegment => exact falls_request _ meaning_loadSegment rfl (by decide) s
  | loadCompressor => exact falls_request _ meaning_loadCompRecord rfl (by decide) s
  | addCar => exact falls_request _ meaning_addCarRecord rfl (by decide) s
  | removeCar => exact falls_request _ meaning_removeCarRecord rfl (by decide) s
  | start => exact falls_request _ meaning_start rfl (by decide) s
  | suspend => exact falls_request _ meaning_suspend rfl (by decide) s
  | resume => exact falls_request _ meaning_resume rfl (by decide) s
  | stop => exact falls_request _ meaning_stop rfl (by decide) s
  | abort => exact falls_request _ meaning_abort rfl (by decide) s
  | release => exact falls_request _ meaning_release rfl (by decide) s
  | clear => exact falls_request _ meaning_clear rfl (by decide) s
  | setChannelMode => exact falls_request _ meaning_setMode rfl (by decide) s
  | ackChanges => exact falls_request _ meaning_ackSpot rfl (by decide) s
  | trip => exact falls_request _ meaning_tripPart rfl (by decide) s
  | tripReset => exact falls_request _ meaning_resetTrip rfl (by decide) s
  | resetPart =>
    refine falls_whenPowered (f := State.carryReset) ?_
    unfold State.carryReset
    split
    · exact .inl rfl
    · next q hq =>
      split
      · exact .inl rfl
      · split
        · split
          · exact .inr (.resetPart _ hq)
          · exact .inr (.answered _ _ _ hq rfl (by decide))
        · exact .inl rfl
  | unknownRequest =>
    refine falls_whenPowered (f := State.answerUnknown) ?_
    unfold State.answerUnknown
    split
    · exact .inl rfl
    · next q hq =>
      split
      · exact .inr (.answered _ _ _ hq rfl (by decide))
      · exact .inl rfl
  | lossOfSupply => exact ⟨_, rfl, .loss⟩
  | resetInputRelease => exact ⟨_, rfl, .resetRelease⟩

/-- The effect of a command that answered a state. -/
theorem falls_of_exec {c : Instr} {s t : State} (h : exec c s = .next t) : Falls s c t := by
  obtain ⟨u, hu, hf⟩ := exec_falls c s
  rw [h] at hu
  cases hu
  exact hf

/-- What every command keeps, whatever waits in the queue, every step keeps. -/
theorem step_keeps {P : State → Prop} (hq : ∀ s l, P s → P { s with pending := l })
    (h : ∀ c s t, Falls s c t → P s → P t) {s t : State} (hs : step s = .next t) (hp : P s) : P t := by
  cases hl : s.pending with
  | nil =>
    rw [step_nil s hl] at hs
    cases hs
    exact hp
  | cons c l =>
    unfold step at hs
    rw [hl] at hs
    exact h c _ _ (falls_of_exec hs) (hq s l hp)

/-- Settles O1: a step is the front command's effect, and each of the 46 effects is a next state. -/
theorem stepRunsFrontCommand : Obligations.StepRunsFrontCommand := by
  unfold Obligations.StepRunsFrontCommand
  refine ⟨step_cons, step_nil, fun c s => ?_⟩
  obtain ⟨t, ht, _⟩ := exec_falls c s
  exact ⟨t, ht⟩

end Sys2Proof.Machine
end

section
/-! Three laws through every command: the trip output line with the device state and no active spot while TRIPPED, raw conservation,
and the law of the manifest. One relation between the state before and after a command carries the three. -/

namespace Sys2Proof.Machine

/-- What a command of a powered part keeps of the three laws. -/
structure Lawful (s t : State) : Prop where
  powered : t.powered = s.powered
  line    : s.powered = true → LineOk s → LineOk t
  quiet   : Quiet s → Quiet t
  raw     : (∀ i, s.isActive i = true → Conserved s i) → ∀ i, t.isActive i = true → Conserved t i
  bind    : (∀ i, BindOk s i) → ∀ i, BindOk t i

theorem Lawful.refl (s : State) : Lawful s s := ⟨rfl, fun _ h => h, fun h => h, fun h => h, fun h => h⟩

theorem Lawful.trans {a b c : State} (h : Lawful a b) (k : Lawful b c) : Lawful a c where
  powered := k.powered.trans h.powered
  line := fun p l => k.line (h.powered.trans p) (h.line p l)
  quiet := fun q => k.quiet (h.quiet q)
  raw := fun r => k.raw (h.raw r)
  bind := fun b => k.bind (h.bind b)

/-- An event inside the part keeps the laws. -/
theorem Turn.lawful {s t : State} (h : Turn s t) : Lawful s t where
  powered := h.powered
  line := h.line
  quiet := h.quiet
  raw := fun r i a => h.conserve i (r i (h.active i a))
  bind := h.bind

theorem Inside.lawful {s t : State} (h : Inside s t) : Lawful s t := h.turn.lawful

/-- What writes none of the parts the laws speak of keeps them. -/
theorem lawful_of_parts {s t : State} (powered : t.powered = s.powered)
    (line : t.pins.tripEnergised = s.pins.tripEnergised) (device : t.sdu.device = s.sdu.device)
    (spots : t.spots = s.spots) (table : t.table = s.table) (manifest : t.manifest = s.manifest) : Lawful s t := by
  have hspot : ∀ i, t.spot i = s.spot i := spot_of_spots spots
  have hactive : ∀ i, t.isActive i = s.isActive i := fun i => by rw [State.isActive, State.isActive, hspot i]
  refine ⟨powered, fun _ l => ?_, fun q d i => ?_, fun r i a => ?_, fun b i => ?_⟩
  · rw [LineOk, line, powered, device]; exact l
  · rw [hactive]; exact q (device ▸ d) i
  · rw [Conserved, hspot, recordField_of_table table]; exact r i (hactive i ▸ a)
  · rw [BindOk, hspot, manifest]; exact b i

/-! ## Samples, whatever the form of the map -/

/-- A body written where the map, if it is in canonical form, has an entry of the same shape. -/
theorem inner_setBody_of_rising (s : State) (k : Nat) (b : EntryBody)
    (h : Rising s.imap → ∀ e, entryAt s.imap k = some e → entryShape (k, { e with body := b }) = entryShape (k, e)) :
    Inside s (s.setBody k b) := by
  by_cases hr : Rising s.imap
  · exact inner_setBody s k b (h hr)
  · unfold State.setBody
    split
    · exact ⟨rfl, .refl _, fun r => absurd r hr, fun _ h => h, fun _ h => h, fun h => h, rfl, fun _ _ h _ => h⟩
    · exact .refl s

/-- An accepted sample is an event inside the part, though the map be in no order. -/
theorem turn_acceptSample_found (s : State) (f : Frame) (x : Byte) (k : Nat) (e : MapEntry) (d : Dynamic) (q : Byte)
    (v : Value) (h : findKey s.imap f.source x = some (k, e)) (hb : e.body = .input d) :
    Turn s (s.acceptSample k e d q v) := by
  unfold State.acceptSample
  refine Turn.trans ?_ (turn_deliver _ _ _ _ _)
  refine Turn.trans (Inside.turn (inner_setBody_of_rising s k (.input (acceptInto d e.role q v s.uptime))
    fun hr e' he' => ?_)) ?_
  · rw [entryAt_of_findKey hr h] at he'
    cases he'
    simp [entryShape, MapEntry.image, hb]
  · generalize s.setBody k (.input (acceptInto d e.role q v s.uptime)) = t
    refine Turn.trans (inner_reevaluateAll t (concernedSpots t e.role e.owner)).turn ?_
    split
    · exact (inner_tellFresh _ _ _).turn
    · exact .refl _

theorem turn_offerSample_any (s : State) (f : Frame) : Turn s (s.offerSample f) := by
  unfold State.offerSample
  split
  · exact .refl s
  · split
    · exact .refl s
    · split
      · exact .refl s
      · next hk =>
        split
        · exact .refl s
        · next hb =>
          split
          · split
            · exact (turn_acceptSample_found s f _ _ _ _ _ _ hk hb).trans (inner_endScan _).turn
            · exact .refl s
          · exact .refl s

/-! ## The ring port's events -/

theorem lawful_noteValidFrame (s : State) : Lawful s s.noteValidFrame := lawful_of_parts rfl rfl rfl rfl rfl rfl

theorem lawful_modRpu (s : State) (f : Rpu → Rpu) : Lawful s (s.modRpu f) := lawful_of_parts rfl rfl rfl rfl rfl rfl

theorem lawful_takeRequest (s : State) : Lawful s s.takeRequest := by
  obtain ⟨m, p, q, h⟩ := takeRequest_eq s
  rw [h]
  exact lawful_of_parts rfl rfl rfl rfl rfl rfl

theorem lawful_answer (s : State) (q : Request) (p : Reply) : Lawful s (s.answer q p) := by
  obtain ⟨m, r, h⟩ := answer_eq s q p
  rw [h]
  exact lawful_of_parts rfl rfl rfl rfl rfl rfl

theorem lawful_takeManage (s : State) (f : Frame) : Lawful s (s.takeManage f) := by
  unfold State.takeManage
  split
  · exact (lawful_modRpu _ _).trans (lawful_takeRequest _)
  · exact lawful_modRpu _ _

theorem lawful_disposeFrame (s : State) (a : Byte) (f : Frame) : Lawful s (s.disposeFrame a f) := by
  unfold State.disposeFrame
  split
  · exact (turn_offerSample_any _ _).lawful.trans (lawful_modRpu _ _)
  · split
    · exact lawful_takeManage _ _
    · exact lawful_modRpu _ _

theorem lawful_frameArrival (s : State) (f : Frame) : Lawful s (s.frameArrival f) := by
  unfold State.frameArrival
  split
  · refine (lawful_noteValidFrame s).trans ?_
    simp only
    split
    · split
      · exact .refl _
      · exact lawful_modRpu _ _
    · split
      · exact .refl _
      · split
        · exact .refl _
        · exact lawful_disposeFrame _ _ _
  · exact .refl s

theorem lawful_transmitComplete (s : State) : Lawful s s.transmitComplete := by
  unfold State.transmitComplete
  split
  · exact .refl s
  · exact (lawful_modRpu _ _).trans (lawful_takeRequest _)

theorem lawful_silenceExpired (s : State) : Lawful s s.silenceExpired := by
  unfold State.silenceExpired
  split
  · exact .refl s
  · split
    · exact (lawful_of_parts rfl rfl rfl rfl rfl rfl : Lawful s { s with
        rpu := { s.rpu with silence := .silent }, sdu := { s.sdu with ringSilent := true } }).trans
        (turn_addTripCause _ _).lawful
    · exact .refl s

/-! ## The second of uptime -/

/-- Any change of compressors keeps the laws. -/
theorem lawful_foldl_modComp (l : List CompId) (f : Compressor → Compressor) (s : State) :
    Lawful s (l.foldl (fun s c => s.modComp c f) s) :=
  (Inside.foldl _ (fun s c => inner_modComp s c f) l s).lawful

theorem lawful_tickUptime (s : State) : Lawful s s.tickUptime := by
  unfold State.tickUptime
  split
  · exact lawful_of_parts rfl rfl rfl rfl rfl rfl
  · exact lawful_of_parts rfl rfl rfl rfl rfl rfl

/-! ## Loads -/

theorem holdsCar_of_notInUse {st : SpotState} (h : st.inUse = false) : st.holdsCar = false := by
  cases st with
  | vacant | disabled | complete => rfl
  | opening | pressurising | unloading | liquidClosing | recovery | closing | suspended | identified | ready | faulted => cases h

theorem active_of_holdsCar_eq_false {st : SpotState} (h : st.holdsCar = false) : st.active = false := by
  simp only [SpotState.holdsCar, Bool.or_eq_false_iff] at h
  exact h.1.1

theorem stateAfterLoad_holdsCar {st : SpotState} (b : Bool) (h : st.inUse = false) :
    (stateAfterLoad st b).holdsCar = false := by
  cases st with
  | vacant | disabled | complete => cases b <;> rfl
  | opening | pressurising | unloading | liquidClosing | recovery | closing | suspended | identified | ready | faulted => cases h

/-- A record written for a spot that is in no active state: no transfer reads it. -/
theorem lawful_setRecord (s : State) (i : SpotId) (r : SpotRecord) (h : s.isActive i = false) :
    Lawful s (s.setRecord i r) := by
  refine ⟨rfl, fun _ l => l, fun q => q, fun raw j a => ?_, fun b => b⟩
  have hj : j ≠ i := by
    rintro rfl
    exact absurd (h.symm.trans a) (by decide)
  have hrec : (s.setRecord i r).record j = s.record j := vectorGet_set_other _ _ hj
  have hfield : (s.setRecord i r).recordField j (·.kc) = s.recordField j (·.kc) := by
    rw [State.recordField, State.recordField, hrec]
  rw [Conserved, hfield]
  exact raw j a

theorem lawful_checkOwner (s : State) (r : Role) (o : Nat) : Lawful s (s.checkOwner r o) := by
  unfold State.checkOwner
  split
  · split
    · exact (inner_checkUsable _ _).lawful
    · exact .refl s
  · exact .refl s

theorem lawful_withdraw (s : State) (k : Nat) (e : MapEntry) : Lawful s (s.withdraw k e) :=
  (lawful_of_parts rfl rfl rfl rfl rfl rfl : Lawful s { s with imap := dropEntry s.imap k }).trans
    (lawful_checkOwner _ _ _)

theorem lawful_withdrawOld (s : State) (k : Nat) (w : MapWrite) (old : Option MapEntry) :
    Lawful s (s.withdrawOld k w old) := by
  unfold State.withdrawOld
  split
  · split
    · exact .refl s
    · exact lawful_withdraw _ _ _
  · exact .refl s

theorem lawful_takeEntry (s : State) (k : Nat) (w : MapWrite) : Lawful s (s.takeEntry k w) := by
  unfold State.takeEntry
  split
  · refine (inner_settleOutput s k none).lawful.trans (Lawful.trans ?_ (lawful_checkOwner _ _ _))
    split
    · exact (inner_writeLatch _ _ _ _).lawful
    · exact .refl _
  · split
    · exact (turn_tellStale _ _ _ _).lawful
    · exact .refl s

theorem lawful_writeEntry (s : State) (k : Nat) (w : MapWrite) : Lawful s (s.writeEntry k w) := by
  unfold State.writeEntry
  refine Lawful.trans ?_ ((inner_reevaluateAll _ _).trans (inner_endScan _)).lawful
  refine Lawful.trans ?_ (lawful_takeEntry _ _ _)
  refine Lawful.trans (b := (s.clearIndex k).withdrawOld k w (entryAt s.imap k)) ?_
    (lawful_of_parts rfl rfl rfl rfl rfl rfl)
  exact (lawful_modRpu s _).trans (lawful_withdrawOld _ _ _ _)

theorem lawful_removeEntry (s : State) (k : Nat) (e : MapEntry) : Lawful s (s.removeEntry k e) :=
  ((lawful_modRpu s _).trans (lawful_withdraw _ _ _)).trans
    ((inner_reevaluateAll _ _).trans (inner_endScan _)).lawful

theorem spot_storeConditions (s : State) (i j : SpotId) (now : Conditions) :
    (s.storeConditions i now).spot j = s.spot j := by
  unfold State.storeConditions
  simp only
  split <;> rfl

theorem lawful_storeRecord (s : State) (i : SpotId) (r : SpotRecord) (h : s.spotInUse i = false) :
    Lawful s (s.storeRecord i r) := by
  have hcar : (s.spot i).state.holdsCar = false := holdsCar_of_notInUse h
  have hafter : (stateAfterLoad (s.spot i).state r.enabled).holdsCar = false := stateAfterLoad_holdsCar _ h
  unfold State.storeRecord
  refine (lawful_setRecord s i r (active_of_holdsCar_eq_false hcar)).trans ?_
  simp only
  generalize conditionSet (s.setRecord i r) i _ = now
  refine Lawful.trans (inner_storeConditions (s.setRecord i r) i now).lawful ?_
  split
  · exact .refl _
  · refine (inner_changeState _ i _ ?_ fun a => ?_).lawful
    · rw [spot_storeConditions]
      exact hafter.trans hcar.symm
    · rw [active_of_holdsCar_eq_false hafter] at a
      cases a

theorem lawful_removeCompRecord (s : State) (c : CompId) : Lawful s (s.removeCompRecord c) :=
  (((inner_modComp s c _).trans (inner_checkUsable _ _)).trans (inner_endScan _)).lawful

/-! ## Cars -/

theorem lawful_of_manifest (s : State) (m : List CarRecord)
    (h : ∀ i, boundCount m i = boundCount s.manifest i) : Lawful s { s with manifest := m } := by
  refine ⟨rfl, fun _ l => l, fun q => q, fun r => r, fun b i => ?_⟩
  have hi := b i
  rw [BindOk] at hi ⊢
  exact (h i).trans hi

/-- A record that is not BOUND counts at no spot. -/
theorem boundCount_eraseIdx {m : List CarRecord} {k : Nat} {r : CarRecord} (h : m[k]? = some r)
    (free : r.status.isBound = false) (i : SpotId) : boundCount (m.eraseIdx k) i = boundCount m i := by
  have hr : r.status ≠ .bound i := fun e => by rw [e] at free; cases free
  induction m generalizing k with
  | nil => rfl
  | cons c m ih =>
    cases k with
    | zero =>
      cases (Option.some.inj h)
      simp [boundCount, hr]
    | succ k =>
      have := ih (k := k) h
      simp only [boundCount] at this ⊢
      simp [List.countP_cons, this]

theorem lawful_removeRecord (s : State) (p : Nat) (r : CarRecord) (h : recordAt s.manifest p = some r)
    (free : r.status.isBound = false) : Lawful s (s.removeRecord p) := by
  cases p with
  | zero => cases h
  | succ k =>
    refine (lawful_of_manifest s (s.manifest.eraseIdx k) (boundCount_eraseIdx h free)).trans ?_
    have hspot : ∀ i, (s.removeRecord (k + 1)).spot i = { s.spot i with lastHeld := shiftLink (k + 1) (s.spot i).lastHeld } :=
      fun i => by simp [State.removeRecord, State.spot, Vector.get_eq_getElem]
    have hactive : ∀ i, (s.removeRecord (k + 1)).isActive i = s.isActive i := fun i => by
      rw [State.isActive, State.isActive, hspot i]
    refine ⟨rfl, fun _ l => l, fun q d i => (hactive i).trans (q d i), fun raw i a => ?_, fun b i => ?_⟩
    · have := raw i ((hactive i).symm.trans a)
      rw [Conserved, hspot i]
      exact this
    · have := b i
      rw [BindOk, hspot i]
      exact this

/-! ## Transfers -/

/-- START begins a transfer with every figure at 0 (R64, R112). -/
theorem lawful_startTransfer (s : State) (i : SpotId) (run : s.sdu.device = .run) (h : (s.spot i).state = .ready) :
    Lawful s (s.startTransfer i) := by
  have hfirst : Inside s (s.modSpot i (startContext (liveCauses s i))) :=
    inner_context s i _ rfl (fun a => a) (fun _ => by simp [startContext, Accumulators.zero])
  have hraw : Conserved (s.modSpot i (startContext (liveCauses s i))) i := by
    simp [Conserved, startContext, Accumulators.zero]
  have hst : ((s.modSpot i (startContext (liveCauses s i))).spot i).state = .ready := by
    simpa [startContext] using h
  unfold State.startTransfer
  simp only
  generalize s.modSpot i (startContext (liveCauses s i)) = u at *
  have haside : Aside u ((u.writeValve .liqCmd i .closed).writeValve .vapCmd i .opened) :=
    (aside_writeValve _ _ _ _).trans (aside_writeValve _ _ _ _)
  have hvalves : Inside u ((u.writeValve .liqCmd i .closed).writeValve .vapCmd i .opened) :=
    (inner_writeValve _ _ _ _).trans (inner_writeValve _ _ _ _)
  generalize (u.writeValve .liqCmd i .closed).writeValve .vapCmd i .opened = v at *
  have hrun : v.sdu.device = .run := by rw [hvalves.sdu, hfirst.sdu, run]
  have hstv : (v.spot i).state = .ready := by rw [haside.state, hst]
  refine (hfirst.trans hvalves).lawful.trans (Lawful.trans (b := v.setState i .opening) ?_
    ((inner_modSpot _ i (fun x => { x with
      travel := some ⟨(v.setState i .opening).uptime + (v.setState i .opening).recordField i (·.travelLimit), .vapPos, .opened⟩ })
      rfl rfl).trans (inner_announce _ _)).lawful)
  refine ⟨rfl, fun _ l => l, fun _ d => absurd (hrun.symm.trans d) (by decide), fun raw j a => ?_, fun b j => ?_⟩
  · have hj : Conserved v j := by
      by_cases e : j = i
      · subst e
        exact hvalves.conserve j hraw
      · refine raw j ?_
        simpa [State.isActive, State.setState, spot_modSpot, e] using a
    by_cases e : j = i
    · subst e
      simpa [Conserved, State.setState] using hj
    · simpa [Conserved, State.setState, spot_modSpot, e] using hj
  · have hj := b j
    by_cases e : j = i
    · subst e
      simpa [BindOk, State.setState, hstv, SpotState.holdsCar, SpotState.active] using hj
    · simpa [BindOk, State.setState, spot_modSpot, e] using hj

theorem active_of_stoppable {x : SpotContext} (h : x.stoppable = true) : x.state.active = true := by
  unfold SpotContext.stoppable at h
  split at h
  · next e => rw [e]; rfl
  · next e => rw [e]; rfl
  · next e => rw [e]; rfl
  · cases h

theorem lawful_stopTransfer (s : State) (i : SpotId) (h : s.isActive i = true) : Lawful s (s.stopTransfer i) := by
  unfold State.stopTransfer
  simp only
  rw [modSpot_modSpot]
  refine Lawful.trans (inner_modSpot s i _ rfl rfl).lawful ((inner_enterLiquidClosing _ _ ?_).trans (inner_endScan _)).lawful
  rw [isActive_modSpot _ _ _ rfl]
  exact h

theorem inner_abortTransfer (s : State) (i : SpotId) (h : s.isActive i = true) : Inside s (s.abortTransfer i) := by
  unfold State.abortTransfer
  simp only
  refine Inside.trans ?_ (inner_endScan _)
  have h1 : Inside s (s.modSpot i (fun x => { x with pressurise := none, suspendTimer := none, pass := none, settle := none })) :=
    inner_modSpot s i _ rfl rfl
  have a1 : (s.modSpot i (fun x => { x with pressurise := none, suspendTimer := none, pass := none, settle := none })).isActive i
      = true := (isActive_modSpot _ _ _ rfl).trans h
  generalize s.modSpot i (fun x => { x with pressurise := none, suspendTimer := none, pass := none, settle := none }) = u at *
  have a2 : (u.closeValves i).isActive i = true := ((aside_closeValves _ _).isActive i).trans a1
  have h2 : Inside u (((u.closeValves i).modSpot i (emptyCauses (liveCauses s i))).modSpot i (fun x => { x with sub := none })) :=
    ((inner_closeValves u i).trans (inner_modSpot _ _ _ rfl rfl)).trans (inner_modSpot _ _ _ rfl rfl)
  have a3 : (((u.closeValves i).modSpot i (emptyCauses (liveCauses s i))).modSpot i (fun x => { x with sub := none })).isActive i
      = true := by
    rw [isActive_modSpot _ _ _ rfl, isActive_modSpot _ _ _ rfl]
    exact a2
  generalize ((u.closeValves i).modSpot i (emptyCauses (liveCauses s i))).modSpot i (fun x => { x with sub := none }) = v at *
  have h3 : Inside v ((v.handDemand i .none).modSpot i (fun x => { x with pendingOutcome := some .aborted })) :=
    (inner_handDemand _ _ _).trans (inner_modSpot _ _ _ rfl rfl)
  have a4 : ((v.handDemand i .none).modSpot i (fun x => { x with pendingOutcome := some .aborted })).isActive i = true := by
    rw [isActive_modSpot _ _ _ rfl, (handed_handDemand _ _ _).isActive]
    exact a3
  refine ((h1.trans h2).trans h3).trans ?_
  split
  · exact .refl _
  · exact ((inner_setState_active _ i .closing a4 rfl).trans (inner_modSpot _ _ _ rfl rfl)).trans (inner_announce _ _)

theorem inner_resumeTransfer (s : State) (i : SpotId) : Inside s (s.resumeTransfer i) :=
  ((inner_modSpot s i _ rfl rfl).trans (inner_causeTest _ _)).trans (inner_endScan _)

theorem lawful_dropTally (s : State) (i : SpotId) : Lawful s (s.dropTally i) :=
  (inner_modSpot s i (fun x => { x with unassigned := 0 }) rfl rfl).lawful.trans
    (lawful_of_parts rfl rfl rfl rfl rfl rfl)

@[simp] theorem state_dropTally (s : State) (i j : SpotId) : ((s.dropTally i).spot j).state = (s.spot j).state := by
  change ((s.modSpot i (fun x => { x with unassigned := 0 })).spot j).state = _
  rw [spot_modSpot]
  split
  · next e => subst e; rfl
  · rfl

/-- A spot without a car comes to rest (R82, R83). -/
theorem inner_toRest (s t : State) (i : SpotId) (h : (s.spot i).state.holdsCar = false) :
    Inside s (s.changeState i (t.restState i)) :=
  inner_changeState s i _ ((restState_holdsCar t i).trans h.symm) fun a => by
    rw [active_of_holdsCar_eq_false (restState_holdsCar t i)] at a
    cases a

theorem lawful_release (s : State) (i : SpotId) (h : (s.spot i).state = .complete) :
    Lawful s ((s.dropTally i).changeState i (s.restState i)) :=
  (lawful_dropTally s i).trans (inner_toRest _ s i (by rw [state_dropTally, h]; rfl)).lawful

theorem lawful_clearFaulted (s : State) (i : SpotId) (h : (s.spot i).state = .faulted) :
    Lawful s (((s.dropTally i).reportUnknownTag i false).changeState i (s.restState i)) :=
  (lawful_dropTally s i).trans ((inner_reportUnknownTag _ _ _).trans
    (inner_toRest _ s i (by rw [state_reportUnknownTag, state_dropTally, h]; rfl))).lawful

theorem lawful_clearVacant (s : State) (i : SpotId) (h : (s.spot i).state = .vacant) : Lawful s (s.clearVacant i) := by
  unfold State.clearVacant
  refine (lawful_dropTally s i).trans ?_
  simp only
  split
  · exact (inner_matchTag _ _ _ (by rw [state_dropTally, h]; rfl)).lawful
  · exact (inner_reportUnknownTag _ _ _).lawful

/-! ## The part -/

theorem lawful_enterRun (s : State) : Lawful s s.enterRun := by
  unfold State.enterRun
  refine Lawful.trans ?_ (inner_returnAllOutputs _).lawful
  refine ⟨rfl, fun p _ => ?_, fun _ d => (by cases d), fun raw => raw, fun b => b⟩
  simp [LineOk, p]

/-- The steps of RESET_PART before the cause is added are an event inside the part, but for the marks cancelled. -/
theorem turn_addReset (s : State) : Turn s s.addReset := by
  unfold State.addReset
  split
  · exact turn_addTripCause _ _
  · exact (turn_addTripCause _ _).trans (inner_forceAllSafe _).turn

theorem inner_monitorAll (s : State) : Inside s s.monitorAll :=
  (Inside.foldl State.monitorOutput (fun s k => inner_changeOutput s k _ fun _ => rfl) (outputIndexes s.imap) s).trans
    (Inside.foldl State.monitorComp inner_monitorComp allComps _)

theorem lawful_clearStanding (s : State) : Lawful s s.clearStanding := lawful_of_parts rfl rfl rfl rfl rfl rfl

/-- The unit lets go of its request. -/
theorem lawful_letGo (s : State) : Lawful s { s with mgu := { s.mgu with held := none } } :=
  lawful_of_parts rfl rfl rfl rfl rfl rfl

theorem lawful_resetEffect (s : State) (m : Message) : Lawful s (s.resetEffect m) := by
  unfold State.resetEffect
  refine Lawful.trans ?_ (inner_endScan _).lawful
  refine Lawful.trans ?_ (turn_addReset _).lawful
  refine Lawful.trans ?_ (inner_monitorAll _).lawful
  refine Lawful.trans ?_ (inner_tripComps _).lawful
  exact ((lawful_modRpu s _).trans (inner_resetSpots _).lawful).trans (lawful_clearStanding _)

/-! ## Every command -/

theorem lawful_carries {c : Instr} {s t : State} (h : Carries s c t) : Lawful s t := by
  cases h with
  | readSpot i b => exact lawful_of_parts rfl rfl rfl rfl rfl rfl
  | readCompressor c => exact (inner_modComp s c _).lawful
  | writeEntry k w => exact lawful_writeEntry s k w
  | removeEntry k e => exact lawful_removeEntry s k e
  | storeRecord i r free => exact lawful_storeRecord s i r free
  | storeCurve i r points record free =>
    exact lawful_setRecord s i _ (active_of_holdsCar_eq_false (holdsCar_of_notInUse free))
  | storeGroup g v => exact lawful_of_parts rfl rfl rfl rfl rfl rfl
  | storeComp c r => exact (inner_modComp s c _).lawful
  | removeComp c => exact lawful_removeCompRecord s c
  | addCar r waiting => exact lawful_of_manifest s _ fun i => by simp [boundCount, waiting]
  | removeCar p r record free => exact lawful_removeRecord s p r record free
  | start i run ready => exact lawful_startTransfer s i run ready
  | suspend i => exact ((inner_changeCauses s i _).trans (inner_endScan _)).lawful
  | resume i => exact (inner_resumeTransfer s i).lawful
  | stop i run state => exact lawful_stopTransfer s i (active_of_stoppable state)
  | abort i run active => exact (inner_abortTransfer s i active).lawful
  | abortIdle i run state =>
    exact (inner_endTransfer s i _ _ _ (by rcases state with e | e <;> rw [e] <;> rfl) rfl).lawful
  | release i state => exact lawful_release s i state
  | clearFaulted i state => exact lawful_clearFaulted s i state
  | clearVacant i state => exact lawful_clearVacant s i state
  | drive k e o b cmd =>
    exact (inner_changeOutput s k (fun o => { o with latch := cmd, direction := .drive }) fun _ => rfl).lawful
  | monitor k e o =>
    exact ((inner_changeOutput s k (fun o => { o with direction := .monitor }) fun _ => rfl).lawful.trans
      (lawful_checkOwner _ _ _)).trans (inner_endScan _).lawful
  | ackChanges i named => exact lawful_of_parts rfl rfl rfl rfl rfl rfl
  | trip => exact (turn_addTripCause _ _).lawful
  | tripReset => exact lawful_enterRun s

/-- Every command of a powered part keeps the laws. -/
theorem lawful_acts {c : Instr} {s t : State} (h : Acts s c t) : Lawful s t := by
  cases h with
  | esdAsserted =>
    exact (lawful_of_parts rfl rfl rfl rfl rfl rfl : Lawful s { s with
      pins := { s.pins with esdAsserted := true }, sdu := { s.sdu with esdAsserted := true } }).trans
      (turn_addTripCause _ _).lawful
  | esdReleased => exact lawful_of_parts rfl rfl rfl rfl rfl rfl
  | frame f => exact lawful_frameArrival s f
  | transmit => exact lawful_transmitComplete s
  | silence => exact lawful_silenceExpired s
  | staleness k => exact (turn_stalenessExpiry s k).lawful
  | travel n i => exact (inner_travelExpired s i).lawful
  | pressurise n i => exact (inner_pressuriseExpired s i).lawful
  | suspend n i => exact (inner_suspendExpired s i).lawful
  | pass n i => exact (inner_passExpired s i).lawful
  | settle n i => exact (inner_settleExpired s i).lawful
  | confirmation n c => exact (inner_confirmationExpired s c).lawful
  | popdown n c => exact (inner_popdownDue s c).lawful
  | history n c => exact (inner_startAged s c).lawful
  | refresh k => exact (inner_refreshExpired s k).lawful
  | tick => exact (lawful_foldl_modComp _ _ s).trans (lawful_tickUptime _)
  | answered _ q p => exact lawful_answer s q p
  | carried _ u q p _ effect => exact (lawful_carries effect).trans (lawful_answer _ _ _)
  | resetPart q => exact ((lawful_resetEffect s _).trans (lawful_letGo _)).trans (lawful_takeRequest _)

/-- The state power-on leaves, before its notice. -/
def State.fresh (s : State) (straps : Byte) : State :=
  { pins := { s.pins with straps := straps, tripEnergised := false }
    powered := true
    uptime := 0
    freeDraws := s.freeDraws
    rpu := Rpu.initial (addressOf straps)
    imap := []
    conditions := Vector.replicate 16 ⟨.allFalse, .allFalse⟩
    table := Vector.replicate 16 none
    groups := Vector.replicate 4 (Vector.replicate 23 none)
    manifest := []
    spots := Vector.replicate 16 .initial
    comps := Vector.replicate 4 .initial
    waitList := []
    sdu := ⟨.tripped, { TripCauses.empty with
      powerOn := true, esdLine := s.pins.esdAsserted, badAddress := (addressOf straps).isNone }, 0, s.pins.esdAsserted, false⟩
    mgu := .initial
    pending := s.pending }

theorem powerOnState_eq (s : State) (b : Byte) :
    s.powerOnState b = (s.fresh b).tripNotice (s.fresh b).sdu.causes := rfl

theorem spot_fresh (s : State) (b : Byte) (i : SpotId) : (s.fresh b).spot i = .initial := by
  simp [State.fresh, State.spot, Vector.get_eq_getElem]

theorem comp_fresh (s : State) (b : Byte) (c : CompId) : (s.fresh b).comp c = .initial := by
  simp [State.fresh, State.comp, Vector.get_eq_getElem]

theorem spot_powerOn (s : State) (b : Byte) (i : SpotId) : (s.powerOnState b).spot i = .initial := by
  rw [powerOnState_eq]
  exact spot_fresh s b i

theorem comp_powerOn (s : State) (b : Byte) (c : CompId) : (s.powerOnState b).comp c = .initial := by
  rw [powerOnState_eq]
  exact comp_fresh s b c

/-- After power-on the three laws hold whatever stood before (R180). -/
theorem lineOk_powerOn (s : State) (b : Byte) : LineOk (s.powerOnState b) := rfl

theorem inactive_powerOn (s : State) (b : Byte) (i : SpotId) : (s.powerOnState b).isActive i = false := by
  rw [State.isActive, spot_powerOn]
  rfl

theorem bindOk_powerOn (s : State) (b : Byte) (i : SpotId) : BindOk (s.powerOnState b) i := by
  rw [BindOk, spot_powerOn]
  rfl

/-- What a command of a powered part, power-on, the loss of supply and the bare lines keep, every command keeps. -/
theorem falls_keeps {P : State → Prop} (acts : ∀ c s t, s.powered = true → Acts s c t → P s → P t)
    (anew : ∀ s b, P (State.powerOnState s b))
    (loss : ∀ s, P s → P { s with
      powered := false, pins := { s.pins with tripEnergised := false }, rpu := { s.rpu with sending := none } })
    (lines : ∀ s (a b : Bool), P s → P { s with pins := { s.pins with esdAsserted := a, resetAsserted := b } })
    {c : Instr} {s t : State} (h : Falls s c t) (hp : P s) : P t := by
  cases h with
  | idle => exact hp
  | powerOn b => exact anew s b
  | resetInput b => exact anew _ b
  | resetLine b => exact lines s s.pins.esdAsserted true hp
  | resetRelease => exact lines s s.pins.esdAsserted false hp
  | loss => exact loss s hp
  | esdLevel _ b => exact lines s b s.pins.resetAsserted hp
  | acts _ _ on effect => exact acts _ _ _ on effect hp

/-- Settles O53: every command of a powered part is an event that keeps both laws; power-on and the loss of supply leave the
line de-energised. -/
theorem stepsKeepTheTripSafe : Obligations.StepsKeepTheTripSafe := by
  unfold Obligations.StepsKeepTheTripSafe
  intro s t hs
  refine step_keeps (P := fun s => LineOk s ∧ Quiet s) (fun _ _ h => h) (fun c s t hf => ?_) hs
  refine falls_keeps (P := fun s => LineOk s ∧ Quiet s) (fun c s t on he h => ?_)
    (fun s b => ⟨lineOk_powerOn s b, fun _ => inactive_powerOn s b⟩) (fun s h => ⟨rfl, h.2⟩) (fun s a b h => h) hf
  exact ⟨(lawful_acts he).line on h.1, (lawful_acts he).quiet h.2⟩

/-- Settles O54: no command but START begins a transfer, with every figure at 0, and a credit keeps every pulse. -/
theorem stepsKeepRawConservation : Obligations.StepsKeepRawConservation := by
  unfold Obligations.StepsKeepRawConservation
  intro s t hs
  refine step_keeps (P := fun s => ∀ i, s.isActive i = true → Conserved s i) (fun _ _ h => h) (fun c s t hf => ?_) hs
  exact falls_keeps (P := fun s => ∀ i, s.isActive i = true → Conserved s i) (fun c s t _ he => (lawful_acts he).raw)
    (fun s b i a => by rw [inactive_powerOn] at a; cases a) (fun s h => h) (fun s a b h => h) hf

/-- Settles O55: a record is BOUND exactly where a spot begins to hold a car, and given up where it ceases to. -/
theorem stepsKeepTheManifestBound : Obligations.StepsKeepTheManifestBound := by
  unfold Obligations.StepsKeepTheManifestBound
  intro s t hs
  refine step_keeps (P := fun s => ∀ i, BindOk s i) (fun _ _ h => h) (fun c s t hf => ?_) hs
  exact falls_keeps (P := fun s => ∀ i, BindOk s i) (fun c s t _ he => (lawful_acts he).bind) bindOk_powerOn
    (fun s h => h) (fun s a b h => h) hf

end Sys2Proof.Machine
end

section
/-! Requests and their replies: a reply stands in the message queue or is being sent (R9, R11, R182). With it the statements about
the requests that change little: what a refusal leaves, and what the reads answer. -/

namespace Sys2Proof.Machine

/-! ## A reply at the ring port -/

theorem mem_reservation_iff (q : List Message) : .reservation ∈ q ↔ 0 < reservations q := by
  simp [reservations, List.countP_pos_iff]

/-- The message of a reply stands in the queue, or its frame is the one being sent. -/
def Waits (r : Rpu) (d t : Byte) (b : List Byte) : Prop :=
  .reply d t b ∈ r.messages ∨ ∃ a, r.address = some a ∧ r.sending = some (ownFrame a d 4 t b)

theorem waits_sendOwn (r : Rpu) (d t : Byte) (b : List Byte) (h : .reply d t b ∈ r.messages) :
    Waits (sendOwn r) d t b := by
  unfold sendOwn
  split
  · exact .inl h
  · next a ha =>
    split
    · next e rest _ =>
      obtain ⟨v, hv⟩ := setSequence_eq r e.index (r.sequenceOf e.index + 1)
      rw [hv]
      exact .inl h
    · split
      · next d' t' b' rest hm =>
        rw [hm] at h
        rcases List.mem_cons.mp h with e | h
        · cases e
          exact .inr ⟨a, ha, rfl⟩
        · exact .inl h
      · next hm =>
        rw [hm] at h
        exact .inl (by simpa using h)
      · exact .inl h
      · exact .inl h

theorem waits_boundary (r : Rpu) (d t : Byte) (b : List Byte) (h : .reply d t b ∈ r.messages) :
    Waits (boundary r) d t b := by
  unfold boundary
  split
  · split
    · split
      · exact .inl h
      · exact waits_sendOwn r d t b h
    · exact .inl h
  · exact waits_sendOwn r d t b h

theorem waits_kick (r : Rpu) (d t : Byte) (b : List Byte) (h : .reply d t b ∈ r.messages) :
    Waits (kick r) d t b := by
  unfold kick
  split
  · exact .inl h
  · exact waits_boundary r d t b h

theorem mem_fillReservation (m : Message) (q : List Message) (h : .reservation ∈ q) : m ∈ fillReservation m q := by
  induction q with
  | nil => cases h
  | cons a q ih => cases a <;> simp_all [fillReservation]

/-- The unit's next taking touches neither a message that stands nor the frame being sent. -/
theorem waits_takeRequest (s : State) (d t : Byte) (b : List Byte) (h : Waits s.rpu d t b) :
    Waits s.takeRequest.rpu d t b := by
  unfold State.takeRequest
  split
  · split
    · exact h.imp (fun h => by simp [h]) id
    · exact h
  · exact h

/-- A reply offered where a place is reserved is given (R9, R182). -/
theorem replied_answer (s : State) (q : Request) (p : Reply) (h : .reservation ∈ s.rpu.messages) :
    Replied (s.answer q p) q p.result p.data := by
  have hm := mem_fillReservation (replyMessage q p) _ h
  exact waits_takeRequest _ _ _ _ (waits_kick _ _ _ _ hm)

/-- An operation of the ring port keeps a reserved place. -/
theorem PortStep.reservation {r r' : Rpu} (h : PortStep r r') (m : .reservation ∈ r.messages) :
    .reservation ∈ r'.messages := by
  rw [mem_reservation_iff, h.reserved, ← mem_reservation_iff]
  exact m

/-- A part that holds a request carries it out and answers it. -/
theorem Holds.request {s : State} {q : Request} {code : Byte} {args : List Byte} (h : Holds s q code args)
    (f : List Byte → State → State × Reply) :
    s.request code f = .next ((f args s).1.answer q (f args s).2) :=
  request_held s code f q args h.powered h.held h.body

/-- The reply of an effect that leaves the reserved place is given. -/
theorem Holds.replied {s u : State} {q : Request} {code : Byte} {args : List Byte} (h : Holds s q code args)
    (hu : PortStep s.rpu u.rpu) (p : Reply) : Replied (u.answer q p) q p.result p.data :=
  replied_answer u q p (hu.reservation h.reserved)

/-- A request answered without an effect changes nothing outside the Management Unit and the ring port. -/
theorem Holds.answered {s : State} {q : Request} {code : Byte} {args : List Byte} (h : Holds s q code args)
    (f : List Byte → State → State × Reply) {r : Result} {data : List Byte} (hf : f args s = (s, ⟨r, data⟩)) :
    ∃ t, s.request code f = .next t ∧ SameParts s t ∧ Replied t q r data := by
  refine ⟨_, h.request f, ?_, ?_⟩
  · rw [hf]
    exact answer_same s q _
  · rw [hf]
    exact h.replied (.refl _) ⟨r, data⟩

/-- A request that has its effect and is answered: what the effect left stands, and the reply is given. -/
theorem Holds.effected {s u : State} {q : Request} {code : Byte} {args : List Byte} (h : Holds s q code args)
    (f : List Byte → State → State × Reply) {data : List Byte} (hf : f args s = (u, ⟨.done, data⟩))
    (hu : PortStep s.rpu u.rpu) :
    ∃ t, s.request code f = .next t ∧ SameParts u t ∧ Replied t q .done data := by
  refine ⟨_, h.request f, ?_, ?_⟩
  · rw [hf]
    exact answer_same u q _
  · rw [hf]
    exact h.replied hu ⟨.done, data⟩

/-! ## Refusals -/

/-- A meaning that answers anything but DONE has left the state as it was. -/
theorem Meaning.refused {c : Instr} {f : List Byte → State → State × Reply} (h : Meaning c f) (args : List Byte)
    (s : State) (hr : (f args s).2.result ≠ .done) : (f args s).1 = s :=
  (h args s).resolve_right fun e => hr e.1

theorem unknownBody_iff (b : List Byte) : unknownBody b = true ↔ b = [] ∨ ∃ c l, b = c :: l ∧ c ∉ requestCodes := by
  cases b with
  | nil => simp [unknownBody]
  | cons c l => simp [unknownBody]

theorem exec_unknownRequest_on (s : State) (q : Request) (hp : s.powered = true) (hq : s.mgu.held = some q) :
    exec .unknownRequest s = .next (if unknownBody q.body then s.answer q ⟨.badRequest, []⟩ else s) := by
  refine (whenPowered_on s State.answerUnknown hp).trans ?_
  simp only [State.answerUnknown, hq]

/-- RESET_PART without parameters: the reply first, then the effect, then the next request (R179, R182). -/
theorem exec_resetPart_accepted (s : State) (q : Request) (h : Holds s q 0x52 []) :
    exec .resetPart s = .next (State.takeRequest { s.resetEffect (replyMessage q ⟨.done, []⟩) with
      mgu := { (s.resetEffect (replyMessage q ⟨.done, []⟩)).mgu with held := none } }) := by
  refine (whenPowered_on s State.carryReset h.powered).trans ?_
  simp only [State.carryReset, h.held, h.body, if_pos]

theorem exec_resetPart_refused (s : State) (q : Request) (b : Byte) (l : List Byte) (h : Holds s q 0x52 (b :: l)) :
    exec .resetPart s = .next (s.answer q ⟨.badRequest, []⟩) := by
  refine (whenPowered_on s State.carryReset h.powered).trans ?_
  simp only [State.carryReset, h.held, h.body, if_pos]

/-- Settles O50: every meaning of a request either answers DONE or leaves the state; what has no meaning is answered
BAD_REQUEST. -/
theorem refusalsChangeNothing : Obligations.RefusalsChangeNothing := by
  unfold Obligations.RefusalsChangeNothing
  refine ⟨fun f hf args s hr => ?refused, fun s q hp hq hm hb => ?unknown, fun s q hp hq hb => ?known, unknownBody_iff,
    fun s q b l h => ?parameter⟩
  case refused =>
    have all : ∃ c, Meaning c f := by
      simp only [requestMeanings, List.mem_cons, List.not_mem_nil, or_false] at hf
      rcases hf with rfl | rfl | rfl | rfl | rfl | rfl | rfl | rfl | rfl | rfl | rfl | rfl | rfl | rfl | rfl | rfl | rfl |
        rfl | rfl | rfl | rfl | rfl | rfl | rfl
      exacts [⟨_, meaning_readStatus⟩, ⟨_, meaning_readSpot⟩, ⟨_, meaning_readRecord⟩, ⟨_, meaning_readHistory⟩,
        ⟨_, meaning_readCompressor⟩, ⟨_, meaning_readChannel⟩, ⟨_, meaning_loadMap⟩, ⟨_, meaning_loadSpotRecord⟩,
        ⟨_, meaning_loadCurve⟩, ⟨_, meaning_loadSegment⟩, ⟨_, meaning_loadCompRecord⟩, ⟨_, meaning_addCarRecord⟩,
        ⟨_, meaning_removeCarRecord⟩, ⟨_, meaning_start⟩, ⟨_, meaning_suspend⟩, ⟨_, meaning_resume⟩, ⟨_, meaning_stop⟩,
        ⟨_, meaning_abort⟩, ⟨_, meaning_release⟩, ⟨_, meaning_clear⟩, ⟨_, meaning_setMode⟩, ⟨_, meaning_ackSpot⟩,
        ⟨_, meaning_tripPart⟩, ⟨_, meaning_resetTrip⟩]
    obtain ⟨c, hc⟩ := all
    exact hc.refused args s hr
  case unknown =>
    refine ⟨_, exec_unknownRequest_on s q hp hq, ?_, ?_⟩
    · rw [if_pos hb]
      exact answer_same s q _
    · rw [if_pos hb]
      exact replied_answer s q ⟨.badRequest, []⟩ hm
  case known =>
    rw [exec_unknownRequest_on s q hp hq, hb]
    rfl
  case parameter =>
    exact ⟨_, exec_resetPart_refused s q b l h, answer_same s q _, h.replied (.refl _) ⟨.badRequest, []⟩⟩

/-! ## Reads -/

theorem SameParts.refl (s : State) : SameParts s s :=
  ⟨rfl, rfl, rfl, rfl, rfl, rfl, rfl, rfl, rfl, rfl, rfl, rfl, rfl, rfl, rfl⟩

theorem spotId_eq_some {n : Nat} {i : SpotId} (h : spotId n = some i) : n = spotNumber i := by
  unfold spotId at h
  split at h
  · cases h
    simp only [spotNumber]
    omega
  · cases h

theorem spotId_spotNumber (i : SpotId) : spotId (spotNumber i) = some i := by
  revert i; decide

theorem compId_eq_some {n : Nat} {c : CompId} (h : compId n = some c) : n = compNumber c := by
  unfold compId at h
  split at h
  · cases h
    simp only [compNumber]
    omega
  · cases h

theorem compId_compNumber (c : CompId) : compId (compNumber c) = some c := by
  revert c; decide

theorem onSpot_some (s : State) {n : Byte} {i : SpotId} (h : spotId n.toNat = some i) (f : SpotId → State × Reply) :
    s.onSpot n f = f i := by
  simp [State.onSpot, h]

theorem onSpot_none (s : State) {n : Byte} (h : spotId n.toNat = none) (f : SpotId → State × Reply) :
    s.onSpot n f = s.refuse .range := by
  simp [State.onSpot, h]

/-- The byte that names a spot is the byte of its number. -/
theorem byte_spotNumber {n : Byte} {i : SpotId} (h : spotId n.toNat = some i) : byte (spotNumber i) = n := by
  rw [← spotId_eq_some h, byte]
  exact BitVec.ofNat_toNat 8 n

@[simp] theorem standing_setStanding_same (s : State) (i : SpotId) (b : Bool) : (s.setStanding i b).standing i = b :=
  vectorGet_set_same _ _ _

theorem standing_setStanding_other (s : State) {i j : SpotId} (b : Bool) (h : j ≠ i) :
    (s.setStanding i b).standing j = s.standing j := vectorGet_set_other _ _ h

theorem standing_of_eq {s t : State} (h : t.mgu.standing = s.mgu.standing) (i : SpotId) : t.standing i = s.standing i := by
  rw [State.standing, State.standing, h]

theorem readSpot_eq (s : State) {n part mark : Byte} {i : SpotId} {data : List Byte} (hn : spotId n.toNat = some i)
    (hd : spotSection s i part.toNat = some data) (hm : mark = 0 ∨ mark = 1) :
    readSpot [n, part, mark] s = (s.setStanding i (decide (mark = 1)), ⟨.done, data⟩) := by
  rcases hm with rfl | rfl
  all_goals
    simp only [readSpot, onSpot_some s hn, hd]
    rfl

theorem nat_one_to_four {n : Nat} (h : 1 ≤ n) (h' : n ≤ 4) : n = 1 ∨ n = 2 ∨ n = 3 ∨ n = 4 := by omega

/-- A section number names its byte. -/
theorem byte_of_toNat {b : Byte} {n : Nat} (h : b.toNat = n) : b = BitVec.ofNat 8 n := by
  rw [← h]
  exact (BitVec.ofNat_toNat 8 b).symm

theorem readRecord_eq (s : State) {p part : Byte} {r : CarRecord} (hr : recordAt s.manifest p.toNat = some r)
    (h1 : 1 ≤ part.toNat) (h4 : part.toNat ≤ 4) : readRecord [p, part] s = (s, ⟨.done,
      if part = 1 then recordSection1 s.manifest.length r
      else if part = 2 then recordSection2 r else if part = 3 then recordSection3 r else recordSection4 r⟩) := by
  rcases nat_one_to_four h1 h4 with h | h | h | h
  all_goals
    cases byte_of_toNat h
    simp only [readRecord, hr]
    rfl

theorem readCompressor_eq (s : State) {n part : Byte} {c : CompId} (hc : compId n.toNat = some c)
    (h1 : 1 ≤ part.toNat) (h5 : part.toNat ≤ 5) : readCompressor [n, part, 0] s = (s, ⟨.done,
      if part = 1 then compSection1 s c else if part = 2 then compSection2 s c
        else if part = 3 then compSection3 s c else if part = 4 then compSection4 s c else compSection5 s⟩) := by
  have h : part.toNat = 1 ∨ part.toNat = 2 ∨ part.toNat = 3 ∨ part.toNat = 4 ∨ part.toNat = 5 := by omega
  rcases h with h | h | h | h | h
  all_goals
    cases byte_of_toNat h
    simp only [readCompressor, hc]
    rfl

/-- Settles O48: each read answers its section; the standing mark and the residency counts are all that two of them write. -/
theorem readsReportAndChangeNothing : Obligations.ReadsReportAndChangeNothing := by
  unfold Obligations.ReadsReportAndChangeNothing
  refine ⟨fun s q start h => h.answered readStatus rfl, fun s q start h => h.answered readStatus rfl,
    fun s q n part mark i data h hi hd hm => ?spot, fun s q p part r h hr h1 h4 => ?record,
    fun s q n start i hs h hi => ?history, fun s q n part c h hc h1 h5 => ?compressor,
    fun s q n c h hc => ?counts, fun s q k e h he => ?channel⟩
  case spot =>
    obtain ⟨t, ht, same, rep⟩ := h.effected readSpot (readSpot_eq s hi hd hm) (.refl _)
    refine ⟨t, ht, rep, ?_, fun j hj => ?_, ?_⟩
    · rw [standing_of_eq same.standing, standing_setStanding_same]
    · rw [standing_of_eq same.standing, standing_setStanding_other _ _ hj]
    · exact ⟨same.pins, same.powered, same.uptime, same.freeDraws, same.imap, same.conditions, same.table, same.groups,
        same.manifest, same.spots, same.comps, same.waitList, same.sdu, rfl, same.pending⟩
  case record => exact h.answered readRecord (readRecord_eq s hr h1 h4)
  case history =>
    refine h.answered readHistory ?_
    simp only [readHistory, onSpot_some s hi, hs, dif_pos, byte_spotNumber hi]
    rfl
  case compressor => exact h.answered readCompressor (readCompressor_eq s hc h1 h5)
  case counts =>
    have hf : readCompressor [n, 2, 1] s = (s.clearResidency c, ⟨.done, compSection2 s c⟩) := by
      simp only [readCompressor, hc]
      rfl
    obtain ⟨t, ht, same, rep⟩ := h.effected readCompressor hf (.refl _)
    refine ⟨t, ht, rep, ?_, fun d hd => ?_, ?_⟩
    · rw [comp_of_comps same.comps]
      exact comp_modComp_same s c _
    · rw [comp_of_comps same.comps]
      exact comp_modComp_other s _ hd
    · exact ⟨same.pins, same.powered, same.uptime, same.freeDraws, same.imap, same.conditions, same.table, same.groups,
        same.manifest, same.spots, rfl, same.waitList, same.sdu, same.standing, same.pending⟩
  case channel =>
    refine h.answered readChannel ?_
    simp only [readChannel, he]
    rfl

end Sys2Proof.Machine
end

section
/-! The map and the output images, equation by equation: the entry at an index after each change of the map (R17), the image, the
actuation queue and the refresh timer after a change of an image (R157 to R163), and the latch of a role after a write (R158). -/

namespace Sys2Proof.Machine

/-! ## The entry at an index -/

theorem entryAt_putEntry (m : List (Nat × MapEntry)) (i k : Nat) (e : MapEntry) :
    entryAt (putEntry m i e) k = if k = i then some e else entryAt m k := by
  induction m with
  | nil =>
    by_cases h : k = i
    · simp [putEntry, entryAt, h]
    · simp [putEntry, entryAt, h, Ne.symm h]
  | cons p m ih =>
    obtain ⟨j, d⟩ := p
    by_cases h : k = i
    · subst h
      by_cases h1 : k < j
      · simp [putEntry, entryAt, h1]
      · by_cases h2 : k = j
        · simp [putEntry, entryAt, h2]
        · simp [putEntry, entryAt, h1, h2, Ne.symm h2, ih]
    · by_cases h1 : i < j
      · simp [putEntry, entryAt, h1, h, Ne.symm h]
      · by_cases h2 : i = j
        · subst h2
          simp [putEntry, entryAt, h, Ne.symm h]
        · simp [putEntry, entryAt, h1, h2, h, ih]

theorem entryAt_dropEntry (m : List (Nat × MapEntry)) (i k : Nat) :
    entryAt (dropEntry m i) k = if k = i then none else entryAt m k := by
  induction m with
  | nil => simp [dropEntry, entryAt]
  | cons p m ih =>
    obtain ⟨j, d⟩ := p
    simp only [dropEntry] at ih ⊢
    by_cases h : k = i
    · subst h
      rw [if_pos rfl] at ih ⊢
      by_cases hj : j = k
      · simp [hj, ih]
      · simp [hj, ih, entryAt]
    · rw [if_neg h] at ih ⊢
      by_cases hj : j = i
      · subst hj
        simp [ih, entryAt, Ne.symm h]
      · simp [hj, ih, entryAt]

theorem entryAt_setBody (s : State) (i k : Nat) (b : EntryBody) :
    entryAt (s.setBody i b).imap k =
      if k = i then (entryAt s.imap i).map (fun e => { e with body := b }) else entryAt s.imap k := by
  unfold State.setBody
  split
  · next e he =>
    rw [entryAt_putEntry, he]
    rfl
  · next he =>
    split
    · next h => rw [h, he]; rfl
    · rfl

theorem entryAt_setBody_same {s : State} {i : Nat} {e : MapEntry} (h : entryAt s.imap i = some e) (b : EntryBody) :
    entryAt (s.setBody i b).imap i = some { e with body := b } := by
  rw [entryAt_setBody, if_pos rfl, h]
  rfl

theorem entryAt_setBody_other (s : State) {i k : Nat} (h : k ≠ i) (b : EntryBody) :
    entryAt (s.setBody i b).imap k = entryAt s.imap k := by
  rw [entryAt_setBody, if_neg h]

@[simp] theorem rpu_setBody (s : State) (i : Nat) (b : EntryBody) : (s.setBody i b).rpu = s.rpu := by
  unfold State.setBody
  split <;> rfl
@[simp] theorem uptime_setBody (s : State) (i : Nat) (b : EntryBody) : (s.setBody i b).uptime = s.uptime := by
  unfold State.setBody
  split <;> rfl
@[simp] theorem sdu_setBody (s : State) (i : Nat) (b : EntryBody) : (s.setBody i b).sdu = s.sdu := by
  unfold State.setBody
  split <;> rfl

/-- What only the map and the ring port of a state can differ in. -/
structure OnlyMap (s t : State) : Prop where
  eq : t = { s with imap := t.imap, rpu := t.rpu }

theorem OnlyMap.refl (s : State) : OnlyMap s s := ⟨rfl⟩
theorem OnlyMap.trans {a b c : State} (h : OnlyMap a b) (k : OnlyMap b c) : OnlyMap a c := by
  refine ⟨?_⟩
  rw [k.eq, h.eq]

theorem onlyMap_modRpu (s : State) (f : Rpu → Rpu) : OnlyMap s (s.modRpu f) := ⟨rfl⟩

theorem onlyMap_setBody (s : State) (i : Nat) (b : EntryBody) : OnlyMap s (s.setBody i b) := by
  unfold State.setBody
  split
  · exact ⟨rfl⟩
  · exact .refl s

/-! ## The image at an index -/

/-- An entry whose image is `o`. -/
def MapEntry.withImage (e : MapEntry) (o : Output) : MapEntry := { e with body := .output o }

/-- The entry at an index is an output entry with an image. -/
def Images (s : State) (k : Nat) (e : MapEntry) (o : Output) : Prop := entryAt s.imap k = some e ∧ e.body = .output o

theorem setRefresh_eq {s : State} {k : Nat} {e : MapEntry} {o : Output} (h : Images s k e o) (t : Option Nat) :
    s.setRefresh k t = s.setBody k (.output { o with refresh := t }) := by
  simp [State.setRefresh, h.1, h.2]

theorem setRefresh_none {s : State} {k : Nat} (h : ∀ e o, ¬ Images s k e o) (t : Option Nat) : s.setRefresh k t = s := by
  unfold State.setRefresh
  split
  · next e he =>
    split
    · next o ho => exact absurd ⟨he, ho⟩ (h e o)
    · rfl
  · rfl

theorem offerCommand_eq {s : State} {k : Nat} {e : MapEntry} {o : Output} (h : Images s k e o) (cmd : Command) :
    s.offerCommand k cmd = (s.modRpu (offerActuate ⟨k, e.node, e.channel, cmd⟩)).setBody k
      (.output { o with refresh := some (s.uptime + 2) }) := by
  have h' : Images (s.modRpu (offerActuate ⟨k, e.node, e.channel, cmd⟩)) k e o := h
  simp only [State.offerCommand, h.1]
  exact setRefresh_eq h' _

/-- What an event leaves of the refresh timer of an image whose outgoing command was `before` and is `now` (R160, R161). -/
def refreshAfter (uptime : Nat) (before now : Option Command) (timer : Option Nat) : Option Nat :=
  if now = before then timer else now.map (fun _ => uptime + 2)

/-- What an event leaves of the ring port when the outgoing command of an entry was `before` and is `now` (R160). -/
def portAfter (k : Nat) (e : MapEntry) (before now : Option Command) (r : Rpu) : Rpu :=
  if now = before then r
  else match now with
    | some cmd => offerActuate ⟨k, e.node, e.channel, cmd⟩ r
    | none => dropActuate k r

theorem refreshAfter_same (u : Nat) (c : Option Command) (t : Option Nat) : refreshAfter u c c t = t := if_pos rfl

theorem refreshAfter_changed {before now : Option Command} (h : now ≠ before) (u : Nat) (t : Option Nat) :
    refreshAfter u before now t = now.map (fun _ => u + 2) := if_neg h

theorem portAfter_same (k : Nat) (e : MapEntry) (c : Option Command) (r : Rpu) : portAfter k e c c r = r := if_pos rfl

theorem portAfter_some {before : Option Command} {cmd : Command} (h : some cmd ≠ before) (k : Nat) (e : MapEntry)
    (r : Rpu) : portAfter k e before (some cmd) r = offerActuate ⟨k, e.node, e.channel, cmd⟩ r := if_neg h

theorem portAfter_none {before : Option Command} (h : none ≠ before) (k : Nat) (e : MapEntry) (r : Rpu) :
    portAfter k e before none r = dropActuate k r := if_neg h

/-- R160 at one image: its timer and the port afterwards; its other fields and the other entries as they were. -/
theorem settleOutput_image {s : State} {k : Nat} {e : MapEntry} {o : Output} (h : Images s k e o)
    (before : Option Command) :
    entryAt (s.settleOutput k before).imap k = some (e.withImage
      { o with refresh := refreshAfter s.uptime before (outgoing s.sdu.device o) o.refresh }) ∧
    (∀ m, m ≠ k → entryAt (s.settleOutput k before).imap m = entryAt s.imap m) ∧
    (s.settleOutput k before).rpu = portAfter k e before (outgoing s.sdu.device o) s.rpu := by
  obtain ⟨he, ho⟩ := h
  simp only [State.settleOutput, he, ho]
  by_cases hn : outgoing s.sdu.device o = before
  · rw [if_pos hn, hn, refreshAfter_same, portAfter_same]
    refine ⟨?_, fun _ _ => rfl, rfl⟩
    rw [he, MapEntry.withImage, ← ho]
  · rw [if_neg hn, refreshAfter_changed hn]
    cases hc : outgoing s.sdu.device o with
    | some cmd =>
      rw [hc] at hn
      rw [portAfter_some hn]
      simp only [offerCommand_eq ⟨he, ho⟩, rpu_setBody]
      exact ⟨entryAt_setBody_same (s := s.modRpu _) he _, fun m hm => entryAt_setBody_other _ hm _, rfl⟩
    | none =>
      rw [hc] at hn
      have h' : Images (s.modRpu (dropActuate k)) k e o := ⟨he, ho⟩
      rw [portAfter_none hn]
      simp only [setRefresh_eq h', rpu_setBody]
      exact ⟨entryAt_setBody_same (s := s.modRpu _) he _, fun m hm => entryAt_setBody_other _ hm _, rfl⟩

theorem settleOutput_none {s : State} {k : Nat} (h : ∀ e o, ¬ Images s k e o) (before : Option Command) :
    s.settleOutput k before = s := by
  unfold State.settleOutput
  split
  · next e he =>
    split
    · next o ho => exact absurd ⟨he, ho⟩ (h e o)
    · rfl
  · rfl

/-- A change of an image: the image as changed with its timer by R161, the port by R160, the other entries as they were. -/
theorem changeOutput_image {s : State} {k : Nat} {e : MapEntry} {o : Output} (h : Images s k e o) (f : Output → Output) :
    entryAt (s.changeOutput k f).imap k = some (e.withImage { f o with
      refresh := refreshAfter s.uptime (outgoing s.sdu.device o) (outgoing s.sdu.device (f o)) (f o).refresh }) ∧
    (∀ m, m ≠ k → entryAt (s.changeOutput k f).imap m = entryAt s.imap m) ∧
    (s.changeOutput k f).rpu = portAfter k e (outgoing s.sdu.device o) (outgoing s.sdu.device (f o)) s.rpu := by
  obtain ⟨he, ho⟩ := h
  have h' : Images (s.setBody k (.output (f o))) k (e.withImage (f o)) (f o) :=
    ⟨entryAt_setBody_same he _, rfl⟩
  obtain ⟨himage, hother, hport⟩ := settleOutput_image h' (outgoing s.sdu.device o)
  simp only [State.changeOutput, he, ho]
  simp only [sdu_setBody, uptime_setBody, rpu_setBody] at himage hport
  exact ⟨himage, fun m hm => (hother m hm).trans (entryAt_setBody_other s hm _), hport⟩

theorem changeOutput_none {s : State} {k : Nat} (h : ∀ e o, ¬ Images s k e o) (f : Output → Output) :
    s.changeOutput k f = s := by
  unfold State.changeOutput
  split
  · next e he =>
    split
    · next o ho => exact absurd ⟨he, ho⟩ (h e o)
    · rfl
  · rfl

theorem offerCommand_image {s : State} {k : Nat} {e : MapEntry} {o : Output} (h : Images s k e o) (cmd : Command) :
    entryAt (s.offerCommand k cmd).imap k = some (e.withImage { o with refresh := some (s.uptime + 2) }) ∧
    (∀ m, m ≠ k → entryAt (s.offerCommand k cmd).imap m = entryAt s.imap m) ∧
    (s.offerCommand k cmd).rpu = offerActuate ⟨k, e.node, e.channel, cmd⟩ s.rpu := by
  rw [offerCommand_eq h]
  refine ⟨entryAt_setBody_same (s := s.modRpu _) h.1 _, fun m hm => entryAt_setBody_other _ hm _, ?_⟩
  rw [rpu_setBody]
  rfl

/-! ## What the image operations leave of the rest of the state -/

theorem onlyMap_setRefresh (s : State) (k : Nat) (t : Option Nat) : OnlyMap s (s.setRefresh k t) := by
  unfold State.setRefresh
  split
  · split
    · exact onlyMap_setBody _ _ _
    · exact .refl s
  · exact .refl s

theorem onlyMap_offerCommand (s : State) (k : Nat) (cmd : Command) : OnlyMap s (s.offerCommand k cmd) := by
  unfold State.offerCommand
  split
  · exact (onlyMap_modRpu s _).trans (onlyMap_setRefresh _ _ _)
  · exact .refl s

theorem onlyMap_settleOutput (s : State) (k : Nat) (b : Option Command) : OnlyMap s (s.settleOutput k b) := by
  unfold State.settleOutput
  split
  · split
    · simp only
      split
      · exact .refl s
      · split
        · exact onlyMap_offerCommand _ _ _
        · exact (onlyMap_modRpu s _).trans (onlyMap_setRefresh _ _ _)
    · exact .refl s
  · exact .refl s

theorem onlyMap_changeOutput (s : State) (k : Nat) (f : Output → Output) : OnlyMap s (s.changeOutput k f) := by
  unfold State.changeOutput
  split
  · split
    · exact (onlyMap_setBody s _ _).trans (onlyMap_settleOutput _ _ _)
    · exact .refl s
  · exact .refl s

theorem onlyMap_writeLatch (s : State) (r : Role) (owner : Nat) (cmd : Command) :
    OnlyMap s (s.writeLatch r owner cmd) := by
  unfold State.writeLatch
  split
  · split
    · split
      · exact .refl s
      · exact onlyMap_changeOutput _ _ _
    · exact .refl s
  · exact .refl s

theorem OnlyMap.pins {s t : State} (h : OnlyMap s t) : t.pins = s.pins := by rw [h.eq]
theorem OnlyMap.powered {s t : State} (h : OnlyMap s t) : t.powered = s.powered := by rw [h.eq]
theorem OnlyMap.uptime {s t : State} (h : OnlyMap s t) : t.uptime = s.uptime := by rw [h.eq]
theorem OnlyMap.conditions {s t : State} (h : OnlyMap s t) : t.conditions = s.conditions := by rw [h.eq]
theorem OnlyMap.table {s t : State} (h : OnlyMap s t) : t.table = s.table := by rw [h.eq]
theorem OnlyMap.groups {s t : State} (h : OnlyMap s t) : t.groups = s.groups := by rw [h.eq]
theorem OnlyMap.manifest {s t : State} (h : OnlyMap s t) : t.manifest = s.manifest := by rw [h.eq]
theorem OnlyMap.spots {s t : State} (h : OnlyMap s t) : t.spots = s.spots := by rw [h.eq]
theorem OnlyMap.comps {s t : State} (h : OnlyMap s t) : t.comps = s.comps := by rw [h.eq]
theorem OnlyMap.waitList {s t : State} (h : OnlyMap s t) : t.waitList = s.waitList := by rw [h.eq]
theorem OnlyMap.sdu {s t : State} (h : OnlyMap s t) : t.sdu = s.sdu := by rw [h.eq]
theorem OnlyMap.mgu {s t : State} (h : OnlyMap s t) : t.mgu = s.mgu := by rw [h.eq]
theorem OnlyMap.pending {s t : State} (h : OnlyMap s t) : t.pending = s.pending := by rw [h.eq]
theorem OnlyMap.spot {s t : State} (h : OnlyMap s t) (i : SpotId) : t.spot i = s.spot i := spot_of_spots h.spots i
theorem OnlyMap.comp {s t : State} (h : OnlyMap s t) (c : CompId) : t.comp c = s.comp c := comp_of_comps h.comps c
theorem OnlyMap.foldl {α : Type} (f : State → α → State) (h : ∀ s a, OnlyMap s (f s a)) (l : List α) (s : State) :
    OnlyMap s (l.foldl f s) := by
  induction l generalizing s with
  | nil => exact .refl s
  | cons a l ih => exact (h s a).trans (ih _)

theorem onlyMap_forceSafe (s : State) (k : Nat) : OnlyMap s (s.forceSafe k) := by
  unfold State.forceSafe
  split
  · split
    · exact onlyMap_offerCommand _ _ _
    · exact .refl s
  · exact .refl s

theorem onlyMap_returnOutput (s : State) (k : Nat) : OnlyMap s (s.returnOutput k) := by
  unfold State.returnOutput
  split
  · split
    · exact onlyMap_settleOutput _ _ _
    · exact .refl s
  · exact .refl s

/-! ## Roles -/

/-- A map of the same shape has the same entry of a role and owner, at the same index. -/
theorem findRole_of_shapes {m n : List (Nat × MapEntry)} (h : shapes n = shapes m) (r : Role) (o : Nat) :
    (findRole m r o = none ∧ findRole n r o = none) ∨
      ∃ k e e', findRole m r o = some (k, e) ∧ findRole n r o = some (k, e') ∧ entryShape (k, e') = entryShape (k, e) := by
  induction m generalizing n with
  | nil =>
    cases n with
    | nil => exact .inl ⟨rfl, rfl⟩
    | cons q n => simp [shapes] at h
  | cons p m ih =>
    cases n with
    | nil => simp [shapes] at h
    | cons q n =>
      simp only [shapes, List.map_cons, List.cons.injEq] at h
      obtain ⟨hshape, hrest⟩ := h
      obtain ⟨k, e⟩ := p
      obtain ⟨k', e'⟩ := q
      have hk : k' = k := by
        simp only [entryShape, Prod.mk.injEq] at hshape
        exact hshape.1
      have hrole : e'.role = e.role ∧ e'.owner = e.owner := by
        simp only [entryShape, Prod.mk.injEq] at hshape
        exact ⟨hshape.2.2.2.1, hshape.2.2.2.2.1⟩
      subst hk
      by_cases hm : e.role = r ∧ e.owner = o
      · right
        refine ⟨k', e, e', ?_, ?_, hshape⟩
        · simp [findRole, hm]
        · simp [findRole, hrole, hm]
      · have hdec : (decide (e.role = r) && decide (e.owner = o)) = false := by
          rw [← Bool.decide_and]
          exact decide_eq_false hm
        have h1 : findRole ((k', e) :: m) r o = findRole m r o := by
          simp [findRole, hdec]
        have h2 : findRole ((k', e') :: n) r o = findRole n r o := by
          simp [findRole, hrole, hdec]
        rw [h1, h2]
        exact ih hrest

/-- The entry of a role of a map in canonical form is the one at its index. -/
theorem findRole_role {m : List (Nat × MapEntry)} {r : Role} {o k : Nat} {e : MapEntry} (h : findRole m r o = some (k, e)) :
    e.role = r ∧ e.owner = o := by
  have := List.find?_some h
  simpa using this

theorem latchOf_none {s : State} {r : Role} {o : Nat} (h : findRole s.imap r o = none) : latchOf s r o = none := by
  simp [latchOf, h]

theorem latchOf_found {s : State} {r : Role} {o k : Nat} {e : MapEntry} (h : findRole s.imap r o = some (k, e)) :
    latchOf s r o = e.image.map (·.latch) := by
  simp [latchOf, h]

/-- A latch stands where the entry of the role is an image. -/
theorem latchOf_eq_some {s : State} (hr : Rising s.imap) {r : Role} {o : Nat} {x : Command} (h : latchOf s r o = some x) :
    ∃ k e i, findRole s.imap r o = some (k, e) ∧ Images s k e i ∧ i.latch = x := by
  unfold latchOf at h
  cases hf : findRole s.imap r o with
  | none => rw [hf] at h; cases h
  | some p =>
    obtain ⟨k, e⟩ := p
    rw [hf] at h
    cases hb : e.body with
    | input d => simp [MapEntry.image, hb] at h
    | output i =>
      refine ⟨k, e, i, rfl, ⟨entryAt_of_findRole hr hf, hb⟩, ?_⟩
      simpa [MapEntry.image, hb] using h

/-- The direction of a compressor is its COMP_DIR latch (R137). -/
theorem direction_eq_latchOf (s : State) (c : CompId) : s.direction c = latchOf s .compDir (compNumber c) := by
  unfold State.direction latchOf
  rw [State.compEntry]
  cases findRole s.imap .compDir (compNumber c) <;> rfl

/-- An image operation at one index keeps every latch, but that of the entry there, which it sets as its image says. -/
theorem latchOf_of_image {s t : State} (hr : Rising s.imap) (hs : shapes t.imap = shapes s.imap) {k : Nat} {e : MapEntry}
    {o o' : Output} (h : Images s k e o) (ht : entryAt t.imap k = some (e.withImage o'))
    (hother : ∀ m, m ≠ k → entryAt t.imap m = entryAt s.imap m) (r : Role) (w : Nat) :
    latchOf t r w = if (findRole s.imap r w).map (·.1) = some k then some o'.latch else latchOf s r w := by
  have hrt : Rising t.imap := rising_of_shapes hs hr
  rcases findRole_of_shapes hs r w with ⟨hm, hn⟩ | ⟨j, a, b, hm, hn, _⟩
  · rw [latchOf_none hm, latchOf_none hn, hm]
    rfl
  · rw [latchOf_found hm, latchOf_found hn, hm]
    have ha := entryAt_of_findRole hr hm
    have hb := entryAt_of_findRole hrt hn
    by_cases hj : j = k
    · subst hj
      rw [ht] at hb
      cases hb
      simp [MapEntry.image]
    · rw [hother j hj, ha] at hb
      cases hb
      simp [hj]

theorem latchOf_changeOutput {s : State} (hr : Rising s.imap) {k : Nat} {e : MapEntry} {o : Output} (h : Images s k e o)
    {f : Output → Output} (hf : ∀ o, (f o).safe = o.safe) (r : Role) (w : Nat) :
    latchOf (s.changeOutput k f) r w =
      if (findRole s.imap r w).map (·.1) = some k then some (f o).latch else latchOf s r w := by
  obtain ⟨himage, hother, _⟩ := changeOutput_image h f
  exact latchOf_of_image hr ((inner_changeOutput s k f hf).shapes hr) h himage hother r w

/-- A write of a latch sets it where it stands (R158). -/
theorem latchOf_writeLatch_same (s : State) (hr : Rising s.imap) (r : Role) (w : Nat) (cmd : Command) :
    latchOf (s.writeLatch r w cmd) r w = (latchOf s r w).map (fun _ => cmd) := by
  unfold State.writeLatch
  cases hf : findRole s.imap r w with
  | none => simp only [latchOf_none hf, Option.map_none]
  | some p =>
    obtain ⟨k, e⟩ := p
    cases hb : e.body with
    | input d =>
      simp only [hb]
      rw [latchOf_found hf]
      simp [MapEntry.image, hb]
    | output o =>
      have hi : Images s k e o := ⟨entryAt_of_findRole hr hf, hb⟩
      simp only [hb]
      by_cases hl : o.latch = cmd
      · rw [if_pos hl, latchOf_found hf]
        simp [MapEntry.image, hb, hl]
      · rw [if_neg hl]
        rw [latchOf_changeOutput hr hi (f := fun o => { o with latch := cmd }) (fun _ => rfl), hf, latchOf_found hf]
        simp [MapEntry.image, hb]

/-- A write of a latch leaves every other latch (R158). -/
theorem latchOf_writeLatch_other (s : State) (hr : Rising s.imap) {r r' : Role} {w w' : Nat} (cmd : Command)
    (hne : ¬ (r' = r ∧ w' = w)) : latchOf (s.writeLatch r w cmd) r' w' = latchOf s r' w' := by
  unfold State.writeLatch
  cases hf : findRole s.imap r w with
  | none => rfl
  | some p =>
    obtain ⟨k, e⟩ := p
    cases hb : e.body with
    | input d => simp only [hb]
    | output o =>
      have hi : Images s k e o := ⟨entryAt_of_findRole hr hf, hb⟩
      simp only [hb]
      by_cases hl : o.latch = cmd
      · rw [if_pos hl]
      · rw [if_neg hl]
        rw [latchOf_changeOutput hr hi (f := fun o => { o with latch := cmd }) (fun _ => rfl), if_neg]
        intro hk
        cases hf' : findRole s.imap r' w' with
        | none => rw [hf'] at hk; cases hk
        | some q =>
          obtain ⟨k', e'⟩ := q
          rw [hf'] at hk
          cases hk
          have h1 := entryAt_of_findRole hr hf
          have h2 := entryAt_of_findRole hr hf'
          rw [h1] at h2
          cases h2
          obtain ⟨hrole, howner⟩ := findRole_role hf
          obtain ⟨hrole', howner'⟩ := findRole_role hf'
          exact hne ⟨hrole'.symm.trans hrole, howner'.symm.trans howner⟩

theorem rising_writeLatch {s : State} (hr : Rising s.imap) (r : Role) (w : Nat) (cmd : Command) :
    Rising (s.writeLatch r w cmd).imap :=
  rising_of_shapes ((inner_writeLatch s r w cmd).shapes hr) hr

end Sys2Proof.Machine
end

section
/-! The elementary moves. Every operation inside a command is a chain of moves of a few kinds, each kind with what makes it harmless:
a context change keeps the figures, a latch of a liquid valve takes CLOSED, a spot leaves UNLOADING behind a closed valve. A law
that every kind of move keeps is then kept by every operation. -/

namespace Sys2Proof.Machine

/-- No image of the liquid valve of a spot holds OPEN (R159). -/
def Shut (s : State) (i : SpotId) : Prop :=
  ∀ k e o, Images s k e o → e.role = .liqCmd → e.owner = spotNumber i → o.latch ≠ .opened

/-- What the moves of an operation may do beside the usual: open a liquid valve, credit a meter sample; and whether the map is
known to be in its whole form. -/
structure Leave where
  opens   : Bool
  credits : Bool
  whole   : Prop

/-- One move of an operation inside a command. -/
inductive Move (m : Leave) (s : State) : State → Prop
  | notice (b : List Byte) : Move m s (s.notice b)
  | conditions (i : SpotId) (now : Conditions) : Move m s (s.storeConditions i now)
  | context (i : SpotId) (f : SpotContext → SpotContext) (figures : (f (s.spot i)).acc = (s.spot i).acc)
      (tally : (f (s.spot i)).unassigned = (s.spot i).unassigned)
      (liquid : m.whole → (s.spot i).state = .unloading → (f (s.spot i)).state ≠ .unloading → Shut s i) :
      Move m s (s.modSpot i f)
  | credit (i : SpotId) (f : SpotContext → SpotContext) (allowed : m.credits = true)
      (state : (f (s.spot i)).state = (s.spot i).state) : Move m s (s.modSpot i f)
  | opening (i : SpotId) (f : SpotContext → SpotContext) (allowed : m.opens = true)
      (figures : (f (s.spot i)).acc = (s.spot i).acc) (tally : (f (s.spot i)).unassigned = (s.spot i).unassigned)
      (state : (f (s.spot i)).state = .unloading) : Move m s ((s.writeValve .liqCmd i .opened).modSpot i f)
  | compressor (c : CompId) (f : Compressor → Compressor) (record : (f (s.comp c)).record = (s.comp c).record)
      (residency : (f (s.comp c)).residency = (s.comp c).residency) : Move m s (s.modComp c f)
  | lists (l : List SpotId) (cars : List CarRecord) : Move m s { s with waitList := l, manifest := cars }
  | latch (r : Role) (owner : Nat) (cmd : Command) (closed : r = .liqCmd → cmd = .closed) :
      Move m s (s.writeLatch r owner cmd)
  | monitor (k : Nat) : Move m s (s.changeOutput k (fun o => { o with direction := .monitor }))
  | offer (k : Nat) (e : MapEntry) (o : Output) (cmd : Command) (image : Images s k e o)
      (now : outgoing s.sdu.device o = some cmd) : Move m s (s.offerCommand k cmd)
  | sample (k : Nat) (e : MapEntry) (d d' : Dynamic) (entry : Rising s.imap → entryAt s.imap k = some e)
      (input : e.body = .input d) : Move m s (s.setBody k (.input d'))

/-- A chain of moves. -/
def Moves (m : Leave) : State → State → Prop := Relation.ReflTransGen (Move m)

theorem Moves.keeps {m : Leave} {P : State → Prop} (h : ∀ s t, Move m s t → P s → P t) {s t : State}
    (hm : Moves m s t) (hp : P s) : P t := by
  induction hm with
  | refl => exact hp
  | tail _ hk ih => exact h _ _ hk ih

/-! ## Moves and the map -/

/-- A move keeps the shape of the map. -/
theorem Move.shapes {m : Leave} {s t : State} (h : Move m s t) (hr : Rising s.imap) : shapes t.imap = shapes s.imap := by
  cases h with
  | notice b => rfl
  | conditions i now => exact (inner_storeConditions s i now).shapes hr
  | context i f => rfl
  | credit i f => rfl
  | opening i f => exact (inner_writeValve s .liqCmd i .opened).shapes hr
  | compressor c f => rfl
  | lists l cars => rfl
  | latch r owner cmd => exact (inner_writeLatch s r owner cmd).shapes hr
  | monitor k => exact (inner_changeOutput s k (fun o => { o with direction := .monitor }) fun _ => rfl).shapes hr
  | offer k e o cmd => exact (inner_offerCommand s k cmd).shapes hr
  | sample k e d d' entry input => exact (inner_setInput s k e d d' (entry hr) input).shapes hr

theorem Moves.shapes {m : Leave} {s t : State} (h : Moves m s t) (hr : Rising s.imap) :
    Sys2Proof.Machine.shapes t.imap = Sys2Proof.Machine.shapes s.imap :=
  h.keeps (P := fun u => Sys2Proof.Machine.shapes u.imap = Sys2Proof.Machine.shapes s.imap)
    (fun _ _ hk hp => (hk.shapes (rising_of_shapes hp hr)).trans hp) rfl

/-- A property of pairs of entries that speaks of shapes alone. -/
theorem pairwise_of_shapes {R : Nat × MapEntry → Nat × MapEntry → Prop}
    (hR : ∀ a b c d, entryShape a = entryShape c → entryShape b = entryShape d → R c d → R a b)
    {m n : List (Nat × MapEntry)} (h : shapes n = shapes m) (hm : m.Pairwise R) : n.Pairwise R := by
  induction n generalizing m with
  | nil => exact .nil
  | cons q n ih =>
    cases m with
    | nil => simp [shapes] at h
    | cons p m =>
      simp only [shapes, List.map_cons, List.cons.injEq] at h
      obtain ⟨hpq, hrest⟩ := h
      rw [List.pairwise_cons] at hm ⊢
      refine ⟨fun b hb => ?_, ih hrest hm.2⟩
      have : entryShape b ∈ List.map entryShape m := by
        rw [← hrest]
        exact List.mem_map_of_mem hb
      obtain ⟨d, hd, he⟩ := List.mem_map.mp this
      exact hR _ _ _ _ hpq he.symm (hm.1 d hd)

theorem entryShape_eq_iff {a b : Nat × MapEntry} : entryShape a = entryShape b ↔ a.1 = b.1 ∧ a.2.node = b.2.node ∧
    a.2.channel = b.2.channel ∧ a.2.role = b.2.role ∧ a.2.owner = b.2.owner ∧ a.2.limit = b.2.limit ∧
    a.2.image.map (·.safe) = b.2.image.map (·.safe) := by
  simp only [entryShape, Prod.mk.injEq]

/-- The whole form of a map is a matter of its shape (R17, R18). -/
theorem mapOk_of_shapes {m n : List (Nat × MapEntry)} (h : shapes n = shapes m) (hm : MapOk m) : MapOk n := by
  have back : ∀ p ∈ n, ∃ q ∈ m, entryShape p = entryShape q := fun p hp => by
    have : entryShape p ∈ List.map entryShape m := by
      rw [← show List.map entryShape n = List.map entryShape m from h]
      exact List.mem_map_of_mem hp
    obtain ⟨q, hq, he⟩ := List.mem_map.mp this
    exact ⟨q, hq, he.symm⟩
  refine ⟨rising_of_shapes h hm.rising, fun p hp => ?_, ?_, ?_, fun p hp => ?_⟩
  · obtain ⟨q, hq, he⟩ := back p hp
    rw [entryShape_eq_iff] at he
    rw [he.1]
    exact hm.index q hq
  · refine pairwise_of_shapes (fun a b c d hac hbd hcd => ?_) h hm.keys
    rw [entryShape_eq_iff] at hac hbd
    rw [hac.2.1, hac.2.2.1, hbd.2.1, hbd.2.2.1]
    exact hcd
  · refine pairwise_of_shapes (fun a b c d hac hbd hcd => ?_) h hm.owners
    rw [entryShape_eq_iff] at hac hbd
    rw [hac.2.2.2.1, hac.2.2.2.2.1, hbd.2.2.2.1, hbd.2.2.2.2.1]
    exact hcd
  · obtain ⟨q, hq, he⟩ := back p hp
    rw [entryShape_eq_iff] at he
    obtain ⟨_, _, _, hrole, howner, _, himage⟩ := he
    have hsome : p.2.image.isSome = q.2.image.isSome := by
      have := congrArg Option.isSome himage
      simpa using this
    rw [hrole, howner, hsome]
    exact hm.suits q hq

theorem Moves.mapOk {m : Leave} {s t : State} (h : Moves m s t) (hm : MapOk s.imap) : MapOk t.imap :=
  mapOk_of_shapes (h.shapes hm.rising) hm

/-- An operation is a chain of moves, in which the map is known to be whole if it was at the start. -/
def Does (opens credits : Bool) (s t : State) : Prop :=
  ∀ whole : Prop, (whole → MapOk s.imap) → Moves ⟨opens, credits, whole⟩ s t

variable {o c : Bool}

theorem Does.refl (s : State) : Does o c s s := fun _ _ => .refl

theorem Does.trans {a b d : State} (h : Does o c a b) (k : Does o c b d) : Does o c a d :=
  fun w hw => Relation.ReflTransGen.trans (h w hw) (k w fun x => (h w hw).mapOk (hw x))

theorem Does.foldl {α : Type} (f : State → α → State) (h : ∀ s a, Does o c s (f s a)) (l : List α) (s : State) :
    Does o c s (l.foldl f s) := by
  induction l generalizing s with
  | nil => exact .refl s
  | cons a l ih => exact (h s a).trans (ih _)

theorem does_of_move {s t : State} (h : ∀ w, (w → MapOk s.imap) → Move ⟨o, c, w⟩ s t) : Does o c s t :=
  fun w hw => .single (h w hw)

/-- The law that every kind of move keeps, an operation keeps. -/
theorem Does.keeps {P : State → Prop} (h : ∀ s t, Move ⟨o, c, False⟩ s t → P s → P t) {s t : State}
    (hd : Does o c s t) (hp : P s) : P t :=
  (hd False False.elim).keeps h hp

/-- The same where the map is in its whole form. -/
theorem Does.keeps_whole {P : State → Prop} (h : ∀ s t, MapOk s.imap → Move ⟨o, c, True⟩ s t → P s → P t)
    {s t : State} (hd : Does o c s t) (hm : MapOk s.imap) (hp : P s) : P t :=
  ((hd True fun _ => hm).keeps (P := fun u => MapOk u.imap ∧ P u)
    (fun s t hk ⟨hm, hp⟩ => ⟨mapOk_of_shapes (hk.shapes hm.rising) hm, h s t hm hk hp⟩) ⟨hm, hp⟩).2

/-! ## Channels and notices -/

theorem does_notice (s : State) (b : List Byte) : Does o c s (s.notice b) := does_of_move fun _ _ => .notice b

theorem does_storeConditions (s : State) (i : SpotId) (now : Conditions) : Does o c s (s.storeConditions i now) :=
  does_of_move fun _ _ => .conditions i now

/-- A context change that keeps state, figures and tally. -/
theorem does_modSpot (s : State) (i : SpotId) (f : SpotContext → SpotContext)
    (hst : (f (s.spot i)).state = (s.spot i).state) (ha : (f (s.spot i)).acc = (s.spot i).acc)
    (ht : (f (s.spot i)).unassigned = (s.spot i).unassigned) : Does o c s (s.modSpot i f) :=
  does_of_move fun _ _ => .context i f ha ht fun _ e n => absurd (hst.trans e) n

/-- A context change of a spot that is not in UNLOADING. -/
theorem does_modSpot_from (s : State) (i : SpotId) (f : SpotContext → SpotContext) (hst : (s.spot i).state ≠ .unloading)
    (ha : (f (s.spot i)).acc = (s.spot i).acc) (ht : (f (s.spot i)).unassigned = (s.spot i).unassigned) :
    Does o c s (s.modSpot i f) :=
  does_of_move fun _ _ => .context i f ha ht fun _ e _ => absurd e hst

theorem does_setState_from (s : State) (i : SpotId) (st : SpotState) (hst : (s.spot i).state ≠ .unloading) :
    Does o c s (s.setState i st) := does_modSpot_from s i _ hst rfl rfl

theorem does_modComp (s : State) (k : CompId) (f : Compressor → Compressor)
    (hr : (f (s.comp k)).record = (s.comp k).record) (hd : (f (s.comp k)).residency = (s.comp k).residency) :
    Does o c s (s.modComp k f) := does_of_move fun _ _ => .compressor k f hr hd

theorem does_lists (s : State) (l : List SpotId) (cars : List CarRecord) :
    Does o c s { s with waitList := l, manifest := cars } := does_of_move fun _ _ => .lists l cars

theorem does_writeComp (s : State) (r : Role) (k : CompId) (cmd : Command) (h : r ≠ .liqCmd) :
    Does o c s (s.writeComp r k cmd) := does_of_move fun _ _ => .latch r _ cmd fun e => absurd e h

theorem does_writeClosed (s : State) (r : Role) (i : SpotId) : Does o c s (s.writeValve r i .closed) :=
  does_of_move fun _ _ => .latch r _ .closed fun _ => rfl

theorem does_reevaluate (s : State) (i : SpotId) : Does o c s (s.reevaluate i) := does_storeConditions _ _ _

theorem does_reevaluateAll (s : State) (l : List SpotId) : Does o c s (s.reevaluateAll l) :=
  Does.foldl _ does_reevaluate _ _

theorem does_reportUnknownTag (s : State) (i : SpotId) (b : Bool) : Does o c s (s.reportUnknownTag i b) := by
  unfold State.reportUnknownTag
  split
  · exact .refl s
  · exact does_storeConditions _ _ _

theorem does_standingReport (s : State) (i : SpotId) : Does o c s (s.standingReport i) := by
  unfold State.standingReport
  split
  · exact does_notice _ _
  · exact .refl s

theorem does_announce (s : State) (i : SpotId) : Does o c s (s.announce i) :=
  (does_notice _ _).trans (does_standingReport _ _)

theorem does_changeState (s : State) (i : SpotId) (st : SpotState) (hst : (s.spot i).state ≠ .unloading) :
    Does o c s (s.changeState i st) := (does_setState_from s i st hst).trans (does_announce _ _)

/-! ## The compressors -/

theorem does_syncPass (s : State) (i : SpotId) : Does o c s (s.syncPass i) := by
  unfold State.syncPass
  simp only
  split
  · split
    · split
      · exact .refl s
      · exact does_modSpot _ _ _ rfl rfl rfl
    · exact does_modSpot _ _ _ rfl rfl rfl
  · exact .refl s

theorem does_setLevel (s : State) (k : CompId) (l : Level) : Does o c s (s.setLevel k l) := by
  unfold State.setLevel
  simp only
  split
  · exact (does_modComp _ _ _ rfl rfl).trans (Does.foldl _ does_syncPass _ _)
  · exact does_modComp _ _ _ rfl rfl

theorem does_startConfirmation (s : State) (k : CompId) (a : CompReading) : Does o c s (s.startConfirmation k a) :=
  does_modComp _ _ _ rfl rfl
theorem does_startPopdown (s : State) (k : CompId) : Does o c s (s.startPopdown k) := does_modComp _ _ _ rfl rfl
theorem does_clearIdle (s : State) (k : CompId) : Does o c s (s.clearIdle k) := does_modComp _ _ _ rfl rfl

theorem does_stopCompressor (s : State) (k : CompId) : Does o c s (s.stopCompressor k) :=
  ((does_writeComp s .compRun k .stop (by decide)).trans (does_setLevel _ _ _)).trans (does_startConfirmation _ _ _)

theorem does_reverseTo (s : State) (k : CompId) (cmd : Command) (a : CompReading) : Does o c s (s.reverseTo k cmd a) :=
  ((does_writeComp s .compDir k cmd (by decide)).trans (does_setLevel _ _ _)).trans (does_startConfirmation _ _ _)

theorem does_followDemand (s : State) (k : CompId) : Does o c s (s.followDemand k) := by
  unfold State.followDemand
  split
  · split
    · exact (does_clearIdle _ _).trans (does_setLevel _ _ _)
    · exact (does_clearIdle _ _).trans (does_reverseTo _ _ _ _)
  · split
    · exact (does_clearIdle _ _).trans (does_setLevel _ _ _)
    · exact (does_clearIdle _ _).trans (does_reverseTo _ _ _ _)
  · exact (does_clearIdle _ _).trans (does_setLevel _ _ _)
  · exact (does_setLevel _ _ _).trans (does_startPopdown _ _)

theorem does_startDecision (s : State) (k : CompId) : Does o c s (s.startDecision k) := by
  unfold State.startDecision
  split
  · simp only
    refine Does.trans ?_ (does_startConfirmation _ _ _)
    refine Does.trans ?_ (does_setLevel _ _ _)
    refine Does.trans ?_ (does_modComp _ _ _ rfl rfl)
    refine Does.trans ?_ (does_writeComp _ _ _ _ (by decide))
    split
    · exact does_writeComp _ _ _ _ (by decide)
    · exact .refl s
  · exact does_modComp _ _ _ rfl rfl

theorem does_actOn (s : State) (k : CompId) (old : Demand) : Does o c s (s.actOn k old) := by
  unfold State.actOn
  simp only
  split
  · exact .refl s
  · split
    · split
      · exact does_modComp _ _ _ rfl rfl
      · split
        · exact does_startDecision _ _
        · exact .refl s
    · exact does_followDemand _ _
    · exact does_followDemand _ _
    · exact does_followDemand _ _
    all_goals exact .refl s

theorem does_actAll (s before : State) : Does o c s (s.actAll before) := Does.foldl _ (fun _ _ => does_actOn _ _ _) _ _

theorem does_leaveList (s : State) (i : SpotId) : Does o c s (s.leaveList i) := does_lists s _ s.manifest

theorem does_joinList (s : State) (i : SpotId) : Does o c s (s.joinList i) := by
  unfold State.joinList
  split
  · exact .refl s
  · exact does_lists s _ s.manifest

theorem does_attach (s : State) (k : CompId) (i : SpotId) : Does o c s (s.attach k i) := does_modComp _ _ _ rfl rfl
theorem does_detach (s : State) (k : CompId) (i : SpotId) : Does o c s (s.detach k i) := does_modComp _ _ _ rfl rfl

theorem does_applySpot (s : State) (i : SpotId) : Does o c s (s.applySpot i) := by
  unfold State.applySpot
  split
  · exact does_attach _ _ _
  · exact does_joinList _ _

theorem does_place (s : State) (i : SpotId) : Does o c s (s.place i) := by
  unfold State.place
  simp only
  split
  · split
    · exact does_detach _ _ _
    · exact .refl s
    · split
      · exact (does_detach _ _ _).trans (does_applySpot _ _)
      · exact .refl s
    · split
      · exact (does_detach _ _ _).trans (does_applySpot _ _)
      · exact .refl s
  · split
    · split
      · exact .refl s
      · exact does_leaveList _ _
    · split
      · exact does_applySpot _ _
      · exact .refl s

theorem does_takeGrant (s : State) (i : SpotId) : Does o c s (s.takeGrant i) :=
  (does_modSpot s i _ rfl rfl rfl).trans (does_syncPass _ _)

theorem does_handDemand (s : State) (i : SpotId) (d : Demand) : Does o c s (s.handDemand i d) := by
  unfold State.handDemand
  split
  · exact .refl s
  · exact (((does_modSpot s i _ rfl rfl rfl).trans (does_place _ _)).trans (does_actAll _ _)).trans (does_takeGrant _ _)

theorem does_handHold (s : State) (i : SpotId) : Does o c s (s.handHold i) := by
  unfold State.handHold
  simp only
  split
  · exact does_handDemand _ _ _
  · exact (does_handDemand _ _ _).trans (does_handDemand _ _ _)
  · exact (does_handDemand _ _ _).trans (does_handDemand _ _ _)

theorem does_followGrant (s : State) (i : SpotId) (v : Saved) : Does o c s (s.followGrant i v) := by
  unfold State.followGrant
  split
  · exact does_handHold _ _
  · exact does_handDemand _ _ _
  · exact does_handDemand _ _ _

theorem does_holdOrNone (s : State) (i : SpotId) : Does o c s (s.holdOrNone i) := by
  unfold State.holdOrNone
  split
  · exact does_handHold _ _
  · exact does_handDemand _ _ _
  · exact does_handDemand _ _ _

/-! ## A closed liquid valve -/

/-- One entry of a role and owner stands in a whole map, but for GAS (R18). -/
theorem MapOk.role_unique {l : List (Nat × MapEntry)} (h : MapOk l) {k j : Nat} {a b : MapEntry}
    (ha : entryAt l k = some a) (hb : entryAt l j = some b) (hrole : a.role = b.role) (howner : a.owner = b.owner)
    (hgas : a.role ≠ .gas) : k = j := by
  by_contra hne
  have hp : (k, a) ≠ (j, b) := fun e => hne (congrArg Prod.fst e)
  have : Std.Symm (fun a b : Nat × MapEntry => ¬ (a.2.role = b.2.role ∧ a.2.owner = b.2.owner ∧ a.2.role ≠ .gas)) :=
    ⟨fun x y hxy ⟨h1, h2, h3⟩ => hxy ⟨h1.symm, h2.symm, by rw [← h1]; exact h3⟩⟩
  exact h.owners.forall (mem_of_entryAt ha) (mem_of_entryAt hb) hp ⟨hrole, howner, hgas⟩

/-- A closed valve is shut, in a whole map. -/
theorem shut_writeClosed (s : State) (i : SpotId) (hm : MapOk s.imap) : Shut (s.writeValve .liqCmd i .closed) i := by
  intro k e o hi hrole howner hl
  have hs := (inner_writeValve s .liqCmd i .closed).shapes hm.rising
  have hm' : MapOk (s.writeValve .liqCmd i .closed).imap := mapOk_of_shapes hs hm
  have hfind : ∃ k' e', findRole (s.writeValve .liqCmd i .closed).imap .liqCmd (spotNumber i) = some (k', e') := by
    cases hf : findRole (s.writeValve .liqCmd i .closed).imap .liqCmd (spotNumber i) with
    | none =>
      have := List.find?_eq_none.mp hf (k, e) (mem_of_entryAt hi.1)
      simp [hrole, howner] at this
    | some p => exact ⟨p.1, p.2, rfl⟩
  obtain ⟨k', e', hf⟩ := hfind
  obtain ⟨hrole', howner'⟩ := findRole_role hf
  have he' := entryAt_of_findRole hm'.rising hf
  have hk := hm'.role_unique he' hi.1 (hrole'.trans hrole.symm) (howner'.trans howner.symm) (by rw [hrole']; decide)
  subst hk
  have hee : e' = e := Option.some.inj (he'.symm.trans hi.1)
  subst hee
  have hlatch := latchOf_writeLatch_same s hm.rising .liqCmd (spotNumber i) .closed
  have hfound : latchOf (s.writeValve .liqCmd i .closed) .liqCmd (spotNumber i) = some o.latch := by
    rw [latchOf_found hf]
    simp [MapEntry.image, hi.2]
  have hw : s.writeLatch .liqCmd (spotNumber i) .closed = s.writeValve .liqCmd i .closed := rfl
  rw [hw, hfound, hl] at hlatch
  cases h : latchOf s .liqCmd (spotNumber i) with
  | none => rw [h] at hlatch; cases hlatch
  | some x => rw [h] at hlatch; cases hlatch

/-- What a change of one image leaves of a shut valve. -/
theorem shut_of_image {s t : State} {i : SpotId} (h : Shut s i) {k : Nat} {e : MapEntry} {a b : Output}
    (hi : Images s k e a) (ht : entryAt t.imap k = some (e.withImage b))
    (hother : ∀ m, m ≠ k → entryAt t.imap m = entryAt s.imap m)
    (hb : e.role = .liqCmd → b.latch = a.latch ∨ b.latch = .closed) : Shut t i := by
  intro j e' b' hj hrole howner
  by_cases hk : j = k
  · subst hk
    obtain ⟨hj1, hj2⟩ := hj
    rw [ht] at hj1
    cases hj1
    cases hj2
    rcases hb hrole with e1 | e1
    · rw [e1]
      exact h _ e a hi hrole howner
    · rw [e1]
      decide
  · exact h j e' b' ⟨(hother j hk).symm.trans hj.1, hj.2⟩ hrole howner

theorem shut_of_imap {s t : State} {i : SpotId} (h : Shut s i) (e : t.imap = s.imap) : Shut t i := by
  intro k a b hi
  exact h k a b ⟨e ▸ hi.1, hi.2⟩

theorem shut_changeOutput {s : State} {i : SpotId} (h : Shut s i) (k : Nat) (f : Output → Output)
    (hf : ∀ e a, Images s k e a → e.role = .liqCmd → (f a).latch = a.latch ∨ (f a).latch = .closed) :
    Shut (s.changeOutput k f) i := by
  by_cases hi : ∃ e a, Images s k e a
  · obtain ⟨e, a, hi⟩ := hi
    obtain ⟨himage, hother, _⟩ := changeOutput_image hi f
    exact shut_of_image h hi himage hother (hf e a hi)
  · rw [changeOutput_none fun e a hi' => hi ⟨e, a, hi'⟩]
    exact h

theorem shut_writeLatch {s : State} {i : SpotId} (hr : Rising s.imap) (h : Shut s i) (r : Role) (w : Nat) (cmd : Command)
    (hc : r = .liqCmd → cmd = .closed) : Shut (s.writeLatch r w cmd) i := by
  unfold State.writeLatch
  split
  · next k e hf =>
    split
    · split
      · exact h
      · refine shut_changeOutput h k _ fun e' a hi hrole => .inr (hc ?_)
        have := entryAt_of_findRole hr hf
        rw [hi.1] at this
        cases this
        exact (findRole_role hf).1.symm.trans hrole
    · exact h
  · exact h

/-- A valve that is shut stays so through moves that open none. -/
theorem Move.shut {c : Bool} {w : Prop} {s t : State} {i : SpotId} (h : Move ⟨false, c, w⟩ s t) (hr : Rising s.imap)
    (hs : Shut s i) : Shut t i := by
  cases h with
  | notice b => exact shut_of_imap hs rfl
  | conditions j now =>
    refine shut_of_imap hs ?_
    unfold State.storeConditions
    simp only
    split <;> rfl
  | context j f => exact shut_of_imap hs rfl
  | credit j f => exact shut_of_imap hs rfl
  | opening j f allowed => cases allowed
  | compressor c f => exact shut_of_imap hs rfl
  | lists l cars => exact shut_of_imap hs rfl
  | latch r owner cmd closed => exact shut_writeLatch hr hs r owner cmd closed
  | monitor k => exact shut_changeOutput hs k _ fun _ _ _ _ => .inl rfl
  | offer k e o cmd image =>
    obtain ⟨himage, hother, _⟩ := offerCommand_image image cmd
    exact shut_of_image hs image himage hother fun _ => .inl rfl
  | sample k e d d' entry input =>
    intro j e' a hj hrole howner
    by_cases hk : j = k
    · subst hk
      obtain ⟨hj1, hj2⟩ := hj
      rw [entryAt_setBody_same (entry hr)] at hj1
      cases hj1
      cases hj2
    · exact hs j e' a ⟨(entryAt_setBody_other s hk _).symm.trans hj.1, hj.2⟩ hrole howner

theorem Moves.shut {c : Bool} {w : Prop} {s t : State} {i : SpotId} (h : Moves ⟨false, c, w⟩ s t) (hr : Rising s.imap)
    (hs : Shut s i) : Shut t i :=
  (h.keeps (P := fun u => Rising u.imap ∧ Shut u i)
    (fun _ _ hk ⟨hr, hs⟩ => ⟨rising_of_shapes (hk.shapes hr) hr, hk.shut hr hs⟩) ⟨hr, hs⟩).2

/-- A context change behind a valve that has been closed since, with no valve opened between. -/
theorem does_shut (s u : State) (i : SpotId) (f : SpotContext → SpotContext)
    (h : ∀ o c, Does o c (s.writeValve .liqCmd i .closed) u)
    (ha : (f (u.spot i)).acc = (u.spot i).acc) (ht : (f (u.spot i)).unassigned = (u.spot i).unassigned) :
    Does o c s (u.modSpot i f) := by
  intro w hw
  have h1 : Moves ⟨o, c, w⟩ s (s.writeValve .liqCmd i .closed) := does_writeClosed s .liqCmd i w hw
  have hw1 : w → MapOk (s.writeValve .liqCmd i .closed).imap := fun x => h1.mapOk (hw x)
  refine Relation.ReflTransGen.tail (Relation.ReflTransGen.trans h1 (h o c w hw1)) (.context i f ha ht fun x _ _ => ?_)
  exact (h false c w hw1).shut (hw1 x).rising (shut_writeClosed s i (hw x))

end Sys2Proof.Machine
end

section
/-! The operations of the Spot Sequencer, the Compressor Coordinator and the Metering Unit as chains of moves. -/

namespace Sys2Proof.Machine

variable {c : Bool}

/-! ## Suspension and return -/

theorem does_enterSuspended (s : State) (i : SpotId) (v : Saved) : Does true c s (s.enterSuspended i v) := by
  unfold State.enterSuspended
  simp only
  refine (does_modSpot s i (fun x => { x with
    saved := some v, travel := none, pressurise := none, pass := none, settle := none, liquidConfirmed := false })
    rfl rfl rfl).trans ?_
  refine (does_shut _ _ i (fun x => { x with state := .suspended }) (fun _ _ => .refl _) rfl rfl).trans ?_
  exact (does_followGrant _ _ _).trans ((does_modSpot _ _ _ rfl rfl rfl).trans (does_announce _ _))

theorem does_completeReturn (s : State) (i : SpotId) (v : Saved) (h : (s.spot i).state = .suspended) :
    Does true c s (s.completeReturn i v) := by
  unfold State.completeReturn
  simp only
  refine (does_modSpot_from s i (fun x =>
    { x with suspendTimer := none, saved := none, state := v.state, sub := v.sub }) (by rw [h]; decide) rfl rfl).trans ?_
  refine Does.trans ?_ (does_announce _ _)
  split
  · exact does_modSpot _ _ _ rfl rfl rfl
  · refine (does_of_move fun _ _ => .opening i (fun x => { x with liquidConfirmed := false, window := .empty }) rfl rfl rfl
      ?_).trans (does_modSpot _ _ _ rfl rfl rfl)
    simp [Saved.state]
  · exact does_syncPass _ _
  · exact does_modSpot _ _ _ rfl rfl rfl

theorem does_setNoCompressor (s : State) (i : SpotId) (b : Bool) : Does true c s (s.setNoCompressor i b) :=
  does_modSpot _ _ _ rfl rfl rfl

theorem state_setNoCompressor (s : State) (i j : SpotId) (b : Bool) :
    ((s.setNoCompressor i b).spot j).state = (s.spot j).state := by
  simp only [State.setNoCompressor, spot_modSpot]
  split
  · next e => subst e; rfl
  · rfl

theorem does_returnAttempt (s : State) (i : SpotId) (h : (s.spot i).state = .suspended) :
    Does true c s (s.returnAttempt i) := by
  unfold State.returnAttempt
  split
  · exact .refl s
  · next v _ =>
    split
    · exact does_completeReturn _ _ _ h
    · simp only
      have hst := (handed_handDemand s i v.demand).state i
      split
      · refine (does_handDemand _ _ _).trans ((does_setNoCompressor _ _ _).trans (does_completeReturn _ _ _ ?_))
        rw [state_setNoCompressor, hst, h]
      · exact (does_handDemand _ _ _).trans (does_setNoCompressor _ _ _)
      · exact (does_handDemand _ _ _).trans (does_setNoCompressor _ _ _)

theorem does_causeTest (s : State) (i : SpotId) : Does true c s (s.causeTest i) := by
  unfold State.causeTest
  simp only
  split
  · split
    · exact does_enterSuspended _ _ _
    · exact .refl s
  · split
    · next h => exact does_returnAttempt _ _ h
    · exact .refl s

theorem does_changeCauses (s : State) (i : SpotId) (f : Causes → Causes) : Does true c s (s.changeCauses i f) := by
  unfold State.changeCauses
  split
  · simp only
    split
    · exact .refl s
    · exact (does_modSpot s i _ rfl rfl rfl).trans (does_causeTest _ _)
  · exact .refl s

theorem state_takeGrant (s : State) (i j : SpotId) : ((s.takeGrant i).spot j).state = (s.spot j).state := by
  unfold State.takeGrant
  rw [(aside_syncPass _ _).state, spot_modSpot]
  split
  · next e => subst e; rfl
  · rfl

theorem does_takeReport (s : State) (i : SpotId) : Does true c s (s.takeReport i) := by
  unfold State.takeReport
  simp only
  have hg : Does true c s (s.takeGrant i) := does_takeGrant s i
  split
  · split
    · have h1 := hg.trans (does_setNoCompressor (s.takeGrant i) i false)
      split
      · next hs =>
        split
        · exact h1.trans (does_handHold _ _)
        · refine h1.trans (does_returnAttempt _ _ ?_)
          rw [state_setNoCompressor, state_takeGrant, hs]
      · exact h1
    · split
      · exact (hg.trans (does_setNoCompressor _ _ _)).trans (does_causeTest _ _)
      · exact (hg.trans (does_setNoCompressor _ _ _)).trans (does_causeTest _ _)
      · exact hg.trans (does_handDemand _ _ _)
      · exact hg
    · split
      · exact hg
      · exact hg
      · exact hg.trans (does_handDemand _ _ _)
      · exact hg.trans (does_setNoCompressor _ _ _)
  · exact hg

theorem does_grantSpot (s : State) (i : SpotId) (k : CompId) : Does true c s (s.grantSpot i k) :=
  (((does_leaveList s i).trans (does_attach _ _ _)).trans (does_actAll _ _)).trans (does_takeReport _ _)

theorem does_grantScan (n : Nat) (s : State) : Does true c s (grantScan n s) := by
  induction n generalizing s with
  | zero => exact .refl s
  | succ n ih =>
    unfold grantScan
    split
    · exact .refl s
    · exact (does_grantSpot _ _ _).trans (ih _)

theorem does_endScan (s : State) : Does true c s s.endScan := does_grantScan _ _

/-! ## The sequence -/

theorem does_enterPressurising (s : State) (i : SpotId) (h : (s.spot i).state = .opening) :
    Does true c s (s.enterPressurising i) := by
  unfold State.enterPressurising
  simp only
  refine (does_modSpot_from s i (fun x => { x with travel := none, state := .pressurising }) (by rw [h]; decide)
    rfl rfl).trans ?_
  refine Does.trans (b := State.startPressurise _ i) (does_modSpot _ _ _ rfl rfl rfl) ?_
  exact (((does_handDemand _ _ _).trans (does_announce _ _)).trans (does_takeReport _ _)).trans (does_causeTest _ _)

theorem does_enterUnloading (s : State) (i : SpotId) : Does true c s (s.enterUnloading i) := by
  unfold State.enterUnloading
  simp only
  refine (does_modSpot s i (fun x => { x with pressurise := none }) rfl rfl rfl).trans ?_
  refine (does_of_move fun _ _ => .opening i (fun x =>
    { x with liquidConfirmed := false, window := .empty, state := .unloading }) rfl rfl rfl rfl).trans ?_
  exact (does_modSpot _ _ _ rfl rfl rfl).trans (does_announce _ _)

theorem does_liquidOpened (s : State) (i : SpotId) : Does true c s (s.liquidOpened i) := does_modSpot s i _ rfl rfl rfl

theorem does_enterLiquidClosing (s : State) (i : SpotId) : Does true c s (s.enterLiquidClosing i) := by
  unfold State.enterLiquidClosing
  simp only
  refine (does_shut s _ i (fun x => { x with state := .liquidClosing }) (fun _ _ => .refl _) rfl rfl).trans ?_
  exact ((does_modSpot _ _ _ rfl rfl rfl).trans (does_holdOrNone _ _)).trans (does_announce _ _)

theorem does_enterRecovery (s : State) (i : SpotId) (h : (s.spot i).state = .liquidClosing) :
    Does true c s (s.enterRecovery i) := by
  unfold State.enterRecovery
  simp only
  refine (does_modSpot_from s i (fun x => { x with travel := none, state := .recovery, sub := some .pass, passCount := 0 })
    (by rw [h]; decide) rfl rfl).trans ?_
  exact (((does_handDemand _ _ _).trans (does_announce _ _)).trans (does_takeReport _ _)).trans (does_causeTest _ _)

theorem does_endPass (s : State) (i : SpotId) : Does true c s (s.endPass i) := by
  unfold State.endPass
  simp only
  exact ((does_modSpot s i _ rfl rfl rfl).trans (does_handDemand _ _ _)).trans (does_modSpot _ _ _ rfl rfl rfl)

theorem does_beginPass (s : State) (i : SpotId) : Does true c s (s.beginPass i) := by
  unfold State.beginPass
  simp only
  exact ((does_modSpot s i _ rfl rfl rfl).trans (does_handDemand _ _ _)).trans (does_takeReport _ _)

theorem does_endRecovery (s : State) (i : SpotId) (b : Bool) (h : (s.spot i).state = .recovery) :
    Does true c s (s.endRecovery i b) := by
  unfold State.endRecovery
  simp only
  refine (does_modSpot s i (fun x => { x with
    settle := none, sub := none, heel := !b, pendingOutcome := some (recoveryOutcome b x.stopMark) }) rfl rfl rfl).trans ?_
  refine (does_writeClosed _ .vapCmd i).trans ?_
  refine Does.trans (does_setState_from _ i .closing ?_) ((does_modSpot _ _ _ rfl rfl rfl).trans (does_announce _ _))
  rw [(aside_writeValve _ _ _ _).state, spot_modSpot_same]
  show (s.spot i).state ≠ _
  rw [h]
  decide

theorem does_settleTest (s : State) (i : SpotId) (h : (s.spot i).state = .recovery) : Does true c s (s.settleTest i) := by
  unfold State.settleTest
  split
  · split
    · exact does_endRecovery _ _ _ h
    · split
      · exact does_beginPass _ _
      · exact does_endRecovery _ _ _ h
  · exact .refl s

/-! ## Endings -/

theorem does_stopTimers (s : State) (i : SpotId) : Does true c s (s.stopTimers i) := does_modSpot s i _ rfl rfl rfl

theorem does_writeEndRecord {o : Bool} (s : State) (i : SpotId) (e : Ending) (b : Bool) :
    Does o c s (s.writeEndRecord i e b) := by
  unfold State.writeEndRecord
  simp only
  exact (does_lists s s.waitList _).trans (does_modSpot _ i _ rfl rfl rfl)

theorem does_finishTransfer (s : State) (i : SpotId) (o : Ending) (st : SpotState) (b : Bool) :
    Does true c s (s.finishTransfer i o st b) := by
  unfold State.finishTransfer
  simp only
  refine (does_stopTimers s i).trans ?_
  refine does_shut _ _ i (fun x => { x with state := st }) (fun o' c' => ?_) rfl rfl
  refine Does.trans ?_ (does_writeEndRecord _ _ _ _)
  exact ((does_writeClosed _ .vapCmd i).trans (does_handDemand _ _ _)).trans (does_modSpot _ _ _ rfl rfl rfl)

theorem does_endTransfer (s : State) (i : SpotId) (o : Ending) (st : SpotState) (b : Bool) :
    Does true c s (s.endTransfer i o st b) := by
  unfold State.endTransfer
  split
  · exact ((does_finishTransfer _ _ _ _ _).trans (does_announce _ _)).trans (does_notice _ _)
  · exact (does_finishTransfer _ _ _ _ _).trans (does_announce _ _)

theorem does_faultSpot (s : State) (i : SpotId) (o : Ending) : Does true c s (s.faultSpot i o) := by
  unfold State.faultSpot
  split
  · exact does_endTransfer _ _ _ _ _
  · exact .refl s

/-! ## Readiness, tags, pressures, positions -/

theorem does_readiness (s : State) (i : SpotId) : Does true c s (s.readiness i) := by
  unfold State.readiness
  split
  · next h =>
    split
    · exact does_changeState _ _ _ (by rw [h]; decide)
    · exact .refl s
  · next h =>
    split
    · exact .refl s
    · exact does_changeState _ _ _ (by rw [h]; decide)
  · exact .refl s

theorem does_connectionReport (s : State) (i : SpotId) (b : Bool) (o : Ending) :
    Does true c s (s.connectionReport i b o) := by
  unfold State.connectionReport
  split
  · split
    · exact .refl s
    · exact does_faultSpot _ _ _
  · exact does_readiness _ _

theorem does_connectionLost (s : State) (i : SpotId) (o : Ending) : Does true c s (s.connectionLost i o) := by
  unfold State.connectionLost
  split
  · exact does_faultSpot _ _ _
  · split
    · next h => exact does_changeState _ _ _ (by rw [h]; decide)
    · exact .refl s

theorem does_matchTag (s : State) (i : SpotId) (chars : List Byte) (h : (s.spot i).state ≠ .unloading) :
    Does true c s (s.matchTag i chars) := by
  unfold State.matchTag
  split
  · next m _ =>
    simp only
    refine Does.trans ?_ (does_readiness _ _)
    refine Does.trans (Does.trans (does_lists s s.waitList m) (does_modSpot _ i (fun x => { x with lastHeld := none })
      rfl rfl rfl)) ?_
    refine (does_reportUnknownTag _ i false).trans (does_changeState _ _ _ ?_)
    rw [state_reportUnknownTag, spot_modSpot_same]
    exact h
  · exact does_reportUnknownTag _ _ _

theorem does_unbind (s : State) (i : SpotId) : Does true c s (s.unbind i) :=
  Does.trans (does_lists s s.waitList _) (does_modSpot _ i (fun x => { x with lastHeld := none }) rfl rfl rfl)

theorem state_unbind (s : State) (i : SpotId) : ((s.unbind i).spot i).state = (s.spot i).state := by
  unfold State.unbind
  rw [spot_modSpot_same]
  rfl

theorem state_changeState (s : State) (i : SpotId) (st : SpotState) : ((s.changeState i st).spot i).state = st := by
  unfold State.changeState
  rw [(aside_announce _ _).state]
  simp [State.setState]

theorem does_rebind (s : State) (i : SpotId) (chars : List Byte) (h : (s.spot i).state ≠ .unloading) :
    Does true c s (((s.unbind i).changeState i .vacant).matchTag i chars) := by
  refine ((does_unbind s i).trans (does_changeState _ _ _ ?_)).trans (does_matchTag _ _ _ ?_)
  · rw [state_unbind]
    exact h
  · rw [state_changeState]
    decide

theorem does_deliverTag (s : State) (i : SpotId) (chars : List Byte) : Does true c s (s.deliverTag i chars) := by
  unfold State.deliverTag
  split
  · next h => exact does_matchTag _ _ _ (by rw [h]; decide)
  · next h =>
    split
    · exact .refl s
    · exact does_rebind _ _ _ (by rw [h]; decide)
  · next h =>
    split
    · exact .refl s
    · exact does_rebind _ _ _ (by rw [h]; decide)
  · exact .refl s
  · exact .refl s
  · exact .refl s
  all_goals
    split
    · exact .refl s
    · exact does_faultSpot _ _ _

theorem does_differentialTest (s : State) (i : SpotId) : Does true c s (s.differentialTest i) := by
  unfold State.differentialTest
  split
  · split
    · exact does_enterUnloading _ _
    · exact .refl s
  · exact .refl s

theorem does_deliverCarPressure (s : State) (i : SpotId) (p : Int) : Does true c s (s.deliverCarPressure i p) := by
  unfold State.deliverCarPressure
  split
  · exact .refl s
  · simp only
    have hc := does_changeCauses (c := c) s i
    split
    · exact (hc _).trans (does_differentialTest _ _)
    · split
      · exact (hc _).trans (does_endPass _ _)
      · exact hc _

theorem does_deliverTankPressure (s : State) (i : SpotId) : Does true c s (s.deliverTankPressure i) := by
  unfold State.deliverTankPressure
  split
  · exact does_differentialTest _ _
  · exact .refl s

theorem does_deliverPosition (s : State) (i : SpotId) (r : Role) (p : Position) :
    Does true c s (s.deliverPosition i r p) := by
  unfold State.deliverPosition
  simp only
  split
  · exact .refl s
  · split
    · split
      · next h => exact does_enterPressurising _ _ h
      · exact does_liquidOpened _ _
      · next h => exact does_enterRecovery _ _ h
      · exact does_endTransfer _ _ _ _ _
      · exact .refl s
    · exact .refl s

theorem does_tripSpots (s : State) : Does true c s s.tripSpots := Does.foldl _ (fun _ _ => does_faultSpot _ _ _) _ _

theorem does_resetSpot (s : State) (i : SpotId) : Does true c s (s.resetSpot i) := by
  unfold State.resetSpot
  simp only
  split
  · exact (does_endTransfer _ _ _ _ _).trans (does_reportUnknownTag _ _ _)
  · next ha =>
    have hne : (s.spot i).state ≠ .unloading := fun e => ha (by rw [State.isActive, e]; rfl)
    have close : ∀ u, Does true c s u → (u.spot i).state ≠ .unloading →
        Does true c s (if ((u.reportUnknownTag i false).spot i).state = s.restState i then u.reportUnknownTag i false
          else (u.reportUnknownTag i false).changeState i (s.restState i)) := by
      intro u hu hn
      refine hu.trans ((does_reportUnknownTag u i false).trans ?_)
      split
      · exact .refl _
      · exact does_changeState _ _ _ (by rw [state_reportUnknownTag]; exact hn)
    split
    · exact close _ (does_unbind s i) (by rw [state_unbind]; exact hne)
    · exact close _ (does_unbind s i) (by rw [state_unbind]; exact hne)
    · exact close s (.refl s) hne

theorem does_resetSpots (s : State) : Does true c s s.resetSpots := Does.foldl _ does_resetSpot _ _

/-! ## The Compressor Coordinator -/

theorem does_reportAttached (s : State) (k : CompId) : Does true c s (s.reportAttached k) :=
  Does.foldl _ does_takeReport _ _

theorem does_enterUnavailable (s : State) (k : CompId) : Does true c s (s.enterUnavailable k) := by
  unfold State.enterUnavailable
  simp only
  refine Does.trans ?_ (Does.foldl _ does_takeReport _ _)
  refine Does.trans ?_ (Does.foldl _ does_joinList _ _)
  refine Does.trans ?_ (does_modComp _ _ _ rfl rfl)
  refine Does.trans ?_ (does_notice _ _)
  refine Does.trans ?_ (does_modComp _ _ _ rfl rfl)
  exact (does_modComp _ _ _ rfl rfl).trans (does_writeComp _ _ _ _ (by decide))

theorem does_checkUsable (s : State) (k : CompId) : Does true c s (s.checkUsable k) := by
  unfold State.checkUsable
  split
  · exact does_enterUnavailable _ _
  · exact .refl s

theorem does_monitorComp (s : State) (k : CompId) : Does true c s (s.monitorComp k) :=
  (does_checkUsable s k).trans (does_writeComp _ _ _ _ (by decide))

theorem does_returnToLevel (s : State) (k : CompId) (l : Level) : Does true c s (s.returnToLevel k l) :=
  (does_setLevel _ _ _).trans (does_notice _ _)

theorem does_takeOver (s : State) (k : CompId) (d : Command) : Does true c s (s.takeOver k d) := by
  unfold State.takeOver
  simp only
  split
  · exact (((does_writeComp s .compDir k d (by decide)).trans (does_writeComp _ _ _ _ (by decide))).trans
      (does_startPopdown _ _)).trans (does_returnToLevel _ _ _)
  · exact (((does_writeComp s .compDir k d (by decide)).trans (does_writeComp _ _ _ _ (by decide))).trans
      (does_startConfirmation _ _ _)).trans (does_returnToLevel _ _ _)

theorem does_leaveUnavailable (s : State) (k : CompId) (r : CompReading) : Does true c s (s.leaveUnavailable k r) := by
  unfold State.leaveUnavailable
  split
  · exact .refl s
  · split
    · exact (does_writeComp s .compRun k .stop (by decide)).trans (does_returnToLevel _ _ _)
    · exact does_takeOver _ _ _
    · exact does_takeOver _ _ _
    · exact .refl s

theorem does_confirmRunning (s : State) (k : CompId) : Does true c s (s.confirmRunning k) :=
  ((does_modComp s k (fun x => { x with confirm := none }) rfl rfl).trans (does_setLevel _ _ _)).trans
    (does_followDemand _ _)

theorem does_confirmStop (s : State) (k : CompId) : Does true c s (s.confirmStop k) := by
  unfold State.confirmStop
  simp only
  refine ((does_modComp s k (fun x => { x with confirm := none }) rfl rfl).trans (does_setLevel _ k .stopped)).trans ?_
  split
  · exact .refl _
  · exact (does_startDecision _ _).trans (does_reportAttached _ _)

theorem does_stateReport (s : State) (k : CompId) (r : CompReading) : Does true c s (s.stateReport k r) := by
  have hu : Does true c s (s.enterUnavailable k) := does_enterUnavailable s k
  have hr : Does true c s (s.confirmRunning k) := does_confirmRunning s k
  have either : ∀ (p : Prop) [Decidable p] (a b : State), Does true c s a → Does true c s b →
      Does true c s (if p then a else b) := fun p _ a b ha hb => by
    split
    · exact ha
    · exact hb
  unfold State.stateReport
  split
  · split
    exacts [.refl s, hu, hu, hu]
  · split
    exacts [.refl s, either _ _ _ hr hu, either _ _ _ hr hu, hu]
  · exact either _ _ _ (.refl s) hu
  · exact either _ _ _ (.refl s) hu
  · exact either _ _ _ (.refl s) hu
  · split
    exacts [.refl s, either _ _ _ hr (.refl s), either _ _ _ hr (.refl s), hu]
  · split
    exacts [does_confirmStop s k, .refl s, .refl s, hu]
  · exact does_leaveUnavailable s k r

theorem does_popdownExpired (s : State) (k : CompId) : Does true c s (s.popdownExpired k) := by
  unfold State.popdownExpired
  simp only
  refine (does_modComp s k (fun x => { x with popdown := none }) rfl rfl).trans ?_
  split
  · exact does_modComp _ _ _ rfl rfl
  · exact does_stopCompressor _ _

theorem does_removeStart (s : State) (k : CompId) : Does true c s (s.removeStart k) := by
  unfold State.removeStart
  simp only
  refine (does_modComp s k (fun x => { x with history := x.history.drop 1 }) rfl rfl).trans ?_
  split
  · exact (does_startDecision _ _).trans (does_reportAttached _ _)
  · split
    · exact (does_modComp _ _ _ rfl rfl).trans (does_stopCompressor _ _)
    · exact .refl _

theorem does_tripComp (s : State) (k : CompId) : Does true c s (s.tripComp k) := by
  unfold State.tripComp
  simp only
  refine (does_modComp s k (fun x =>
    { x with attached := [], popdown := none, deferred := false, held := false }) rfl rfl).trans ?_
  refine (Does.foldl State.takeReport does_takeReport (s.comp k).attached _).trans ?_
  split
  · exact does_stopCompressor _ _
  · exact .refl _

theorem does_tripComps (s : State) : Does true c s s.tripComps := by
  unfold State.tripComps
  simp only
  refine (Does.foldl State.tripComp does_tripComp allComps s).trans ?_
  generalize allComps.foldl State.tripComp s = t
  exact (does_lists t [] t.manifest).trans (Does.foldl State.takeReport does_takeReport t.waitList _)

/-! ## The Metering Unit -/

theorem does_credit (s : State) (i : SpotId) (f : SpotContext → SpotContext)
    (hst : (f (s.spot i)).state = (s.spot i).state) : Does true true s (s.modSpot i f) :=
  does_of_move fun _ _ => .credit i f rfl hst

theorem does_addRate (s : State) (i : SpotId) (q : Nat) : Does true c s (s.addRate i q) := by
  unfold State.addRate
  simp only
  refine (does_modSpot s i (fun x => { x with window := x.window.add q }) rfl rfl rfl).trans ?_
  split
  · exact does_enterLiquidClosing _ _
  · exact .refl _

theorem does_excessTest (s : State) (i : SpotId) : Does true c s (s.excessTest i) := by
  unfold State.excessTest
  split
  · exact .refl s
  · simp only
    split
    · exact (does_modSpot s i (fun x => { x with excessSeen := true }) rfl rfl rfl).trans (does_changeCauses _ _ _)
    · exact .refl s

theorem does_handOff (s : State) (i : SpotId) (q before : Nat) : Does true c s (s.handOff i q before) := by
  unfold State.handOff
  simp only
  have h1 : Does true c s (if (s.spot i).state = .unloading then s.addRate i q else s) := by
    split
    · exact does_addRate _ _ _
    · exact .refl s
  generalize (if (s.spot i).state = .unloading then s.addRate i q else s) = t at *
  refine h1.trans ((does_excessTest t i).trans ?_)
  split
  · exact does_standingReport _ _
  · exact .refl _

theorem does_suspectMeter (s : State) (i : SpotId) : Does true c s (s.suspectMeter i) := by
  unfold State.suspectMeter
  split
  exacts [does_changeCauses s i _, does_changeCauses s i _, does_changeCauses s i _, does_changeCauses s i _, .refl s]

theorem does_rejectSample (s : State) (i : SpotId) (d : Nat) : Does true true s (s.rejectSample i d) := by
  unfold State.rejectSample
  simp only
  split
  · exact (does_credit s i (fun x =>
      { x with acc := { x.acc with rejected := Nat.min (x.acc.rejected + d) Config.max64 } }) rfl).trans
      (does_suspectMeter _ _)
  · exact does_suspectMeter _ _

theorem does_creditSample (s : State) (i : SpotId) (d e : Nat) : Does true true s (s.creditSample i d e) := by
  unfold State.creditSample
  split
  · exact .refl s
  · next k _ =>
    simp only
    split
    · exact (does_credit s i (fun x => { x with acc := credit (s.spot i).acc k d e }) rfl).trans (does_handOff _ _ _ _)
    · exact does_rejectSample _ _ _

theorem does_addUnassigned (s : State) (i : SpotId) (d : Nat) : Does true true s (s.addUnassigned i d) :=
  does_credit s i _ rfl

theorem does_disposeSample (s : State) (i : SpotId) (d e : Nat) : Does true true s (s.disposeSample i d e) := by
  unfold State.disposeSample
  split
  · split
    · exact does_rejectSample _ _ _
    · split
      · exact does_creditSample _ _ _ _
      · exact does_addUnassigned _ _ _
  · exact does_addUnassigned _ _ _

theorem does_setInput {o : Bool} (s : State) (k : Nat) (e : MapEntry) (d d' : Dynamic)
    (entry : Rising s.imap → entryAt s.imap k = some e) (input : e.body = .input d) :
    Does o c s (s.setBody k (.input d')) := does_of_move fun _ _ => .sample k e d d' entry input

theorem does_setBaseline (s : State) (k : Nat) (b : Baseline) : Does true c s (s.setBaseline k b) := by
  unfold State.setBaseline
  split
  · next e he =>
    split
    · next d hd => exact does_setInput s k e d _ (fun _ => he) hd
    · exact .refl s
  · exact .refl s

theorem does_meterSample (s : State) (k : Nat) (i : SpotId) (n t : Word16) : Does true true s (s.meterSample k i n t) := by
  unfold State.meterSample
  split
  · exact does_setBaseline _ _ _
  · simp only
    split
    · exact .refl s
    · exact (does_setBaseline _ _ _).trans (does_disposeSample _ _ _ _)

/-! ## Owners told, and expiries -/

theorem does_freshSpot (s : State) (i : SpotId) : Does true c s (s.freshSpot i) := by
  unfold State.freshSpot
  split
  · exact .refl s
  · exact does_changeCauses _ _ _

theorem does_tellFresh (s : State) (r : Role) (l : List SpotId) : Does true c s (s.tellFresh r l) := by
  have fresh : Does true c s (l.foldl State.freshSpot s) := Does.foldl _ does_freshSpot l s
  unfold State.tellFresh
  split
  exacts [fresh, fresh, fresh, fresh, .refl s]

theorem does_travelExpired (s : State) (i : SpotId) : Does true c s (s.travelExpired i) := by
  unfold State.travelExpired
  split
  · exact (does_faultSpot _ _ _).trans (does_endScan _)
  · exact .refl s

theorem does_pressuriseExpired (s : State) (i : SpotId) : Does true c s (s.pressuriseExpired i) := by
  unfold State.pressuriseExpired
  split
  · exact (does_faultSpot _ _ _).trans (does_endScan _)
  · exact .refl s

theorem does_suspendExpired (s : State) (i : SpotId) : Does true c s (s.suspendExpired i) := by
  unfold State.suspendExpired
  simp only
  split
  · refine (does_modSpot s i (fun x => { x with suspendTimer := none }) rfl rfl rfl).trans ?_
    exact (((does_handDemand _ _ _).trans (does_setNoCompressor _ _ _)).trans (does_causeTest _ _)).trans
      (does_endScan _)
  · exact .refl s

theorem does_passExpired (s : State) (i : SpotId) : Does true c s (s.passExpired i) := by
  unfold State.passExpired
  simp only
  split
  · exact (does_endPass _ _).trans (does_endScan _)
  · exact .refl s

theorem does_settleExpired (s : State) (i : SpotId) : Does true c s (s.settleExpired i) := by
  unfold State.settleExpired
  simp only
  split
  · next h =>
    simp only [Bool.and_eq_true, decide_eq_true_eq] at h
    exact (does_settleTest _ _ h.2).trans (does_endScan _)
  · exact .refl s

theorem does_confirmationExpired (s : State) (k : CompId) : Does true c s (s.confirmationExpired k) := by
  unfold State.confirmationExpired
  split
  · exact (does_enterUnavailable _ _).trans (does_endScan _)
  · exact .refl s

theorem does_popdownDue (s : State) (k : CompId) : Does true c s (s.popdownDue k) := by
  unfold State.popdownDue
  split
  · exact does_popdownExpired _ _
  · exact .refl s

theorem does_startAged (s : State) (k : CompId) : Does true c s (s.startAged k) := by
  unfold State.startAged
  split
  · exact (does_removeStart _ _).trans (does_endScan _)
  · exact .refl s

theorem does_refreshExpired (s : State) (k : Nat) : Does true c s (s.refreshExpired k) := by
  unfold State.refreshExpired
  split
  · exact .refl s
  · next e he =>
    split
    · exact .refl s
    · next o ho =>
      split
      · split
        · next cmd hc => exact does_of_move fun _ _ => .offer k e o cmd ⟨he, ho⟩ hc
        · exact .refl s
      · exact .refl s

/-! ## Transfers -/

theorem does_startTransfer (s : State) (i : SpotId) (h : (s.spot i).state = .ready) :
    Does true true s (s.startTransfer i) := by
  unfold State.startTransfer
  simp only
  have hst : ((s.modSpot i (startContext (liveCauses s i))).spot i).state = .ready := by
    rw [spot_modSpot_same]
    exact h
  refine (does_credit s i (startContext (liveCauses s i)) rfl).trans ?_
  generalize s.modSpot i (startContext (liveCauses s i)) = u at *
  refine (does_writeClosed u .liqCmd i).trans ?_
  refine Does.trans (b := (u.writeValve .liqCmd i .closed).writeValve .vapCmd i .opened)
    (does_of_move fun _ _ => .latch _ _ _ (by decide)) ?_
  refine Does.trans (does_setState_from _ i .opening ?_) ((does_modSpot _ _ _ rfl rfl rfl).trans (does_announce _ _))
  rw [(aside_writeValve _ _ _ _).state, (aside_writeValve _ _ _ _).state, hst]
  decide

theorem does_stopTransfer (s : State) (i : SpotId) : Does true c s (s.stopTransfer i) := by
  unfold State.stopTransfer
  simp only
  rw [modSpot_modSpot]
  exact ((does_modSpot s i _ rfl rfl rfl).trans (does_enterLiquidClosing _ _)).trans (does_endScan _)

theorem does_resumeTransfer (s : State) (i : SpotId) : Does true c s (s.resumeTransfer i) :=
  ((does_modSpot s i _ rfl rfl rfl).trans (does_causeTest _ _)).trans (does_endScan _)

theorem does_abortTransfer (s : State) (i : SpotId) : Does true c s (s.abortTransfer i) := by
  unfold State.abortTransfer
  simp only
  refine Does.trans ?_ (does_endScan _)
  generalize hlive : liveCauses s i = live
  refine (does_modSpot s i (fun x =>
    { x with pressurise := none, suspendTimer := none, pass := none, settle := none }) rfl rfl rfl).trans ?_
  generalize s.modSpot i (fun x => { x with pressurise := none, suspendTimer := none, pass := none, settle := none }) = u
  have chain : ∀ o c, Does o c (u.writeValve .liqCmd i .closed)
      (((((u.closeValves i).modSpot i (emptyCauses live)).modSpot i (fun x => { x with sub := none })).handDemand i
        .none).modSpot i (fun x => { x with pendingOutcome := some .aborted })) := fun o c =>
    ((((does_writeClosed _ .vapCmd i).trans (does_modSpot _ _ _ rfl rfl rfl)).trans
      (does_modSpot _ _ _ rfl rfl rfl)).trans (does_handDemand _ _ _)).trans (does_modSpot _ _ _ rfl rfl rfl)
  split
  · exact (does_writeClosed u .liqCmd i).trans (chain _ _)
  · refine (does_shut u _ i (fun x => { x with state := .closing }) chain rfl rfl).trans ?_
    exact (does_modSpot _ _ _ rfl rfl rfl).trans (does_announce _ _)

end Sys2Proof.Machine
end

section
/-! What alone may write each part of the state. Each part is kept by every move, and so by every operation; the commands that write
it are the exceptions. -/

namespace Sys2Proof.Machine

/-! ## Events that can trip the part -/

/-- A chain of operations and of trip causes added. -/
def Turning (c : Bool) : State → State → Prop :=
  Relation.ReflTransGen (fun a b => Does true c a b ∨ ∃ added, b = a.addTripCause added)

variable {c : Bool}

theorem Turning.refl (s : State) : Turning c s s := Relation.ReflTransGen.refl

theorem Turning.trans {a b d : State} (h : Turning c a b) (k : Turning c b d) : Turning c a d :=
  Relation.ReflTransGen.trans h k

theorem Does.turning {s t : State} (h : Does true c s t) : Turning c s t := .single (.inl h)

theorem turning_addTripCause (s : State) (added : TripCauses) : Turning c s (s.addTripCause added) :=
  .single (.inr ⟨added, rfl⟩)

/-- The law that operations and trip causes keep. -/
theorem Turning.keeps {P : State → Prop} (hd : ∀ s t, Does true c s t → P s → P t)
    (ht : ∀ s added, P s → P (s.addTripCause added)) {s t : State} (h : Turning c s t) (hp : P s) : P t := by
  induction h with
  | refl => exact hp
  | tail _ hk ih =>
    rcases hk with hk | ⟨added, rfl⟩
    · exact hd _ _ hk ih
    · exact ht _ _ ih

theorem turning_deliver (s : State) (k : Nat) (e : MapEntry) (l : List SpotId) (v : Value) :
    Turning true s (s.deliver k e l v) := by
  unfold State.deliver
  split
  · exact (Does.foldl _ (fun _ _ => does_meterSample _ _ _ _ _) _ _).turning
  · exact .refl s
  · split
    · exact (Does.foldl _ (fun _ _ => does_deliverCarPressure _ _ _) _ _).turning
    · exact (Does.foldl _ (fun _ _ => does_deliverTankPressure _ _) _ _).turning
  · exact (Does.foldl _ (fun _ _ => does_deliverPosition _ _ _ _) _ _).turning
  · exact (Does.foldl _ (fun _ _ => does_deliverTag _ _ _) _ _).turning
  · split
    · exact (does_stateReport _ _ _).turning
    · exact .refl s
  · split
    · exact (Does.foldl _ (fun _ _ => does_connectionReport _ _ _ _) _ _).turning
    · exact (Does.foldl _ (fun _ _ => does_connectionReport _ _ _ _) _ _).turning
    · exact (Does.foldl _ (fun _ _ => does_connectionReport _ _ _ _) _ _).turning
    · exact (Does.foldl _ (fun _ _ => does_changeCauses _ _ _) _ _).turning
    · split
      · exact turning_addTripCause _ _
      · exact .refl s
    · exact .refl s

theorem turning_acceptSample (s : State) (k : Nat) (e : MapEntry) (d : Dynamic) (q : Byte) (v : Value)
    (entry : Rising s.imap → entryAt s.imap k = some e) (input : e.body = .input d) :
    Turning true s (s.acceptSample k e d q v) := by
  unfold State.acceptSample
  simp only
  refine Turning.trans ?_ (turning_deliver _ _ _ _ _)
  refine (does_setInput s k e d (acceptInto d e.role q v s.uptime) entry input).turning.trans ?_
  generalize s.setBody k (.input (acceptInto d e.role q v s.uptime)) = t
  refine (does_reevaluateAll t (concernedSpots t e.role e.owner)).turning.trans ?_
  split
  · exact (does_tellFresh _ _ _).turning
  · exact .refl _

theorem turning_offerSample (s : State) (f : Frame) : Turning true s (s.offerSample f) := by
  unfold State.offerSample
  split
  · exact .refl s
  · split
    · exact .refl s
    · split
      · exact .refl s
      · next hk =>
        split
        · exact .refl s
        · next hb =>
          split
          · split
            · exact (turning_acceptSample s _ _ _ _ _ (fun hr => entryAt_of_findKey hr hk) hb).trans
                (does_endScan _).turning
            · exact .refl s
          · exact .refl s

theorem turning_tellStale (s : State) (r : Role) (o : Nat) (l : List SpotId) : Turning c s (s.tellStale r o l) := by
  have lost (e : Ending) : Turning c s (l.foldl (fun u i => u.connectionLost i e) s) :=
    (Does.foldl _ (fun u i => does_connectionLost u i e) l s).turning
  have caused (f : Causes → Causes) : Turning c s (l.foldl (fun u i => u.changeCauses i f) s) :=
    (Does.foldl _ (fun u i => does_changeCauses u i f) l s).turning
  cases r with
  | bond | armLiq | armVap => exact lost _
  | tankHigh | meter | tempLiq | pCar | pTank => exact caused _
  | gas => exact turning_addTripCause s _
  | compState =>
    unfold State.tellStale
    simp only
    split
    · exact (does_checkUsable s _).turning
    · exact .refl s
  | liqPos | vapPos | tag | liqCmd | vapCmd | compRun | compDir => exact .refl s

theorem turning_stalenessExpiry (s : State) (k : Nat) : Turning c s (s.stalenessExpiry k) := by
  unfold State.stalenessExpiry
  split
  · exact .refl s
  · next e he =>
    split
    · exact .refl s
    · next d hb =>
      split
      · unfold State.goStale
        simp only
        refine (does_setInput s k e d { d with stale := true } (fun _ => he) hb).turning.trans ?_
        exact ((turning_tellStale _ _ _ _).trans (does_reevaluateAll _ _).turning).trans (does_endScan _).turning
      · exact .refl s

/-- The hand-offs of trip entry up to the safe values (R175). -/
theorem does_tripHandOffs (s : State) (added : TripCauses) : Does true c s (s.tripNotice added).tripSpots.tripComps :=
  ((does_notice s _).trans (does_tripSpots _)).trans (does_tripComps _)

/-- Every image is offered its safe value, which is its outgoing command while TRIPPED (R162). -/
theorem does_forceAllSafe (s : State) (h : s.sdu.device = .tripped) : Does true c s s.forceAllSafe := by
  have step : ∀ (u : State) (k : Nat), u.sdu.device = .tripped → Does true c u (u.forceSafe k) := fun u k hu => by
    unfold State.forceSafe
    split
    · next e he =>
      split
      · next o ho => exact does_of_move fun _ _ => .offer k e o o.safe ⟨he, ho⟩ (by rw [hu]; rfl)
      · exact .refl u
    · exact .refl u
  have fold : ∀ (l : List Nat) (u : State), u.sdu.device = .tripped → Does true c u (l.foldl State.forceSafe u) := by
    intro l
    induction l with
    | nil => exact fun u _ => .refl u
    | cons k l ih =>
      exact fun u hu => (step u k hu).trans (ih _ (by rw [(inner_forceSafe u k).sdu]; exact hu))
  exact fold _ s h

/-! ## The parts -/

/-- The parts that few commands write. -/
inductive Part where
  | queue | address | straps | clock | shape | figures | tally | residency | standing | latches | tripped
  | table | groups | records | positions | cars
  deriving DecidableEq

/-- A part is as it was, or keeps what may not be lost. -/
def Kept (p : Part) (s t : State) : Prop :=
  match p with
  | .queue => t.pending = s.pending
  | .address => t.rpu.address = s.rpu.address
  | .straps => t.pins.straps = s.pins.straps
  | .clock => t.uptime = s.uptime ∧ t.freeDraws = s.freeDraws
  | .shape => Rising s.imap → shapes t.imap = shapes s.imap
  | .figures => ∀ i, (t.spot i).acc = (s.spot i).acc
  | .tally => ∀ i, (t.spot i).unassigned = (s.spot i).unassigned
  | .residency => ∀ k, (t.comp k).residency = (s.comp k).residency
  | .standing => t.mgu.standing = s.mgu.standing
  | .latches => ∀ i, (s.latches i).zip (fun x y => x && !y) (t.latches i) = .allFalse
  | .tripped => s.sdu.device = .tripped → t.sdu.device = .tripped
  | .table => t.table = s.table
  | .groups => t.groups = s.groups
  | .records => ∀ k, (t.comp k).record = (s.comp k).record
  | .positions => t.manifest.length = s.manifest.length
  | .cars => ∀ (p : Nat) (r : CarRecord), recordAt s.manifest p = some r →
      (∃ r', recordAt t.manifest p = some r' ∧ r'.fixed = r.fixed) ∧ (r.status = .done → recordAt t.manifest p = some r)

/-- A latch that was set and is kept: no condition is lost. -/
theorem zip_lost_iff (a b : Conditions) : a.zip (fun x y => x && !y) b = .allFalse ↔
    (a.bondOk = true → b.bondOk = true) ∧ (a.armLiq = true → b.armLiq = true) ∧ (a.armVap = true → b.armVap = true) ∧
    (a.tankHigh = true → b.tankHigh = true) ∧ (a.unknownTag = true → b.unknownTag = true) ∧
    (a.anyStale = true → b.anyStale = true) := by
  simp only [Conditions.zip, Conditions.allFalse, Conditions.mk.injEq, Bool.and_eq_false_iff, Bool.not_eq_false']
  grind

theorem Kept.refl (p : Part) (s : State) : Kept p s s := by
  cases p with
  | clock => exact ⟨rfl, rfl⟩
  | latches => exact fun i => (zip_lost_iff _ _).mpr ⟨id, id, id, id, id, id⟩
  | tripped => exact id
  | cars => exact fun p r h => ⟨⟨r, h, rfl⟩, fun _ => h⟩
  | shape => exact fun _ => rfl
  | figures => exact fun _ => rfl
  | tally => exact fun _ => rfl
  | residency => exact fun _ => rfl
  | records => exact fun _ => rfl
  | queue => exact Eq.refl s.pending
  | address => exact Eq.refl s.rpu.address
  | straps => exact Eq.refl s.pins.straps
  | standing => exact Eq.refl s.mgu.standing
  | table => exact Eq.refl s.table
  | groups => exact Eq.refl s.groups
  | positions => exact Eq.refl s.manifest.length

theorem Kept.trans {p : Part} {a b d : State} (h : Kept p a b) (k : Kept p b d) : Kept p a d := by
  cases p with
  | clock => exact ⟨k.1.trans h.1, k.2.trans h.2⟩
  | shape => exact fun r => (k (rising_of_shapes (h r) r)).trans (h r)
  | latches =>
    intro i
    obtain ⟨h1, h2, h3, h4, h5, h6⟩ := (zip_lost_iff _ _).mp (h i)
    obtain ⟨k1, k2, k3, k4, k5, k6⟩ := (zip_lost_iff _ _).mp (k i)
    exact (zip_lost_iff _ _).mpr ⟨k1 ∘ h1, k2 ∘ h2, k3 ∘ h3, k4 ∘ h4, k5 ∘ h5, k6 ∘ h6⟩
  | tripped => exact fun x => k (h x)
  | cars =>
    intro p r hr
    obtain ⟨⟨r1, hr1, hf1⟩, hd1⟩ := h p r hr
    obtain ⟨⟨r2, hr2, hf2⟩, _⟩ := k p r1 hr1
    exact ⟨⟨r2, hr2, hf2.trans hf1⟩, fun done => (k p r (hd1 done)).2 done⟩
  | figures => exact fun i => (k i).trans (h i)
  | tally => exact fun i => (k i).trans (h i)
  | residency => exact fun i => (k i).trans (h i)
  | records => exact fun i => (k i).trans (h i)
  | queue => exact Eq.trans k h
  | address => exact Eq.trans k h
  | straps => exact Eq.trans k h
  | standing => exact Eq.trans k h
  | table => exact Eq.trans k h
  | groups => exact Eq.trans k h
  | positions => exact Eq.trans k h

/-- The parts that a law over the moves is needed for: figures and tallies, residency, latches, compressor records. -/
def Part.moved : Part → Bool
  | .figures => true
  | .tally => true
  | .residency => true
  | .latches => true
  | .records => true
  | _ => false

/-- The parts that crediting a meter sample writes. -/
def Part.credited : Part → Bool
  | .figures => true
  | .tally => true
  | _ => false

theorem values_storeConditions (s : State) (i j : SpotId) (now : Conditions) :
    (s.storeConditions i now).values j = if j = i then now else s.values j := by
  have hv : ((s.storeConditions i now).conditions) = s.conditions.set i.val
      ⟨now, (s.conditions.get i).latches.zip (fun x y => x || y) ((s.conditions.get i).values.changed now)⟩ i.isLt := by
    unfold State.storeConditions
    simp only
    split <;> rfl
  rw [State.values, hv]
  by_cases h : j = i
  · subst h
    rw [vectorGet_set_same, if_pos rfl]
  · rw [vectorGet_set_other _ _ h, if_neg h]
    rfl

theorem latches_storeConditions (s : State) (i j : SpotId) (now : Conditions) :
    (s.storeConditions i now).latches j =
      if j = i then (s.latches i).zip (fun l c => l || c) ((s.values i).changed now) else s.latches j := by
  have hv : ((s.storeConditions i now).conditions) = s.conditions.set i.val
      ⟨now, (s.conditions.get i).latches.zip (fun x y => x || y) ((s.conditions.get i).values.changed now)⟩ i.isLt := by
    unfold State.storeConditions
    simp only
    split <;> rfl
  rw [State.latches, hv]
  by_cases h : j = i
  · subst h
    rw [vectorGet_set_same, if_pos rfl]
    rfl
  · rw [vectorGet_set_other _ _ h, if_neg h]
    rfl

theorem comp_storeConditions (s : State) (i : SpotId) (now : Conditions) (k : CompId) :
    (s.storeConditions i now).comp k = s.comp k := by
  unfold State.storeConditions
  simp only
  split <;> rfl

/-- What writes neither spots nor compressors nor conditions keeps these parts. -/
theorem kept_moved_of_parts {s t : State} (hs : t.spots = s.spots) (hc : t.comps = s.comps)
    (hv : t.conditions = s.conditions) {p : Part} (hp : p.moved = true) : Kept p s t := by
  have hspot := spot_of_spots hs
  have hcomp := comp_of_comps hc
  have hl : ∀ i, t.latches i = s.latches i := fun i => by rw [State.latches, State.latches, hv]
  cases p with
  | figures => exact fun i => by rw [hspot]
  | tally => exact fun i => by rw [hspot]
  | residency => exact fun i => by rw [hcomp]
  | records => exact fun i => by rw [hcomp]
  | latches => exact fun i => by rw [hl]; exact Kept.refl .latches s i
  | _ => cases hp

/-- A context change keeps these parts, if it keeps the spot's figures and tally where they matter. -/
theorem kept_moved_modSpot (s : State) (i : SpotId) (f : SpotContext → SpotContext) {p : Part} (hp : p.moved = true)
    (ha : p = .figures → (f (s.spot i)).acc = (s.spot i).acc)
    (ht : p = .tally → (f (s.spot i)).unassigned = (s.spot i).unassigned) : Kept p s (s.modSpot i f) := by
  cases p with
  | figures =>
    intro j
    rw [spot_modSpot]
    split
    · next e => rw [e]; exact ha rfl
    · rfl
  | tally =>
    intro j
    rw [spot_modSpot]
    split
    · next e => rw [e]; exact ht rfl
    · rfl
  | residency => exact fun _ => rfl
  | records => exact fun _ => rfl
  | latches => exact Kept.refl .latches s
  | _ => cases hp

theorem kept_moved_modComp (s : State) (k : CompId) (f : Compressor → Compressor) {p : Part} (hp : p.moved = true)
    (hr : p = .records → (f (s.comp k)).record = (s.comp k).record)
    (hd : p = .residency → (f (s.comp k)).residency = (s.comp k).residency) : Kept p s (s.modComp k f) := by
  cases p with
  | figures => exact fun _ => rfl
  | tally => exact fun _ => rfl
  | residency =>
    intro j
    rw [comp_modComp]
    split
    · next e => rw [e]; exact hd rfl
    · rfl
  | records =>
    intro j
    rw [comp_modComp]
    split
    · next e => rw [e]; exact hr rfl
    · rfl
  | latches => exact Kept.refl .latches s
  | _ => cases hp

theorem kept_storeConditions (s : State) (i : SpotId) (now : Conditions) {p : Part} (hp : p.moved = true) :
    Kept p s (s.storeConditions i now) := by
  cases p with
  | figures => exact fun j => by rw [spot_storeConditions]
  | tally => exact fun j => by rw [spot_storeConditions]
  | residency => exact fun j => by rw [comp_storeConditions]
  | records => exact fun j => by rw [comp_storeConditions]
  | latches =>
    intro j
    rw [latches_storeConditions]
    split
    · next e =>
      rw [e, zip_lost_iff]
      simp only [Conditions.zip, Bool.or_eq_true]
      exact ⟨.inl, .inl, .inl, .inl, .inl, .inl⟩
    · exact Kept.refl .latches s j
  | _ => cases hp

theorem OnlyMap.kept_moved {s t : State} (h : OnlyMap s t) {p : Part} (hp : p.moved = true) : Kept p s t :=
  kept_moved_of_parts h.spots h.comps h.conditions hp

/-- A move keeps these parts; crediting writes figures and tallies. -/
theorem Move.kept {o : Bool} {w : Prop} {s t : State} (h : Move ⟨o, c, w⟩ s t) {p : Part} (hp : p.moved = true)
    (hc : c = true → p.credited = false) : Kept p s t := by
  cases h with
  | notice b => exact kept_moved_of_parts (s := s) (t := s.notice b) rfl rfl rfl hp
  | conditions i now => exact kept_storeConditions s i now hp
  | context i f figures tally => exact kept_moved_modSpot s i f hp (fun _ => figures) (fun _ => tally)
  | credit i f allowed =>
    have hn := hc allowed
    exact kept_moved_modSpot s i f hp (fun e => by rw [e] at hn; cases hn) (fun e => by rw [e] at hn; cases hn)
  | opening i f allowed figures tally state =>
    have hw := onlyMap_writeLatch s .liqCmd (spotNumber i) .opened
    refine (hw.kept_moved hp).trans (kept_moved_modSpot _ i f hp (fun _ => ?_) (fun _ => ?_))
    · rw [hw.spot i]; exact figures
    · rw [hw.spot i]; exact tally
  | compressor k f record residency => exact kept_moved_modComp s k f hp (fun _ => record) (fun _ => residency)
  | lists l cars => exact kept_moved_of_parts (s := s) (t := { s with waitList := l, manifest := cars }) rfl rfl rfl hp
  | latch r owner cmd => exact (onlyMap_writeLatch s r owner cmd).kept_moved hp
  | monitor k => exact (onlyMap_changeOutput s k _).kept_moved hp
  | offer k e o cmd => exact (onlyMap_offerCommand s k cmd).kept_moved hp
  | sample k e d d' => exact (onlyMap_setBody s k _).kept_moved hp

theorem Does.kept_moved {o : Bool} {s t : State} (h : Does o c s t) {p : Part} (hp : p.moved = true)
    (hc : c = true → p.credited = false) : Kept p s t :=
  h.keeps (P := fun u => Kept p s u) (fun _ _ hk hu => hu.trans (hk.kept hp hc)) (Kept.refl p s)

theorem kept_addTripCause (s : State) (added : TripCauses) {p : Part} (hp : p.moved = true) :
    Kept p s (s.addTripCause added) := by
  unfold State.addTripCause
  split
  · rw [tripEntry_eq]
    have h1 : Kept p s (s.tripMark added) := kept_moved_of_parts (s := s) (t := s.tripMark added) rfl rfl rfl hp
    have h2 := does_tripHandOffs (c := false) (s.tripMark added) added
    have hdev : ((s.tripMark added).tripNotice added).tripSpots.tripComps.sdu.device = .tripped := by
      rw [((inner_tripNotice (s.tripMark added) added).trans ((inner_tripSpots _).trans (inner_tripComps _))).sdu]
      rfl
    exact h1.trans ((h2.trans (does_forceAllSafe _ hdev)).kept_moved hp (fun e => Bool.noConfusion e))
  · exact kept_moved_of_parts rfl rfl rfl hp

theorem Turning.kept_moved {s t : State} (h : Turning c s t) {p : Part} (hp : p.moved = true)
    (hc : c = true → p.credited = false) : Kept p s t :=
  h.keeps (P := fun u => Kept p s u) (fun _ _ hd hu => hu.trans (hd.kept_moved hp hc))
    (fun u added hu => hu.trans (kept_addTripCause u added hp)) (Kept.refl p s)

/-- Trip causes draw no free value. -/
theorem freeDraws_addTripCause (s : State) (added : TripCauses) : (s.addTripCause added).freeDraws = s.freeDraws := by
  unfold State.addTripCause
  split
  · rw [tripEntry_eq, (inner_tripHandOffs (s.tripMark added) added).freeDraws]
    rfl
  · rfl

theorem Move.freeDraws {m : Leave} {s t : State} (h : Move m s t) : t.freeDraws = s.freeDraws := by
  cases h with
  | conditions i now => exact (inner_storeConditions s i now).freeDraws
  | opening i f => exact (inner_writeValve s .liqCmd i .opened).freeDraws
  | latch r owner cmd => exact (inner_writeLatch s r owner cmd).freeDraws
  | monitor k => exact (inner_changeOutput s k (fun o => { o with direction := .monitor }) fun _ => rfl).freeDraws
  | offer k e o cmd => exact (inner_offerCommand s k cmd).freeDraws
  | sample k e d d' => rw [(onlyMap_setBody s k (.input d')).eq]
  | _ => rfl

theorem Turning.freeDraws {s t : State} (h : Turning c s t) : t.freeDraws = s.freeDraws :=
  h.keeps (P := fun u => u.freeDraws = s.freeDraws)
    (fun _ _ hd hu => hd.keeps (P := fun u => u.freeDraws = s.freeDraws) (fun _ _ hk hv => hk.freeDraws.trans hv) hu)
    (fun u added hu => (freeDraws_addTripCause u added).trans hu) rfl

/-- The list of cars keeps its places. -/
theorem kept_cars {s t : State} (hf : t.manifest.map CarRecord.fixed = s.manifest.map CarRecord.fixed)
    (hd : ∀ (k : Nat) (c : CarRecord), s.manifest[k]? = some c → c.status = .done → t.manifest[k]? = some c) :
    Kept .cars s t := by
  intro p r hr
  cases p with
  | zero => cases hr
  | succ k =>
    refine ⟨?_, hd k r hr⟩
    have hr' : s.manifest[k]? = some r := hr
    have h1 : (t.manifest.map CarRecord.fixed)[k]? = some r.fixed := by
      rw [hf, List.getElem?_map, hr']
      rfl
    rw [List.getElem?_map, Option.map_eq_some_iff] at h1
    obtain ⟨r', hr1, hr2⟩ := h1
    exact ⟨r', hr1, hr2⟩

/-- An event inside the part keeps every part, but figures and tallies where it credits. -/
theorem kept_turn {s t : State} (h : Turn s t) (k : Turning c s t) (p : Part) (hc : c = true → p.credited = false) :
    Kept p s t := by
  cases p with
  | queue => exact h.pending
  | address => exact h.port.address
  | straps =>
    have hl := congrArg Pins.straps h.straps
    exact hl
  | clock => exact ⟨h.uptime, k.freeDraws⟩
  | shape => exact h.shapes
  | standing => exact congrArg Mgu.standing h.mgu
  | tripped => exact h.tripped
  | table => exact h.table
  | groups => exact h.groups
  | positions =>
    have hl := congrArg List.length h.cars
    rw [List.length_map, List.length_map] at hl
    exact hl
  | cars => exact kept_cars h.cars h.done
  | figures => exact k.kept_moved rfl hc
  | tally => exact k.kept_moved rfl hc
  | residency => exact k.kept_moved rfl hc
  | records => exact k.kept_moved rfl hc
  | latches => exact k.kept_moved rfl hc

theorem kept_inside {s t : State} (h : Inside s t) (k : Does true c s t) (p : Part) (hc : c = true → p.credited = false) :
    Kept p s t := kept_turn h.turn k.turning p hc

end Sys2Proof.Machine
end

section
/-! The laws at reset, and a run in which the law of the demands is lost. -/

namespace Sys2Proof.Machine

/-- The state that a command leads to; every command leads to one. -/
def stateAfter (c : Instr) (s : State) : State :=
  match exec c s with
  | .next t => t
  | _ => s

theorem exec_stateAfter (c : Instr) (s : State) : exec c s = .next (stateAfter c s) := by
  obtain ⟨t, h, _⟩ := exec_falls c s
  rw [stateAfter, h]

/-! ## The reset state -/

theorem exec_powerOn_reset : exec (.powerOn 1) State.reset = .next State.reset :=
  congrArg Host.Outcome.next (show State.reset.powerOnState 1 = State.reset by decide +kernel)

theorem mapOk_nil : MapOk [] :=
  ⟨.nil, fun p hp => (by cases hp), .nil, .nil, fun p hp => (by cases hp)⟩

/-- Settles O60, law by law over the sixteen spots and four compressors at rest. -/
theorem lawsHoldAtReset : Obligations.LawsHoldAtReset := by
  refine ⟨exec_powerOn_reset, rfl, ?_, ?_, ?_, ?_, ?_, rfl, rfl, ?_, ?_, ?_, ?_, ?_, ?_, ?_⟩
  · exact fun _ i => by revert i; decide +kernel
  · exact fun i => by revert i; unfold Conserved; decide +kernel
  · exact fun i => by revert i; unfold BindOk; decide +kernel
  · exact List.Pairwise.nil
  · unfold PortOk; decide
  · exact mapOk_nil
  · exact ⟨List.nodup_nil, Nat.zero_le _, fun a ha => (by cases ha), fun _ => rfl⟩
  · intro k e o h; cases h
  · intro k e o h; cases h
  · constructor <;> decide +kernel
  · constructor <;> decide +kernel
  · refine ⟨fun i v h => ?_, fun i h => (by cases h)⟩
    have none_saved : ∀ j, savedOf (State.reset.spot j).state (State.reset.spot j).sub = none := by decide +kernel
    rw [none_saved i] at h
    cases h

/-! ## A return without a demand -/

/-- A suspended spot that saved RECOVERY SETTLE and demands HOLD, though no compressor is attached to it. -/
def holdingSettle : SpotContext :=
  { SpotContext.initial with state := .suspended, saved := some (.recovery .settle), demand := .hold }

/-- A part in RUN that carries out a RESUME for that spot. -/
def resuming : State :=
  { State.reset with
    pins := ⟨1, false, false, true⟩
    rpu := { Rpu.initial (some 1) with messages := [.reservation] }
    spots := (Vector.replicate 16 SpotContext.initial).set 0 holdingSettle
    sdu := ⟨.run, .empty, 0, false, false⟩
    mgu := { Mgu.initial with held := some ⟨2, 0, [0x32, 1]⟩ }
    pending := [.resume] }

theorem arbiterOk_resuming : ArbiterOk resuming := by
  constructor <;> decide +kernel

theorem demandsOk_resuming : DemandsOk resuming := by
  refine ⟨fun i v h => ?_, fun i h => (by cases h)⟩
  have none_saved : ∀ j, savedOf (resuming.spot j).state (resuming.spot j).sub = none := by decide +kernel
  rw [none_saved i] at h
  cases h

/-- The return to SETTLE hands no demand: it takes the spot's demand to be NONE already. -/
theorem spot_after_resuming :
    ((stateAfter .resume { resuming with pending := [] }).spot 0).state = .recovery ∧
    ((stateAfter .resume { resuming with pending := [] }).spot 0).sub = some .settle ∧
    ((stateAfter .resume { resuming with pending := [] }).spot 0).demand = .hold := by
  decide +kernel

/-- Refutes O58 at its second half. A suspended spot with RECOVERY SETTLE saved and demand HOLD but no place at a compressor satisfies
both laws; RESUME returns it to SETTLE with its demand unchanged. -/
theorem not_stepsKeepTheArbiter : ¬ Obligations.StepsKeepTheArbiter := by
  rintro ⟨_, h⟩
  have after := h resuming (stateAfter .resume { resuming with pending := [] })
    (exec_stateAfter .resume { resuming with pending := [] }) ⟨arbiterOk_resuming, demandsOk_resuming⟩
  obtain ⟨state, sub, demand⟩ := spot_after_resuming
  have runs := after.runs 0 (.recovery .settle) (by rw [state, sub]; rfl)
  rw [demand] at runs
  exact absurd runs (by decide)

end Sys2Proof.Machine
end

section
/-! Which command writes which part (R1, R35, R38 to R54, R107, R153, R170, R186): every command but the few named for a part keeps it. -/

namespace Sys2Proof.Machine

/-- The commands that may write a part. -/
def writes : Instr → Part → Bool
  | .readSpot, .standing => true
  | .readCompressor, .residency => true
  | .residencyTick, .residency => true
  | .residencyTick, .clock => true
  | .frameArrival _, .figures => true
  | .frameArrival _, .tally => true
  | .loadMapEntry, .shape => true
  | .loadSpot, .table => true
  | .loadMeterCurve, .table => true
  | .loadProductSegment, .groups => true
  | .loadCompressor, .records => true
  | .addCar, .positions => true
  | .removeCar, .positions => true
  | .removeCar, .cars => true
  | .start, .figures => true
  | .release, .tally => true
  | .release, .standing => true
  | .clear, .tally => true
  | .clear, .standing => true
  | .resetPart, .standing => true
  | .ackChanges, .latches => true
  | .tripReset, .tripped => true
  | _, _ => false

/-! ## What writes one group of parts only -/

variable {p : Part}

theorem kept_still {s t : State} (h : Inside s t) (k : Does true false s t) : Kept p s t :=
  kept_inside h k p (fun e => Bool.noConfusion e)

theorem kept_of_turning {s t : State} (h : Turn s t) (k : Turning false s t) : Kept p s t :=
  kept_turn h k p (fun e => Bool.noConfusion e)

theorem Kept.foldl {α : Type} (f : State → α → State) (h : ∀ s a, Kept p s (f s a)) (l : List α) (s : State) :
    Kept p s (l.foldl f s) := by
  induction l generalizing s with
  | nil => exact .refl p s
  | cons a l ih => exact (h s a).trans (ih _)

/-- An inside event that writes neither spots nor compressors nor conditions. -/
theorem OnlyMap.kept {s t : State} (h : OnlyMap s t) (k : Inside s t) : Kept p s t := by
  cases hp : p.moved with
  | true => exact h.kept_moved hp
  | false =>
    cases p with
    | queue => exact k.pending
    | address => exact k.port.address
    | straps => exact congrArg Pins.straps k.pins
    | clock => exact ⟨k.uptime, k.freeDraws⟩
    | shape => exact k.shapes
    | standing => exact congrArg Mgu.standing k.mgu
    | tripped => exact k.turn.tripped
    | table => exact k.table
    | groups => exact k.groups
    | positions => exact congrArg List.length h.manifest
    | cars => exact kept_cars k.cars k.done
    | _ => cases hp

/-- Lines, supply, port, Shutdown Unit and Management Unit hold the address, the straps, the device and the marks alone of the parts. -/
theorem kept_shell (s : State) (pins : Pins) (powered : Bool) (rpu : Rpu) (sdu : Sdu) (mgu : Mgu)
    (straps : pins.straps = s.pins.straps) (address : rpu.address = s.rpu.address)
    (device : p = .tripped → s.sdu.device = .tripped → sdu.device = .tripped)
    (standing : p = .standing → mgu.standing = s.mgu.standing) :
    Kept p s { s with pins := pins, powered := powered, rpu := rpu, sdu := sdu, mgu := mgu } := by
  have same := Kept.refl p s
  cases p with
  | straps => exact straps
  | address => exact address
  | tripped => exact device rfl
  | standing => exact standing rfl
  | _ => exact same

theorem kept_modRpu (s : State) (f : Rpu → Rpu) (h : (f s.rpu).address = s.rpu.address) : Kept p s (s.modRpu f) :=
  kept_shell s s.pins s.powered (f s.rpu) s.sdu s.mgu rfl h (fun _ => id) (fun _ => rfl)

/-- A context change writes figures and tally alone of the parts. -/
theorem kept_modSpot (s : State) (i : SpotId) (f : SpotContext → SpotContext)
    (ha : p = .figures → (f (s.spot i)).acc = (s.spot i).acc)
    (ht : p = .tally → (f (s.spot i)).unassigned = (s.spot i).unassigned) : Kept p s (s.modSpot i f) := by
  have same := Kept.refl p s
  cases p with
  | figures => exact kept_moved_modSpot s i f rfl ha ht
  | tally => exact kept_moved_modSpot s i f rfl ha ht
  | _ => exact same

/-- A compressor change writes records and residency counts alone of the parts. -/
theorem kept_modComp (s : State) (k : CompId) (f : Compressor → Compressor)
    (hr : p = .records → (f (s.comp k)).record = (s.comp k).record)
    (hd : p = .residency → (f (s.comp k)).residency = (s.comp k).residency) : Kept p s (s.modComp k f) := by
  have same := Kept.refl p s
  cases p with
  | records => exact kept_moved_modComp s k f rfl hr hd
  | residency => exact kept_moved_modComp s k f rfl hr hd
  | _ => exact same

/-- The map holds its shape alone of the parts. -/
theorem kept_imap (s : State) (m : List (Nat × MapEntry)) (h : p ≠ .shape) : Kept p s { s with imap := m } := by
  have same := Kept.refl p s
  cases p with
  | shape => exact absurd rfl h
  | _ => exact same

/-- The tables hold the spot records and the product groups alone of the parts. -/
theorem kept_tables (s : State) (table : Vector (Option SpotRecord) 16) (groups : Vector Group 4)
    (ht : p = .table → table = s.table) (hg : p = .groups → groups = s.groups) :
    Kept p s { s with table := table, groups := groups } := by
  have same := Kept.refl p s
  cases p with
  | table => exact ht rfl
  | groups => exact hg rfl
  | _ => exact same

/-- The manifest holds places and records alone of the parts. -/
theorem kept_manifest (s : State) (m : List CarRecord) (hl : p = .positions → m.length = s.manifest.length)
    (hc : p = .cars → Kept .cars s { s with manifest := m }) : Kept p s { s with manifest := m } := by
  have same := Kept.refl p s
  cases p with
  | positions => exact hl rfl
  | cars => exact hc rfl
  | _ => exact same

/-- The conditions hold the latches alone of the parts. -/
theorem kept_conditions (s : State) (v : Vector SpotConditions 16) (h : p ≠ .latches) :
    Kept p s { s with conditions := v } := by
  have same := Kept.refl p s
  cases p with
  | latches => exact absurd rfl h
  | _ => exact same

/-- The clock holds uptime and draws. -/
theorem kept_clock (s : State) (u n : Nat) (h : p ≠ .clock) : Kept p s { s with uptime := u, freeDraws := n } := by
  have same := Kept.refl p s
  cases p with
  | clock => exact absurd rfl h
  | _ => exact same

/-! ## The operations of the commands -/

theorem kept_setState (s : State) (i : SpotId) (st : SpotState) : Kept p s (s.setState i st) :=
  kept_modSpot s i (fun x => { x with state := st }) (fun _ => rfl) (fun _ => rfl)

theorem kept_startTravel (s : State) (i : SpotId) (r : Role) (q : Position) : Kept p s (s.startTravel i r q) :=
  kept_modSpot s i _ (fun _ => rfl) (fun _ => rfl)

theorem kept_changeState (s : State) (i : SpotId) (st : SpotState) : Kept p s (s.changeState i st) :=
  (kept_setState s i st).trans (kept_still (inner_announce _ _) (does_announce _ _))

theorem kept_reevaluateAll (s : State) (l : List SpotId) : Kept p s (s.reevaluateAll l) :=
  kept_still (inner_reevaluateAll _ _) (does_reevaluateAll _ _)

theorem kept_endScan (s : State) : Kept p s s.endScan := kept_still (inner_endScan _) (does_endScan _)

theorem kept_checkUsable (s : State) (k : CompId) : Kept p s (s.checkUsable k) :=
  kept_still (inner_checkUsable _ _) (does_checkUsable _ _)

theorem kept_checkOwner (s : State) (r : Role) (o : Nat) : Kept p s (s.checkOwner r o) := by
  unfold State.checkOwner
  split
  · split
    · exact kept_checkUsable _ _
    · exact .refl p s
  · exact .refl p s

theorem kept_clearIndex (s : State) (k : Nat) : Kept p s (s.clearIndex k) :=
  kept_modRpu s _ (setSequence_step _ _ _).address

theorem kept_withdraw (s : State) (k : Nat) (e : MapEntry) (h : p ≠ .shape) : Kept p s (s.withdraw k e) :=
  (kept_imap s _ h).trans (kept_checkOwner _ _ _)

theorem kept_withdrawOld (s : State) (k : Nat) (w : MapWrite) (old : Option MapEntry) (h : p ≠ .shape) :
    Kept p s (s.withdrawOld k w old) := by
  unfold State.withdrawOld
  split
  · split
    · exact .refl p s
    · exact kept_withdraw _ _ _ h
  · exact .refl p s

theorem kept_takeEntry (s : State) (k : Nat) (w : MapWrite) : Kept p s (s.takeEntry k w) := by
  unfold State.takeEntry
  split
  · refine ((onlyMap_settleOutput s k none).kept (inner_settleOutput s k none)).trans ?_
    refine Kept.trans ?_ (kept_checkOwner _ _ _)
    split
    · exact (onlyMap_writeLatch _ _ _ _).kept (inner_writeLatch _ _ _ _)
    · exact .refl p _
  · split
    · exact kept_of_turning (turn_tellStale _ _ _ _) (turning_tellStale _ _ _ _)
    · exact .refl p s

theorem kept_writeEntry (s : State) (k : Nat) (w : MapWrite) (h : p ≠ .shape) : Kept p s (s.writeEntry k w) := by
  unfold State.writeEntry
  have stored : Kept p s ((s.clearIndex k).withdrawOld k w (entryAt s.imap k)) :=
    (kept_clearIndex s k).trans (kept_withdrawOld _ _ _ _ h)
  exact ((stored.trans (kept_imap _ _ h)).trans (kept_takeEntry _ _ _)).trans
    ((kept_reevaluateAll _ _).trans (kept_endScan _))

theorem kept_removeEntry (s : State) (k : Nat) (e : MapEntry) (h : p ≠ .shape) : Kept p s (s.removeEntry k e) :=
  ((kept_clearIndex s k).trans (kept_withdraw _ _ _ h)).trans ((kept_reevaluateAll _ _).trans (kept_endScan _))

theorem kept_setRecord (s : State) (i : SpotId) (r : SpotRecord) (h : p ≠ .table) : Kept p s (s.setRecord i r) :=
  kept_tables s _ s.groups (fun e => absurd e h) (fun _ => rfl)

theorem kept_storeRecord (s : State) (i : SpotId) (r : SpotRecord) (h : p ≠ .table) : Kept p s (s.storeRecord i r) := by
  unfold State.storeRecord
  refine (kept_setRecord s i r h).trans ?_
  simp only
  generalize conditionSet (s.setRecord i r) i _ = now
  refine (kept_still (inner_storeConditions (s.setRecord i r) i now) (does_storeConditions _ _ _)).trans ?_
  split
  · exact .refl p _
  · exact kept_changeState _ _ _

theorem recordAt_append {m : List CarRecord} {q : Nat} {r : CarRecord} (l : List CarRecord)
    (h : recordAt m q = some r) : recordAt (m ++ l) q = some r := by
  cases q with
  | zero => cases h
  | succ k =>
    have hm : m[k]? = some r := h
    exact (List.getElem?_append_left (List.getElem?_eq_some_iff.mp hm).1).trans hm

theorem kept_addCar (s : State) (r : CarRecord) (h : p ≠ .positions) :
    Kept p s { s with manifest := s.manifest ++ [r] } :=
  kept_manifest s _ (fun e => absurd e h) fun _ _ _ hr =>
    ⟨⟨_, recordAt_append [r] hr, rfl⟩, fun _ => recordAt_append [r] hr⟩

theorem kept_removeRecord (s : State) (q : Nat) (h : p ≠ .positions) (hc : p ≠ .cars) : Kept p s (s.removeRecord q) := by
  have hspot : ∀ i, (s.removeRecord q).spot i = { s.spot i with lastHeld := shiftLink q (s.spot i).lastHeld } :=
    fun i => by simp [State.removeRecord, State.spot, Vector.get_eq_getElem]
  have same := Kept.refl p s
  cases p with
  | positions => exact absurd rfl h
  | cars => exact absurd rfl hc
  | figures => exact fun i => by rw [hspot]
  | tally => exact fun i => by rw [hspot]
  | _ => exact same

theorem kept_dropTally (s : State) (i : SpotId) (ht : p ≠ .tally) (hs : p ≠ .standing) : Kept p s (s.dropTally i) :=
  (kept_modSpot s i (fun x => { x with unassigned := 0 }) (fun _ => rfl) (fun e => absurd e ht)).trans
    (kept_shell _ _ _ _ _ _ rfl rfl (fun _ => id) (fun e => absurd e hs))

theorem kept_reportUnknownTag (s : State) (i : SpotId) (b : Bool) : Kept p s (s.reportUnknownTag i b) :=
  kept_still (inner_reportUnknownTag _ _ _) (does_reportUnknownTag _ _ _)

theorem kept_clearVacant (s : State) (i : SpotId) (state : (s.spot i).state = .vacant) (ht : p ≠ .tally)
    (hs : p ≠ .standing) : Kept p s (s.clearVacant i) := by
  have vacant : ((s.dropTally i).spot i).state = .vacant := by rw [state_dropTally, state]
  unfold State.clearVacant
  refine (kept_dropTally s i ht hs).trans ?_
  simp only
  split
  · exact kept_still (inner_matchTag _ _ _ (by rw [vacant]; rfl)) (does_matchTag _ _ _ (by rw [vacant]; decide))
  · exact kept_reportUnknownTag _ _ _

theorem kept_writeValve (s : State) (r : Role) (i : SpotId) (cmd : Command) : Kept p s (s.writeValve r i cmd) :=
  (onlyMap_writeLatch _ _ _ _).kept (inner_writeValve _ _ _ _)

theorem kept_startTransfer (s : State) (i : SpotId) (h : p ≠ .figures) : Kept p s (s.startTransfer i) := by
  unfold State.startTransfer
  simp only
  refine Kept.trans ?_ (kept_still (inner_announce _ _) (does_announce _ _))
  refine Kept.trans ?_ (kept_startTravel _ _ _ _)
  refine Kept.trans ?_ (kept_setState _ _ _)
  refine Kept.trans (Kept.trans ?_ (kept_writeValve _ _ _ _)) (kept_writeValve _ _ _ _)
  exact kept_modSpot s i (startContext (liveCauses s i)) (fun e => absurd e h) (fun _ => rfl)

theorem kept_stopTransfer (s : State) (i : SpotId) (h : s.isActive i = true) : Kept p s (s.stopTransfer i) := by
  unfold State.stopTransfer
  simp only
  rw [modSpot_modSpot]
  have active : (s.modSpot i (fun x => (fun y => { y with
      pressurise := none, suspendTimer := none, travel := none, stopMark := true }) (emptyCauses (liveCauses s i) x))).isActive i
      = true := (isActive_modSpot _ _ _ rfl).trans h
  refine (kept_modSpot s i (fun x => (fun y => { y with
      pressurise := none, suspendTimer := none, travel := none, stopMark := true }) (emptyCauses (liveCauses s i) x))
    (fun _ => rfl) (fun _ => rfl)).trans ?_
  exact (kept_still (inner_enterLiquidClosing _ _ active) (does_enterLiquidClosing _ _)).trans (kept_endScan _)

theorem kept_addCause (s : State) (added : TripCauses) : Kept p s (s.addTripCause added) :=
  kept_of_turning (turn_addTripCause _ _) (turning_addTripCause _ _)

theorem kept_changeOutput (s : State) (k : Nat) (f : Output → Output) (h : ∀ o, (f o).safe = o.safe) :
    Kept p s (s.changeOutput k f) := (onlyMap_changeOutput s k f).kept (inner_changeOutput s k f h)

theorem kept_enterRun (s : State) (h : p ≠ .tripped) : Kept p s s.enterRun := by
  unfold State.enterRun State.returnAllOutputs
  refine Kept.trans ?_ (Kept.foldl _ (fun t k => (onlyMap_returnOutput t k).kept (inner_returnOutput t k)) _ _)
  exact kept_shell s { s.pins with tripEnergised := true } s.powered s.rpu
    { s.sdu with causes := .empty, device := .run } s.mgu rfl rfl (fun e => absurd e h) (fun _ => rfl)

theorem kept_tickUptime (s : State) (h : p ≠ .clock) : Kept p s s.tickUptime := by
  unfold State.tickUptime
  split
  · exact kept_clock s (s.uptime + 1) s.freeDraws h
  · exact kept_clock s _ _ h

theorem kept_takeRequest (s : State) : Kept p s s.takeRequest := by
  obtain ⟨m, l, q, e⟩ := takeRequest_eq s
  rw [e]
  exact kept_shell s _ _ _ s.sdu _ rfl rfl (fun _ => id) (fun _ => rfl)

theorem kept_answer (s : State) (q : Request) (r : Reply) : Kept p s (s.answer q r) :=
  (kept_shell s s.pins s.powered
    (kick { s.rpu with messages := fillReservation (replyMessage q r) s.rpu.messages }) s.sdu { s.mgu with held := none }
    rfl (kick_step _).address (fun _ => id) (fun _ => rfl)).trans (kept_takeRequest _)

theorem address_forwardFrame (f : Frame) (r : Rpu) : (forwardFrame f r).address = r.address := by
  unfold forwardFrame
  split
  · exact (kick_step _).address
  · rfl

theorem kept_forward (s : State) (f : Frame) : Kept p s (s.forward f) := kept_modRpu s _ (address_forwardFrame f _)

theorem kept_noteValidFrame (s : State) : Kept p s s.noteValidFrame :=
  kept_shell s s.pins s.powered { s.rpu with lastValid := s.uptime, silence := .live } _ s.mgu rfl rfl (fun _ => id)
    (fun _ => rfl)

theorem kept_takeManage (s : State) (f : Frame) : Kept p s (s.takeManage f) := by
  unfold State.takeManage
  split
  · exact (kept_modRpu s _ rfl).trans (kept_takeRequest _)
  · exact kept_forward _ _

theorem kept_frameArrival (s : State) (f : Frame) (h : p.credited = false) : Kept p s (s.frameArrival f) := by
  unfold State.frameArrival
  split
  · refine (kept_noteValidFrame s).trans ?_
    generalize s.noteValidFrame = t
    simp only
    split
    · split
      · exact .refl p t
      · exact kept_forward _ _
    · split
      · exact .refl p t
      · split
        · exact .refl p t
        · unfold State.disposeFrame
          split
          · exact (kept_turn (turn_offerSample_any t f) (turning_offerSample t f) p fun _ => h).trans (kept_forward _ _)
          · split
            · exact kept_takeManage _ _
            · exact kept_forward _ _
  · exact .refl p s

theorem kept_transmitComplete (s : State) : Kept p s s.transmitComplete := by
  unfold State.transmitComplete
  split
  · exact .refl p s
  · refine Kept.trans ?_ (kept_takeRequest _)
    exact kept_modRpu s (fun r => boundary { r with sending := none })
      (boundary_step { s.rpu with sending := none } rfl).address

theorem kept_silenceExpired (s : State) : Kept p s s.silenceExpired := by
  unfold State.silenceExpired
  split
  · exact .refl p s
  · split
    · refine Kept.trans ?_ (kept_addCause _ _)
      exact kept_shell s s.pins s.powered { s.rpu with silence := .silent } { s.sdu with ringSilent := true } s.mgu
        rfl rfl (fun _ => id) (fun _ => rfl)
    · exact .refl p s

theorem kept_monitorAll (s : State) : Kept p s s.monitorAll :=
  (Kept.foldl State.monitorOutput (fun t k => kept_changeOutput t k _ fun _ => rfl) (outputIndexes s.imap) s).trans
    (Kept.foldl State.monitorComp (fun t k => kept_still (inner_monitorComp t k) (does_monitorComp t k)) allComps _)

theorem kept_addReset (s : State) : Kept p s s.addReset := by
  unfold State.addReset
  split
  · exact kept_addCause _ _
  · exact (kept_addCause _ _).trans
      (Kept.foldl _ (fun t k => (onlyMap_forceSafe t k).kept (inner_forceSafe t k)) _ _)

theorem kept_resetPort (s : State) (m : Message) : Kept p s (s.resetPort m) := kept_modRpu s _ (kick_step _).address

theorem kept_resetEffect (s : State) (m : Message) (h : p ≠ .standing) : Kept p s (s.resetEffect m) := by
  have spots : Kept p s (s.resetPort m).resetSpots :=
    (kept_resetPort s m).trans (kept_still (inner_resetSpots _) (does_resetSpots _))
  have marks : Kept p s (s.resetPort m).resetSpots.clearStanding :=
    spots.trans (kept_shell _ _ _ _ _ _ rfl rfl (fun _ => id) (fun e => absurd e h))
  have comps := marks.trans (kept_still (inner_tripComps _) (does_tripComps _))
  exact ((comps.trans (kept_monitorAll _)).trans (kept_addReset _)).trans (kept_endScan _)

theorem kept_letGo (s : State) : Kept p s { s with mgu := { s.mgu with held := none } } :=
  kept_shell s s.pins s.powered s.rpu s.sdu _ rfl rfl (fun _ => id) (fun _ => rfl)

/-! ## Every command -/

/-- A part is not the one a command writes. -/
theorem ne_of_writes {c : Instr} {p q : Part} (h : writes c p = false) (w : writes c q = true) : p ≠ q := fun e => by
  rw [e, w] at h
  cases h

theorem kept_carries {c : Instr} {s t : State} (h : Carries s c t) (hw : writes c p = false) : Kept p s t := by
  cases h with
  | readSpot i b => exact kept_shell s _ _ _ _ _ rfl rfl (fun _ => id) (fun e => absurd e (ne_of_writes hw rfl))
  | readCompressor c => exact kept_modComp s c _ (fun _ => rfl) (fun e => absurd e (ne_of_writes hw rfl))
  | writeEntry k w => exact kept_writeEntry s k w (ne_of_writes hw rfl)
  | removeEntry k e => exact kept_removeEntry s k e (ne_of_writes hw rfl)
  | storeRecord i r free => exact kept_storeRecord s i r (ne_of_writes hw rfl)
  | storeCurve i r points record free => exact kept_setRecord s i _ (ne_of_writes hw rfl)
  | storeGroup g v => exact kept_tables s s.table _ (fun _ => rfl) (fun e => absurd e (ne_of_writes hw rfl))
  | storeComp c r => exact kept_modComp s c _ (fun e => absurd e (ne_of_writes hw rfl)) (fun _ => rfl)
  | removeComp c =>
    exact ((kept_modComp s c _ (fun e => absurd e (ne_of_writes hw rfl)) (fun _ => rfl)).trans (kept_checkUsable _ _)).trans
      (kept_endScan _)
  | addCar r waiting => exact kept_addCar s r (ne_of_writes hw rfl)
  | removeCar q r record free => exact kept_removeRecord s q (ne_of_writes hw rfl) (ne_of_writes hw rfl)
  | start i run ready => exact kept_startTransfer s i (ne_of_writes hw rfl)
  | suspend i => exact (kept_still (inner_changeCauses s i _) (does_changeCauses _ _ _)).trans (kept_endScan _)
  | resume i => exact kept_still (inner_resumeTransfer s i) (does_resumeTransfer s i)
  | stop i run state => exact kept_stopTransfer s i (active_of_stoppable state)
  | abort i run active => exact kept_still (inner_abortTransfer s i active) (does_abortTransfer s i)
  | abortIdle i run state =>
    exact kept_still (inner_endTransfer s i _ _ _ (by rcases state with e | e <;> rw [e] <;> rfl) rfl)
      (does_endTransfer _ _ _ _ _)
  | release i state =>
    exact (kept_dropTally s i (ne_of_writes hw rfl) (ne_of_writes hw rfl)).trans (kept_changeState _ _ _)
  | clearFaulted i state =>
    exact ((kept_dropTally s i (ne_of_writes hw rfl) (ne_of_writes hw rfl)).trans (kept_reportUnknownTag _ _ _)).trans
      (kept_changeState _ _ _)
  | clearVacant i state => exact kept_clearVacant s i state (ne_of_writes hw rfl) (ne_of_writes hw rfl)
  | drive k e o b cmd => exact kept_changeOutput s k (fun o => { o with latch := cmd, direction := .drive }) fun _ => rfl
  | monitor k e o =>
    exact ((kept_changeOutput s k (fun o => { o with direction := .monitor }) fun _ => rfl).trans
      (kept_checkOwner _ _ _)).trans (kept_endScan _)
  | ackChanges i named => exact kept_conditions s _ (ne_of_writes hw rfl)
  | trip => exact kept_addCause _ _
  | tripReset => exact kept_enterRun s (ne_of_writes hw rfl)

theorem credited_of_writes {f : Frame} (h : writes (.frameArrival f) p = false) : p.credited = false := by
  cases p with
  | figures => cases h
  | tally => cases h
  | _ => rfl

theorem kept_acts {c : Instr} {s t : State} (h : Acts s c t) (hw : writes c p = false) : Kept p s t := by
  cases h with
  | esdAsserted =>
    refine Kept.trans ?_ (kept_addCause _ _)
    exact kept_shell s { s.pins with esdAsserted := true } s.powered s.rpu { s.sdu with esdAsserted := true } s.mgu rfl rfl
      (fun _ => id) (fun _ => rfl)
  | esdReleased =>
    exact kept_shell s { s.pins with esdAsserted := false } s.powered s.rpu { s.sdu with esdAsserted := false } s.mgu rfl rfl
      (fun _ => id) (fun _ => rfl)
  | frame f => exact kept_frameArrival s f (credited_of_writes hw)
  | transmit => exact kept_transmitComplete s
  | silence => exact kept_silenceExpired s
  | staleness k => exact kept_of_turning (turn_stalenessExpiry s k) (turning_stalenessExpiry s k)
  | travel n i => exact kept_still (inner_travelExpired s i) (does_travelExpired s i)
  | pressurise n i => exact kept_still (inner_pressuriseExpired s i) (does_pressuriseExpired s i)
  | suspend n i => exact kept_still (inner_suspendExpired s i) (does_suspendExpired s i)
  | pass n i => exact kept_still (inner_passExpired s i) (does_passExpired s i)
  | settle n i => exact kept_still (inner_settleExpired s i) (does_settleExpired s i)
  | confirmation n c => exact kept_still (inner_confirmationExpired s c) (does_confirmationExpired s c)
  | popdown n c => exact kept_still (inner_popdownDue s c) (does_popdownDue s c)
  | history n c => exact kept_still (inner_startAged s c) (does_startAged s c)
  | refresh k => exact kept_still (inner_refreshExpired s k) (does_refreshExpired s k)
  | tick =>
    exact (Kept.foldl _ (fun t k => kept_modComp t k addSecond (fun _ => rfl)
      (fun e => absurd e (ne_of_writes hw rfl))) _ _).trans (kept_tickUptime _ (ne_of_writes hw rfl))
  | answered _ q r => exact kept_answer s q r
  | carried _ u q r _ effect => exact (kept_carries effect hw).trans (kept_answer _ _ _)
  | resetPart q =>
    exact ((kept_resetEffect s (replyMessage q ⟨.done, []⟩) (ne_of_writes hw rfl)).trans (kept_letGo _)).trans
      (kept_takeRequest _)

/-- A command keeps every part but those it is named for; power-on and the reset input keep the queue alone. -/
theorem kept_falls {c : Instr} {s t : State} (h : Falls s c t) (plain : startsAnew c = false) (hw : writes c p = false) :
    Kept p s t := by
  cases h with
  | idle => exact .refl p s
  | powerOn b => cases plain
  | resetInput b => cases plain
  | resetLine b => cases plain
  | resetRelease => exact kept_shell s _ s.powered s.rpu s.sdu s.mgu rfl rfl (fun _ => id) (fun _ => rfl)
  | loss => exact kept_shell s _ false _ s.sdu s.mgu rfl rfl (fun _ => id) (fun _ => rfl)
  | esdLevel c b line => exact kept_shell s _ s.powered s.rpu s.sdu s.mgu rfl rfl (fun _ => id) (fun _ => rfl)
  | acts c t on effect => exact kept_acts effect hw

theorem pending_powerOn (s : State) (b : Byte) : (s.powerOnState b).pending = s.pending := by
  rw [powerOnState_eq]
  rfl

/-- No command writes the queue. -/
theorem pending_falls {c : Instr} {s t : State} (h : Falls s c t) : t.pending = s.pending := by
  cases h with
  | idle => rfl
  | powerOn b => exact pending_powerOn s b
  | resetInput b => exact pending_powerOn _ b
  | resetLine b => rfl
  | resetRelease => rfl
  | loss => rfl
  | esdLevel c b line => rfl
  | acts c t on effect =>
    have free : writes c .queue = false := by cases c <;> rfl
    exact kept_acts effect free

/-- Settles O51: what a command does not write it keeps. -/
theorem tablesAndManifestKeepTheirRecords : Obligations.TablesAndManifestKeepTheirRecords := by
  intro c s t h plain
  have kept : ∀ p, writes c p = false → Kept p s t := fun p => kept_falls (falls_of_exec h) plain
  refine ⟨fun _ _ => kept .table ?_, fun _ => kept .groups ?_, fun _ => kept .records ?_,
    fun _ _ => kept .positions ?_, fun _ => kept .cars ?_⟩
  all_goals cases c <;> trivial

/-- Settles O52: the same law at the other parts; the queue is no command's. -/
theorem partsChangeByTheirCommandsAlone : Obligations.PartsChangeByTheirCommandsAlone := by
  intro c s t h
  refine ⟨pending_falls (falls_of_exec h), fun plain => ?_⟩
  have kept : ∀ p, writes c p = false → Kept p s t := fun p => kept_falls (falls_of_exec h) plain
  refine ⟨kept .address ?_, kept .straps ?_, fun _ => kept .clock ?_, fun _ => kept .shape ?_,
    fun arrival _ => kept .figures ?_, fun arrival _ _ => kept .tally ?_, fun _ _ => kept .residency ?_,
    fun _ _ _ _ => kept .standing ?_, fun _ => kept .latches ?_, fun _ => kept .tripped ?_⟩
  case refine_5 =>
    cases c with
    | frameArrival f => exact absurd rfl (arrival f)
    | _ => trivial
  case refine_6 =>
    cases c with
    | frameArrival f => exact absurd rfl (arrival f)
    | _ => trivial
  all_goals cases c <;> trivial

end Sys2Proof.Machine
end

section
/-! What a move does to the map and the ring port together (R8, R10, R160, R161), and the laws of the port beside `PortStep`: the run
count stays in its range, and behind a frame being sent the forward buffer stands still (R7, R11). -/

namespace Sys2Proof.Machine

/-! ## The ring port -/

/-- What an offer or a removal can do to the ring port, beside `PortStep`. -/
structure PortCalm (r r' : Rpu) : Prop extends PortStep r r' where
  runs    : r.runCount ≤ Config.forwardRunLimit → r'.runCount ≤ Config.forwardRunLimit
  waiting : ∀ f, r.sending = some f → r'.forward = r.forward

theorem PortCalm.refl (r : Rpu) : PortCalm r r := ⟨.refl r, id, fun _ _ => rfl⟩

theorem PortCalm.trans {a b c : Rpu} (h : PortCalm a b) (k : PortCalm b c) : PortCalm a c :=
  ⟨h.toPortStep.trans k.toPortStep, k.runs ∘ h.runs, fun f x => (k.waiting f (h.sending f x)).trans (h.waiting f x)⟩

theorem runCount_sendOwn (r : Rpu) (h : r.runCount ≤ Config.forwardRunLimit) :
    (sendOwn r).runCount ≤ Config.forwardRunLimit := by
  unfold sendOwn
  split
  · exact h
  · split
    · exact Nat.zero_le _
    · split
      · exact Nat.zero_le _
      · exact Nat.zero_le _
      · exact h
      · exact h

theorem runCount_boundary (r : Rpu) (h : r.runCount ≤ Config.forwardRunLimit) :
    (boundary r).runCount ≤ Config.forwardRunLimit := by
  unfold boundary
  split
  · split
    · split
      · next hr => exact hr
      · exact runCount_sendOwn r h
    · exact Nat.zero_le _
  · exact runCount_sendOwn r h

theorem kick_of_sending {r : Rpu} {f : Frame} (h : r.sending = some f) : kick r = r := by
  unfold kick
  rw [h]

theorem kick_calm (r : Rpu) : PortCalm r (kick r) := by
  refine ⟨kick_step r, fun h => ?_, fun f hf => by rw [kick_of_sending hf]⟩
  unfold kick
  split
  · exact h
  · exact runCount_boundary r h

theorem offerActuate_calm (a : Actuate) (r : Rpu) : PortCalm r (offerActuate a r) := by
  refine ⟨offerActuate_step a r, fun h => ?_, fun f hf => ?_⟩
  · unfold offerActuate
    split
    · exact h
    · exact (kick_calm { r with actuates := queueActuate a r.actuates }).runs h
  · unfold offerActuate
    split
    · rfl
    · exact (kick_calm { r with actuates := queueActuate a r.actuates }).waiting f hf

theorem offerNotice_calm (b : List Byte) (r : Rpu) : PortCalm r (offerNotice b r) := by
  refine ⟨offerNotice_step b r, fun h => ?_, fun f hf => ?_⟩
  · unfold offerNotice
    simp only
    split
    · exact h
    · split
      · exact (kick_calm _).runs h
      · exact h
  · unfold offerNotice
    simp only
    split
    · rfl
    · split
      · exact (kick_calm _).waiting f hf
      · rfl

theorem dropActuate_calm (k : Nat) (r : Rpu) : PortCalm r (dropActuate k r) := ⟨dropActuate_step k r, id, fun _ _ => rfl⟩

theorem setSequence_calm (r : Rpu) (k : Nat) (b : Byte) : PortCalm r (r.setSequence k b) := by
  refine ⟨setSequence_step r k b, fun h => ?_, fun f _ => ?_⟩
  · unfold Rpu.setSequence
    split <;> exact h
  · unfold Rpu.setSequence
    split <;> rfl

theorem portAfter_calm (k : Nat) (e : MapEntry) (before now : Option Command) (r : Rpu) :
    PortCalm r (portAfter k e before now r) := by
  unfold portAfter
  split
  · exact .refl r
  · split
    · exact offerActuate_calm _ _
    · exact dropActuate_calm _ _

/-! ## What a move touches -/

/-- What a move does to the map and the ring port. -/
inductive Touch (s t : State) : Prop
  | still (map : t.imap = s.imap) (port : t.rpu = s.rpu)
  | notice (b : List Byte) (map : t.imap = s.imap) (port : t.rpu = offerNotice b s.rpu)
  | input (k : Nat) (e : MapEntry) (d d' : Dynamic) (entry : Rising s.imap → entryAt s.imap k = some e)
      (input : e.body = .input d) (map : t.imap = (s.setBody k (.input d')).imap) (port : t.rpu = s.rpu)
  | image (k : Nat) (e : MapEntry) (o o' : Output) (image : Images s k e o) (safe : o'.safe = o.safe)
      (timer : o'.refresh = refreshAfter s.uptime (outgoing s.sdu.device o) (outgoing s.sdu.device o') o.refresh)
      (entry : entryAt t.imap k = some (e.withImage o')) (others : ∀ m, m ≠ k → entryAt t.imap m = entryAt s.imap m)
      (port : t.rpu = portAfter k e (outgoing s.sdu.device o) (outgoing s.sdu.device o') s.rpu)
  | offer (k : Nat) (e : MapEntry) (o : Output) (cmd : Command) (image : Images s k e o)
      (now : outgoing s.sdu.device o = some cmd)
      (entry : entryAt t.imap k = some (e.withImage { o with refresh := some (s.uptime + 2) }))
      (others : ∀ m, m ≠ k → entryAt t.imap m = entryAt s.imap m)
      (port : t.rpu = offerActuate ⟨k, e.node, e.channel, cmd⟩ s.rpu)

theorem Touch.calm {s t : State} (h : Touch s t) : PortCalm s.rpu t.rpu := by
  cases h with
  | still _ port => rw [port]; exact .refl _
  | notice b _ port => rw [port]; exact offerNotice_calm _ _
  | input k e d d' _ _ _ port => rw [port]; exact .refl _
  | image k e o o' _ _ _ _ _ port => rw [port]; exact portAfter_calm _ _ _ _ _
  | offer k e o cmd _ _ _ _ port => rw [port]; exact offerActuate_calm _ _

@[simp] theorem outgoing_refresh (device : Device) (o : Output) (t : Option Nat) :
    outgoing device { o with refresh := t } = outgoing device o := by
  unfold outgoing
  cases device <;> rfl

/-- A change of an image that leaves its timer to R161. -/
theorem touch_changeOutput (s : State) (k : Nat) (f : Output → Output) (hs : ∀ o, (f o).safe = o.safe)
    (hr : ∀ o, (f o).refresh = o.refresh) : Touch s (s.changeOutput k f) := by
  by_cases hi : ∃ e o, Images s k e o
  · obtain ⟨e, o, hi⟩ := hi
    obtain ⟨entry, others, port⟩ := changeOutput_image hi f
    refine .image k e o { f o with
        refresh := refreshAfter s.uptime (outgoing s.sdu.device o) (outgoing s.sdu.device (f o)) (f o).refresh }
      hi (hs o) ?_ entry others ?_
    · simp only [outgoing_refresh, hr]
    · simp only [outgoing_refresh, port]
  · rw [changeOutput_none fun e o h => hi ⟨e, o, h⟩]
    exact .still rfl rfl

theorem touch_writeLatch (s : State) (r : Role) (owner : Nat) (cmd : Command) : Touch s (s.writeLatch r owner cmd) := by
  unfold State.writeLatch
  split
  · split
    · split
      · exact .still rfl rfl
      · exact touch_changeOutput _ _ _ (fun _ => rfl) (fun _ => rfl)
    · exact .still rfl rfl
  · exact .still rfl rfl

theorem touch_storeConditions (s : State) (i : SpotId) (now : Conditions) : Touch s (s.storeConditions i now) := by
  unfold State.storeConditions
  simp only
  split
  · exact .notice _ rfl rfl
  · exact .still rfl rfl

theorem touch_modSpot_after {s t : State} (h : Touch s t) (i : SpotId) (f : SpotContext → SpotContext) :
    Touch s (t.modSpot i f) := by
  cases h with
  | still map port => exact .still map port
  | notice b map port => exact .notice b map port
  | input k e d d' entry input map port => exact .input k e d d' entry input map port
  | image k e o o' image safe timer entry others port => exact .image k e o o' image safe timer entry others port
  | offer k e o cmd image now entry others port => exact .offer k e o cmd image now entry others port

/-- Every move touches the map and the port in one of these ways. -/
theorem Move.touch {m : Leave} {s t : State} (h : Move m s t) : Touch s t := by
  cases h with
  | notice b => exact .notice b rfl rfl
  | conditions i now => exact touch_storeConditions s i now
  | context i f => exact .still rfl rfl
  | credit i f => exact .still rfl rfl
  | opening i f => exact touch_modSpot_after (touch_writeLatch s .liqCmd (spotNumber i) .opened) i f
  | compressor c f => exact .still rfl rfl
  | lists l cars => exact .still rfl rfl
  | latch r owner cmd => exact touch_writeLatch s r owner cmd
  | monitor k => exact touch_changeOutput s k _ (fun _ => rfl) (fun _ => rfl)
  | offer k e o cmd image now =>
    obtain ⟨entry, others, port⟩ := offerCommand_image image cmd
    exact .offer k e o cmd image now entry others port
  | sample k e d d' entry input => exact .input k e d d' entry input rfl (rpu_setBody _ _ _)

/-! ## Operations and trip causes keep the port calm -/

variable {o c : Bool}

theorem Does.calm {s t : State} (h : Does o c s t) : PortCalm s.rpu t.rpu :=
  h.keeps (P := fun u => PortCalm s.rpu u.rpu) (fun _ _ hk hu => hu.trans hk.touch.calm) (.refl _)

theorem calm_addTripCause (s : State) (added : TripCauses) : PortCalm s.rpu (s.addTripCause added).rpu := by
  unfold State.addTripCause
  split
  · rw [tripEntry_eq]
    have handed := does_tripHandOffs (c := false) (s.tripMark added) added
    have device : ((s.tripMark added).tripNotice added).tripSpots.tripComps.sdu.device = .tripped := by
      rw [((inner_tripNotice (s.tripMark added) added).trans ((inner_tripSpots _).trans (inner_tripComps _))).sdu]
      rfl
    exact (handed.trans (does_forceAllSafe _ device)).calm
  · exact .refl _

theorem Turning.calm {s t : State} (h : Turning c s t) : PortCalm s.rpu t.rpu :=
  h.keeps (P := fun u => PortCalm s.rpu u.rpu) (fun _ _ hd hu => hu.trans hd.calm)
    (fun u added hu => hu.trans (calm_addTripCause u added)) (.refl _)

end Sys2Proof.Machine
end

section
/-! Sweeps over every image: offering all safe values at trip entry and at RESET_PART (R162, R169), the return to RUN (R163), and the
change of every channel to MONITOR (R169). -/

namespace Sys2Proof.Machine

/-! ## The command a queue holds for an index -/

theorem queuedCommand_nil {k : Nat} {r : Rpu} (h : r.actuates = []) : queuedCommand k r = none := by
  simp [queuedCommand, h]

theorem find_queueActuate (a : Actuate) (q : List Actuate) (k : Nat) :
    ((queueActuate a q).find? (fun e => e.index == k)).map (·.command) =
      if k = a.index then some a.command else (q.find? (fun e => e.index == k)).map (·.command) := by
  induction q with
  | nil =>
    by_cases h : k = a.index
    · simp [queueActuate, h]
    · simp [queueActuate, h, Ne.symm h]
  | cons e q ih =>
    by_cases he : e.index = a.index
    · by_cases h : k = a.index
      · simp [queueActuate, he, h]
      · simp [queueActuate, he, h, Ne.symm h]
    · by_cases h : k = a.index
      · subst h
        rw [if_pos rfl] at ih ⊢
        simpa [queueActuate, he] using ih
      · rw [if_neg h] at ih ⊢
        by_cases hk : e.index = k
        · subst hk
          simp [queueActuate, h]
        · simpa [queueActuate, he, hk] using ih

/-- Behind a frame being sent an offer takes its place in the queue (R8). -/
theorem queuedCommand_offerActuate {r : Rpu} {adr : Byte} {f : Frame} (ha : r.address = some adr)
    (hs : r.sending = some f) (a : Actuate) (k : Nat) :
    queuedCommand k (offerActuate a r) = if k = a.index then some a.command else queuedCommand k r := by
  have offered : offerActuate a r = { r with actuates := queueActuate a r.actuates } := by
    unfold offerActuate
    rw [ha]
    exact kick_of_sending hs
  rw [offered]
  exact find_queueActuate a r.actuates k

theorem queuedCommand_dropActuate (r : Rpu) (j k : Nat) :
    queuedCommand k (dropActuate j r) = if k = j then none else queuedCommand k r := by
  unfold queuedCommand dropActuate
  rw [List.find?_filter]
  split
  · next h =>
    subst h
    rw [Option.map_eq_none_iff, List.find?_eq_none]
    intro e _
    simp
  · next h =>
    congr 1
    congr 1
    funext e
    by_cases he : e.index = k
    · simp [he, h]
    · simp [he]

theorem queuedCommand_portAfter {r : Rpu} {adr : Byte} {f : Frame} (ha : r.address = some adr) (hs : r.sending = some f)
    (j : Nat) (e : MapEntry) (before now : Option Command) (k : Nat) :
    queuedCommand k (portAfter j e before now r) =
      if k = j ∧ now ≠ before then now else queuedCommand k r := by
  by_cases h : now = before
  · rw [h, portAfter_same, if_neg fun x => x.2 rfl]
  · cases now with
    | some cmd =>
      rw [portAfter_some h, queuedCommand_offerActuate ha hs]
      by_cases hk : k = j
      · rw [if_pos hk, if_pos ⟨hk, h⟩]
      · rw [if_neg hk, if_neg fun x => hk x.1]
    | none =>
      rw [portAfter_none h, queuedCommand_dropActuate]
      by_cases hk : k = j
      · rw [if_pos hk, if_pos ⟨hk, h⟩]
      · rw [if_neg hk, if_neg fun x => hk x.1]

/-! ## The indexes of the images -/

theorem mem_outputIndexes {m : List (Nat × MapEntry)} (hr : Rising m) (k : Nat) :
    k ∈ outputIndexes m ↔ ∃ e o, entryAt m k = some e ∧ e.body = .output o := by
  unfold outputIndexes
  rw [List.mem_map]
  constructor
  · rintro ⟨⟨j, e⟩, hmem, rfl⟩
    rw [List.mem_filter] at hmem
    obtain ⟨hm, himage⟩ := hmem
    cases hb : e.body with
    | input d => simp [MapEntry.image, hb] at himage
    | output o => exact ⟨e, o, entryAt_of_mem hr hm, hb⟩
  · rintro ⟨e, o, he, ho⟩
    refine ⟨(k, e), ?_, rfl⟩
    rw [List.mem_filter]
    exact ⟨mem_of_entryAt he, by simp [MapEntry.image, ho]⟩

/-- The entry with its image changed, an input entry as it was. -/
def MapEntry.mapImage (e : MapEntry) (g : Output → Output) : MapEntry :=
  match e.body with
  | .input _ => e
  | .output o => e.withImage (g o)

theorem mapImage_of_output {e : MapEntry} {o : Output} (h : e.body = .output o) (g : Output → Output) :
    e.mapImage g = e.withImage (g o) := by
  unfold MapEntry.mapImage
  rw [h]

theorem mapImage_of_input {e : MapEntry} {d : Dynamic} (h : e.body = .input d) (g : Output → Output) : e.mapImage g = e := by
  unfold MapEntry.mapImage
  rw [h]

theorem mapImage_mapImage (e : MapEntry) {g : Output → Output} (idem : ∀ o, g (g o) = g o) :
    (e.mapImage g).mapImage g = e.mapImage g := by
  cases h : e.body with
  | input d => rw [mapImage_of_input h, mapImage_of_input h]
  | output o =>
    rw [mapImage_of_output h, mapImage_of_output (rfl : (e.withImage (g o)).body = .output (g o)), idem]
    rfl

/-- What an operation at one image does to every entry. -/
def Sweeps (f : State → Nat → State) (g : Output → Output) (ok : State → Prop) : Prop :=
  ∀ s k, ok s → ok (f s k) ∧ ∀ m, entryAt (f s k).imap m =
    (entryAt s.imap m).map (fun e => if m = k then e.mapImage g else e)

/-- A sweep changes the images of its indexes. -/
theorem Sweeps.foldl {f : State → Nat → State} {g : Output → Output} {ok : State → Prop} (h : Sweeps f g ok)
    (idem : ∀ o, g (g o) = g o) (l : List Nat) {s : State} (hok : ok s) :
    ok (l.foldl f s) ∧ ∀ m, entryAt (l.foldl f s).imap m =
      (entryAt s.imap m).map (fun e => if m ∈ l then e.mapImage g else e) := by
  induction l generalizing s with
  | nil => exact ⟨hok, fun m => by simp⟩
  | cons k l ih =>
    obtain ⟨hok1, h1⟩ := h s k hok
    obtain ⟨hok2, h2⟩ := ih hok1
    refine ⟨hok2, fun m => ?_⟩
    rw [List.foldl_cons, h2 m, h1 m, Option.map_map]
    congr 1
    funext e
    by_cases hk : m = k
    · by_cases hl : m ∈ l
      · simp [hk, hk ▸ hl, mapImage_mapImage e idem]
      · simp [hk, hk ▸ hl]
    · simp [hk]

/-- A sweep over every image of a map in canonical form. -/
theorem Sweeps.all {f : State → Nat → State} {g : Output → Output} {ok : State → Prop} (h : Sweeps f g ok)
    (idem : ∀ o, g (g o) = g o) {s : State} (hok : ok s) (hr : Rising s.imap) (m : Nat) :
    entryAt ((outputIndexes s.imap).foldl f s).imap m = (entryAt s.imap m).map (·.mapImage g) := by
  rw [(h.foldl idem _ hok).2 m]
  cases he : entryAt s.imap m with
  | none => rfl
  | some e =>
    refine congrArg some ?_
    simp only
    cases hb : e.body with
    | input d => rw [mapImage_of_input hb, ite_self]
    | output o =>
      have : m ∈ outputIndexes s.imap := (mem_outputIndexes hr m).mpr ⟨e, o, he, hb⟩
      rw [if_pos this]

/-- An operation at one index from its effect on an image there. -/
theorem entries_of_image {s t : State} {k : Nat} {g : Output → Output}
    (himage : ∀ e o, Images s k e o → entryAt t.imap k = some (e.withImage (g o)) ∧
      ∀ m, m ≠ k → entryAt t.imap m = entryAt s.imap m)
    (hnone : (∀ e o, ¬ Images s k e o) → t = s) (m : Nat) :
    entryAt t.imap m = (entryAt s.imap m).map (fun e => if m = k then e.mapImage g else e) := by
  by_cases hi : ∃ e o, Images s k e o
  · obtain ⟨e, o, hi⟩ := hi
    obtain ⟨hk, hother⟩ := himage e o hi
    by_cases hm : m = k
    · subst hm
      rw [hk, hi.1]
      simp [mapImage_of_output hi.2]
    · rw [hother m hm]
      simp [hm]
  · have hno : ∀ e o, ¬ Images s k e o := fun e o h => hi ⟨e, o, h⟩
    rw [hnone hno]
    cases he : entryAt s.imap m with
    | none => rfl
    | some e =>
      by_cases hm : m = k
      · subst hm
        cases hb : e.body with
        | input d => simp [mapImage_of_input hb]
        | output o => exact absurd ⟨he, hb⟩ (hno e o)
      · simp [hm]

/-! ## The three sweeps -/

/-- An image whose refresh timer restarts at an uptime (R161). -/
def restarted (uptime : Nat) (o : Output) : Output := { o with refresh := some (uptime + 2) }

/-- An image on the return to RUN (R163). -/
def returned (uptime : Nat) (o : Output) : Output :=
  { o with refresh := refreshAfter uptime (some o.safe) (outgoing .run o) o.refresh }

/-- An image that goes to MONITOR (R160, R169). -/
def monitored (uptime : Nat) (device : Device) (o : Output) : Output :=
  { o with
    direction := .monitor
    refresh := refreshAfter uptime (outgoing device o) (outgoing device { o with direction := .monitor }) o.refresh }

theorem forceSafe_eq {s : State} {k : Nat} {e : MapEntry} {o : Output} (h : Images s k e o) :
    s.forceSafe k = s.offerCommand k o.safe := by
  simp [State.forceSafe, h.1, h.2]

theorem forceSafe_none {s : State} {k : Nat} (h : ∀ e o, ¬ Images s k e o) : s.forceSafe k = s := by
  unfold State.forceSafe
  split
  · next e he =>
    split
    · next o ho => exact absurd ⟨he, ho⟩ (h e o)
    · rfl
  · rfl

theorem returnOutput_eq {s : State} {k : Nat} {e : MapEntry} {o : Output} (h : Images s k e o) :
    s.returnOutput k = s.settleOutput k (some o.safe) := by
  simp [State.returnOutput, h.1, h.2]

theorem returnOutput_none {s : State} {k : Nat} (h : ∀ e o, ¬ Images s k e o) : s.returnOutput k = s := by
  unfold State.returnOutput
  split
  · next e he =>
    split
    · next o ho => exact absurd ⟨he, ho⟩ (h e o)
    · rfl
  · rfl

theorem sweeps_forceSafe (u : Nat) : Sweeps State.forceSafe (restarted u) (fun s => s.uptime = u) := by
  intro s k hu
  refine ⟨(onlyMap_forceSafe s k).uptime.trans hu, entries_of_image (fun e o hi => ?_) forceSafe_none⟩
  rw [forceSafe_eq hi]
  obtain ⟨entry, others, _⟩ := offerCommand_image hi o.safe
  rw [hu] at entry
  exact ⟨entry, others⟩

theorem sweeps_returnOutput (u : Nat) :
    Sweeps State.returnOutput (returned u) (fun s => s.uptime = u ∧ s.sdu.device = .run) := by
  intro s k ⟨hu, hd⟩
  refine ⟨⟨(onlyMap_returnOutput s k).uptime.trans hu, by rw [(onlyMap_returnOutput s k).sdu, hd]⟩,
    entries_of_image (fun e o hi => ?_) returnOutput_none⟩
  rw [returnOutput_eq hi]
  obtain ⟨entry, others, _⟩ := settleOutput_image hi (some o.safe)
  rw [hu, hd] at entry
  exact ⟨entry, others⟩

theorem sweeps_monitorOutput (u : Nat) (device : Device) :
    Sweeps State.monitorOutput (monitored u device) (fun s => s.uptime = u ∧ s.sdu.device = device) := by
  intro s k ⟨hu, hd⟩
  have only : OnlyMap s (s.monitorOutput k) := onlyMap_changeOutput s k _
  refine ⟨⟨only.uptime.trans hu, by rw [only.sdu, hd]⟩,
    entries_of_image (fun e o hi => ?_) fun hno => changeOutput_none hno _⟩
  obtain ⟨entry, others, _⟩ := changeOutput_image hi (fun o => { o with direction := .monitor })
  rw [hu, hd] at entry
  exact ⟨entry, others⟩

theorem restarted_restarted (u : Nat) (o : Output) : restarted u (restarted u o) = restarted u o := rfl

theorem refreshAfter_idem (u : Nat) (b n : Option Command) (t : Option Nat) :
    refreshAfter u b n (refreshAfter u b n t) = refreshAfter u b n t := by
  unfold refreshAfter
  split <;> rfl

theorem returned_returned (u : Nat) (o : Output) : returned u (returned u o) = returned u o := by
  simp only [returned, outgoing_refresh, refreshAfter_idem]

theorem outgoing_monitored (u : Nat) (device : Device) (o : Output) :
    outgoing device (monitored u device o) = outgoing device { o with direction := .monitor } := by
  cases device <;> rfl

theorem monitored_monitored (u : Nat) (device : Device) (o : Output) :
    monitored u device (monitored u device o) = monitored u device o := by
  have stays : outgoing device { monitored u device o with direction := .monitor } = outgoing device (monitored u device o) := by
    cases device <;> rfl
  rw [monitored, stays, refreshAfter_same]
  rfl

/-- Every image after the offers of all safe values (R162). -/
theorem entryAt_forceAllSafe {s : State} (hr : Rising s.imap) (m : Nat) :
    entryAt s.forceAllSafe.imap m = (entryAt s.imap m).map (·.mapImage (restarted s.uptime)) :=
  (sweeps_forceSafe s.uptime).all (restarted_restarted _) rfl hr m

/-- Every image after the return to RUN (R163). -/
theorem entryAt_returnAllOutputs {s : State} (hr : Rising s.imap) (hd : s.sdu.device = .run) (m : Nat) :
    entryAt s.returnAllOutputs.imap m = (entryAt s.imap m).map (·.mapImage (returned s.uptime)) :=
  (sweeps_returnOutput s.uptime).all (returned_returned _) ⟨rfl, hd⟩ hr m

/-- Every image after the change of every channel to MONITOR (R169). -/
theorem entryAt_monitorOutputs {s : State} (hr : Rising s.imap) (m : Nat) :
    entryAt ((outputIndexes s.imap).foldl State.monitorOutput s).imap m =
      (entryAt s.imap m).map (·.mapImage (monitored s.uptime s.sdu.device)) :=
  (sweeps_monitorOutput s.uptime s.sdu.device).all (monitored_monitored _ _) ⟨rfl, rfl⟩ hr m

/-! ## The queue after a sweep -/

/-- Behind a frame being sent every image's safe value comes to stand in the queue (R162). -/
theorem queuedCommand_forceAllSafe {s : State} (hr : Rising s.imap) {adr : Byte} {f : Frame}
    (ha : s.rpu.address = some adr) (hs : s.rpu.sending = some f) {k : Nat} {e : MapEntry} {o : Output}
    (hi : Images s k e o) : queuedCommand k s.forceAllSafe.rpu = some o.safe := by
  have fold : ∀ (l : List Nat) (u : State) (e : MapEntry) (w : Output), u.rpu.address = some adr →
      u.rpu.sending = some f → Images u k e w → w.safe = o.safe →
      (k ∈ l ∨ queuedCommand k u.rpu = some o.safe) → queuedCommand k (l.foldl State.forceSafe u).rpu = some o.safe := by
    intro l
    induction l with
    | nil =>
      intro u e w _ _ _ _ h
      rcases h with h | h
      · cases h
      · exact h
    | cons j l ih =>
      intro u e w hua hus hui hsafe h
      have port := (inner_forceSafe u j).port
      have hsweep := (sweeps_forceSafe u.uptime u j rfl).2 k
      rw [hui.1] at hsweep
      have hua' := port.address.trans hua
      have hus' := port.sending f hus
      by_cases hj : k = j
      · subst hj
        have hq : queuedCommand k (u.forceSafe k).rpu = some o.safe := by
          rw [forceSafe_eq hui, (offerCommand_image hui _).2.2, queuedCommand_offerActuate hua hus, if_pos rfl, hsafe]
        rw [Option.map_some, if_pos rfl, mapImage_of_output hui.2] at hsweep
        exact ih _ _ _ hua' hus' ⟨hsweep, rfl⟩ hsafe (.inr hq)
      · have hq : queuedCommand k (u.forceSafe j).rpu = queuedCommand k u.rpu := by
          by_cases hu : ∃ e' o', Images u j e' o'
          · obtain ⟨e', o', hu⟩ := hu
            rw [forceSafe_eq hu, (offerCommand_image hu _).2.2, queuedCommand_offerActuate hua hus, if_neg hj]
          · rw [forceSafe_none fun e' o' h' => hu ⟨e', o', h'⟩]
        rw [Option.map_some, if_neg hj] at hsweep
        refine ih _ _ _ hua' hus' ⟨hsweep, hui.2⟩ hsafe ?_
        rcases h with h | h
        · exact .inl ((List.mem_cons.mp h).resolve_left hj)
        · exact .inr (hq.trans h)
  exact fold _ s e o ha hs hi rfl (.inl ((mem_outputIndexes hr k).mpr ⟨e, o, hi.1, hi.2⟩))

end Sys2Proof.Machine
end

section
/-! The deeds of the commands: a command is a chain of operations, trip causes, changes that leave map, device and spot states alone, and
of the few that write the map or return the part to RUN. A law of the channels that each deed keeps is kept by every step. -/

namespace Sys2Proof.Machine

/-- One deed of a command. -/
inductive Deed (s : State) : State → Prop
  | turning (t : State) (h : Turning true s t) : Deed s t
  | aside (t : State) (imap : t.imap = s.imap) (device : t.sdu.device = s.sdu.device)
      (address : t.rpu.address = s.rpu.address) (actuates : t.rpu.actuates.Sublist s.rpu.actuates)
      (states : ∀ i, (t.spot i).state = (s.spot i).state) : Deed s t
  | drive (k : Nat) (e : MapEntry) (o : Output) (cmd : Command) (image : Images s k e o)
      (closed : e.role = .liqCmd → cmd ≠ .opened) :
      Deed s (s.changeOutput k (fun o => { o with latch := cmd, direction := .drive }))
  | enterRun (tripped : s.sdu.device = .tripped) : Deed s s.enterRun
  | load (k : Nat) (w : MapWrite) (index : k < 256) (range : writeInRange s.rpu.address w = true)
      (single : duplicates s.imap k w = false) : Deed s (s.writeEntry k w)
  | unload (k : Nat) (e : MapEntry) (entry : entryAt s.imap k = some e) : Deed s (s.removeEntry k e)
  | fresh (b : Byte) : Deed s (s.powerOnState b)

/-- A chain of deeds. -/
def Deeds : State → State → Prop := Relation.ReflTransGen Deed

theorem Deeds.refl (s : State) : Deeds s s := Relation.ReflTransGen.refl

theorem Deeds.trans {a b d : State} (h : Deeds a b) (k : Deeds b d) : Deeds a d := Relation.ReflTransGen.trans h k

theorem Deeds.keeps {P : State → Prop} (h : ∀ s t, Deed s t → P s → P t) {s t : State} (hd : Deeds s t) (hp : P s) : P t := by
  induction hd with
  | refl => exact hp
  | tail _ hk ih => exact h _ _ hk ih

theorem Turning.deeds {s t : State} (h : Turning true s t) : Deeds s t := .single (.turning t h)

theorem Does.deeds {s t : State} (h : Does true true s t) : Deeds s t := h.turning.deeds

/-- What leaves map, device, address, queued actuates and spots alone. -/
theorem deeds_aside (s t : State) (imap : t.imap = s.imap) (device : t.sdu.device = s.sdu.device)
    (address : t.rpu.address = s.rpu.address) (actuates : t.rpu.actuates.Sublist s.rpu.actuates)
    (states : ∀ i, (t.spot i).state = (s.spot i).state) : Deeds s t :=
  .single (.aside t imap device address actuates states)

/-! ## The actuation queue behind the arbiter -/

theorem actuates_setSequence (r : Rpu) (k : Nat) (b : Byte) : (r.setSequence k b).actuates = r.actuates := by
  unfold Rpu.setSequence
  split <;> rfl

theorem actuates_sendOwn (r : Rpu) : (sendOwn r).actuates.Sublist r.actuates := by
  unfold sendOwn
  split
  · exact .refl _
  · split
    · next hq => rw [hq]; exact List.sublist_cons_self _ _
    · split <;> exact .refl _

theorem actuates_boundary (r : Rpu) : (boundary r).actuates.Sublist r.actuates := by
  unfold boundary
  split
  · split
    · split
      · exact .refl _
      · exact actuates_sendOwn r
    · exact .refl _
  · exact actuates_sendOwn r

theorem actuates_kick (r : Rpu) : (kick r).actuates.Sublist r.actuates := by
  unfold kick
  split
  · exact .refl _
  · exact actuates_boundary r

theorem actuates_forwardFrame (f : Frame) (r : Rpu) : (forwardFrame f r).actuates.Sublist r.actuates := by
  unfold forwardFrame
  split
  · exact actuates_kick _
  · exact .refl _

theorem actuates_offerNotice (b : List Byte) (r : Rpu) : (offerNotice b r).actuates.Sublist r.actuates := by
  unfold offerNotice
  simp only
  split
  · exact .refl _
  · split
    · exact actuates_kick _
    · exact .refl _

/-! ## The commands -/

theorem deeds_takeRequest (s : State) : Deeds s s.takeRequest := by
  obtain ⟨m, l, q, e⟩ := takeRequest_eq s
  rw [e]
  exact deeds_aside s _ rfl rfl rfl (.refl _) fun _ => rfl

theorem deeds_answer (s : State) (q : Request) (r : Reply) : Deeds s (s.answer q r) :=
  (deeds_aside s { s with
      mgu := { s.mgu with held := none }
      rpu := kick { s.rpu with messages := fillReservation (replyMessage q r) s.rpu.messages } }
    rfl rfl (kick_step _).address (actuates_kick { s.rpu with
      messages := fillReservation (replyMessage q r) s.rpu.messages }) fun _ => rfl).trans (deeds_takeRequest _)

theorem deeds_forward (s : State) (f : Frame) : Deeds s (s.forward f) :=
  deeds_aside s _ rfl rfl (address_forwardFrame f _) (actuates_forwardFrame f _) fun _ => rfl

theorem deeds_takeManage (s : State) (f : Frame) : Deeds s (s.takeManage f) := by
  unfold State.takeManage
  split
  · refine Deeds.trans ?_ (deeds_takeRequest _)
    exact deeds_aside s _ rfl rfl rfl (.refl _) fun _ => rfl
  · exact deeds_forward _ _

theorem deeds_frameArrival (s : State) (f : Frame) : Deeds s (s.frameArrival f) := by
  unfold State.frameArrival
  split
  · refine Deeds.trans (b := s.noteValidFrame) (deeds_aside s _ rfl rfl rfl (.refl _) fun _ => rfl) ?_
    generalize s.noteValidFrame = t
    simp only
    split
    · split
      · exact .refl t
      · exact deeds_forward _ _
    · split
      · exact .refl t
      · split
        · exact .refl t
        · unfold State.disposeFrame
          split
          · exact (turning_offerSample t f).deeds.trans (deeds_forward _ _)
          · split
            · exact deeds_takeManage _ _
            · exact deeds_forward _ _
  · exact .refl s

theorem deeds_transmitComplete (s : State) : Deeds s s.transmitComplete := by
  unfold State.transmitComplete
  split
  · exact .refl s
  · refine Deeds.trans ?_ (deeds_takeRequest _)
    exact deeds_aside s (s.modRpu (fun r => boundary { r with sending := none })) rfl rfl
      (boundary_step { s.rpu with sending := none } rfl).address (actuates_boundary { s.rpu with sending := none })
      fun _ => rfl

theorem deeds_silenceExpired (s : State) : Deeds s s.silenceExpired := by
  unfold State.silenceExpired
  split
  · exact .refl s
  · split
    · refine Deeds.trans ?_ (turning_addTripCause _ _).deeds
      exact deeds_aside s _ rfl rfl rfl (.refl _) fun _ => rfl
    · exact .refl s

theorem deeds_setRecord (s : State) (i : SpotId) (r : SpotRecord) : Deeds s (s.setRecord i r) :=
  deeds_aside s _ rfl rfl rfl (.refl _) fun _ => rfl

theorem state_ne_unloading_of_free {s : State} {i : SpotId} (h : s.spotInUse i = false) : (s.spot i).state ≠ .unloading :=
  fun e => by rw [State.spotInUse, e] at h; cases h

theorem deeds_storeRecord (s : State) (i : SpotId) (r : SpotRecord) (h : s.spotInUse i = false) :
    Deeds s (s.storeRecord i r) := by
  unfold State.storeRecord
  refine (deeds_setRecord s i r).trans ?_
  simp only
  generalize conditionSet (s.setRecord i r) i _ = now
  have still : (((s.setRecord i r).storeConditions i now).spot i).state ≠ .unloading := by
    rw [spot_storeConditions]
    exact state_ne_unloading_of_free h
  refine (does_storeConditions (s.setRecord i r) i now).deeds.trans ?_
  split
  · exact .refl _
  · exact (does_changeState _ i _ still).deeds

theorem deeds_modComp (s : State) (k : CompId) (f : Compressor → Compressor) : Deeds s (s.modComp k f) :=
  deeds_aside s _ rfl rfl rfl (.refl _) fun _ => rfl

theorem deeds_dropTally (s : State) (i : SpotId) : Deeds s (s.dropTally i) :=
  deeds_aside s _ rfl rfl rfl (.refl _) (state_dropTally s i)

theorem deeds_removeRecord (s : State) (p : Nat) : Deeds s (s.removeRecord p) :=
  deeds_aside s _ rfl rfl rfl (.refl _) fun i => by simp [State.removeRecord, State.spot, Vector.get_eq_getElem]

theorem deeds_clearVacant (s : State) (i : SpotId) (h : (s.spot i).state = .vacant) : Deeds s (s.clearVacant i) := by
  have still : ((s.dropTally i).spot i).state ≠ .unloading := by rw [state_dropTally, h]; decide
  unfold State.clearVacant
  refine (deeds_dropTally s i).trans ?_
  simp only
  split
  · exact (does_matchTag _ _ _ still).deeds
  · exact (does_reportUnknownTag _ _ _).deeds

theorem does_checkOwner {c : Bool} (s : State) (r : Role) (o : Nat) : Does true c s (s.checkOwner r o) := by
  unfold State.checkOwner
  split
  · split
    · exact does_checkUsable _ _
    · exact .refl s
  · exact .refl s

theorem does_monitorOutput {o c : Bool} (s : State) (k : Nat) : Does o c s (s.monitorOutput k) :=
  does_of_move fun _ _ => .monitor k

theorem does_monitorAll {c : Bool} (s : State) : Does true c s s.monitorAll :=
  (Does.foldl _ does_monitorOutput _ s).trans (Does.foldl _ does_monitorComp _ _)

theorem turning_addReset {c : Bool} (s : State) : Turning c s s.addReset := by
  unfold State.addReset
  split
  · exact turning_addTripCause _ _
  · next hd =>
    refine (turning_addTripCause s causeReset).trans (does_forceAllSafe _ ?_).turning
    exact (turn_addTripCause s causeReset).tripped hd

theorem deeds_clearStanding (s : State) : Deeds s s.clearStanding := deeds_aside s _ rfl rfl rfl (.refl _) fun _ => rfl

theorem deeds_letGo (s : State) : Deeds s { s with mgu := { s.mgu with held := none } } :=
  deeds_aside s _ rfl rfl rfl (.refl _) fun _ => rfl

theorem deeds_resetPort (s : State) (m : Message) (hn : (s.resetPort m).rpu.actuates = []) : Deeds s (s.resetPort m) :=
  deeds_aside s _ rfl rfl (kick_step _).address (by rw [hn]; exact List.nil_sublist _) fun _ => rfl

theorem deeds_resetEffect (s : State) (m : Message) (hn : (s.resetPort m).rpu.actuates = []) :
    Deeds s (s.resetEffect m) := by
  have spots := (deeds_resetPort s m hn).trans (does_resetSpots (c := true) (s.resetPort m)).deeds
  have marks : Deeds s (s.resetPort m).resetSpots.clearStanding :=
    spots.trans (deeds_clearStanding _)
  have comps := marks.trans ((does_tripComps _).trans (does_monitorAll _)).deeds
  exact (comps.trans (turning_addReset _).deeds).trans (does_endScan _).deeds

theorem actuates_resetPort (s : State) (m : Message) : (s.resetPort m).rpu.actuates = [] :=
  List.sublist_nil.mp (actuates_kick { s.rpu with
    requests := [], actuates := [], messages := fillReservation m (onlyReservation s.rpu.messages) })

theorem initialCommand_closed {r : Role} {b : Byte} {cmd : Command} (h : initialCommand r b = some cmd) :
    r = .liqCmd → cmd ≠ .opened := by
  intro hr hc
  unfold initialCommand at h
  split at h
  · split at h
    · next hx =>
      cases h
      simp [hr, hc] at hx
    · cases h
  · cases h

theorem deeds_carries {c : Instr} {s t : State} (h : Carries s c t) : Deeds s t := by
  cases h with
  | readSpot i b => exact deeds_aside s _ rfl rfl rfl (.refl _) fun _ => rfl
  | readCompressor c => exact deeds_modComp s c _
  | writeEntry k w index range free owner single => exact .single (.load k w index range single)
  | removeEntry k e entry => exact .single (.unload k e entry)
  | storeRecord i r free => exact deeds_storeRecord s i r free
  | storeCurve i r points => exact deeds_setRecord s i _
  | storeGroup g v => exact deeds_aside s _ rfl rfl rfl (.refl _) fun _ => rfl
  | storeComp c r => exact deeds_modComp s c _
  | removeComp c => exact (deeds_modComp s c _).trans ((does_checkUsable _ _).trans (does_endScan _)).deeds
  | addCar r => exact deeds_aside s _ rfl rfl rfl (.refl _) fun _ => rfl
  | removeCar p => exact deeds_removeRecord s p
  | start i run ready => exact (does_startTransfer s i ready).deeds
  | suspend i => exact ((does_changeCauses s i _).trans (does_endScan _)).deeds
  | resume i => exact (does_resumeTransfer s i).deeds
  | stop i => exact (does_stopTransfer s i).deeds
  | abort i => exact (does_abortTransfer s i).deeds
  | abortIdle i => exact (does_endTransfer _ _ _ _ _).deeds
  | release i state =>
    exact (deeds_dropTally s i).trans (does_changeState _ i _ (by rw [state_dropTally, state]; decide)).deeds
  | clearFaulted i state =>
    refine (deeds_dropTally s i).trans ((does_reportUnknownTag _ i false).trans (does_changeState _ i _ ?_)).deeds
    rw [state_reportUnknownTag, state_dropTally, state]
    decide
  | clearVacant i state => exact deeds_clearVacant s i state
  | drive k e o b cmd entry output initial =>
    exact .single (.drive k e o cmd ⟨entry, output⟩ (initialCommand_closed initial))
  | monitor k e o => exact (((does_monitorOutput s k).trans (does_checkOwner _ _ _)).trans (does_endScan _)).deeds
  | ackChanges i named => exact deeds_aside s _ rfl rfl rfl (.refl _) fun _ => rfl
  | trip => exact (turning_addTripCause _ _).deeds
  | tripReset tripped => exact .single (.enterRun tripped)

theorem deeds_acts {c : Instr} {s t : State} (h : Acts s c t) : Deeds s t := by
  cases h with
  | esdAsserted =>
    refine Deeds.trans ?_ (turning_addTripCause _ _).deeds
    exact deeds_aside s _ rfl rfl rfl (.refl _) fun _ => rfl
  | esdReleased => exact deeds_aside s _ rfl rfl rfl (.refl _) fun _ => rfl
  | frame f => exact deeds_frameArrival s f
  | transmit => exact deeds_transmitComplete s
  | silence => exact deeds_silenceExpired s
  | staleness k => exact (turning_stalenessExpiry s k).deeds
  | travel n i => exact (does_travelExpired s i).deeds
  | pressurise n i => exact (does_pressuriseExpired s i).deeds
  | suspend n i => exact (does_suspendExpired s i).deeds
  | pass n i => exact (does_passExpired s i).deeds
  | settle n i => exact (does_settleExpired s i).deeds
  | confirmation n c => exact (does_confirmationExpired s c).deeds
  | popdown n c => exact (does_popdownDue s c).deeds
  | history n c => exact (does_startAged s c).deeds
  | refresh k => exact (does_refreshExpired s k).deeds
  | tick =>
    have tick : ∀ u : State, Deeds u u.tickUptime := fun u => by
      unfold State.tickUptime
      split <;> exact deeds_aside u _ rfl rfl rfl (.refl _) fun _ => rfl
    have fold : ∀ (l : List CompId) (u : State), Deeds u (l.foldl (fun s c => s.modComp c addSecond) u) := by
      intro l
      induction l with
      | nil => exact .refl
      | cons k l ih => exact fun u => (deeds_modComp u k addSecond).trans (ih _)
    exact (fold _ s).trans (tick _)
  | answered _ q r => exact deeds_answer s q r
  | carried _ u q r _ effect => exact (deeds_carries effect).trans (deeds_answer _ _ _)
  | resetPart q =>
    exact ((deeds_resetEffect s (replyMessage q ⟨.done, []⟩) (actuates_resetPort s _)).trans (deeds_letGo _)).trans
      (deeds_takeRequest _)

/-- Every command is a chain of deeds. -/
theorem deeds_falls {c : Instr} {s t : State} (h : Falls s c t) : Deeds s t := by
  cases h with
  | idle => exact .refl s
  | powerOn b => exact .single (.fresh b)
  | resetInput b =>
    refine Deeds.trans (b := { s with pins := { s.pins with resetAsserted := true } }) ?_ (.single (.fresh b))
    exact deeds_aside s _ rfl rfl rfl (.refl _) fun _ => rfl
  | resetLine b => exact deeds_aside s _ rfl rfl rfl (.refl _) fun _ => rfl
  | resetRelease => exact deeds_aside s _ rfl rfl rfl (.refl _) fun _ => rfl
  | loss => exact deeds_aside s _ rfl rfl rfl (.refl _) fun _ => rfl
  | esdLevel c b line => exact deeds_aside s _ rfl rfl rfl (.refl _) fun _ => rfl
  | acts c t on effect => exact deeds_acts effect

/-- A law that every deed keeps, and the queue of waiting commands cannot break, every step keeps. -/
theorem step_keeps_of_deeds {P : State → Prop} (hq : ∀ s l, P s → P { s with pending := l })
    (h : ∀ s t, Deed s t → P s → P t) {s t : State} (hs : step s = .next t) (hp : P s) : P t :=
  step_keeps (P := P) hq (fun _ _ _ hf => (deeds_falls hf).keeps h) hs hp

end Sys2Proof.Machine
end

section
/-! The refresh timers (R161): the law of every image, index by index. -/

namespace Sys2Proof.Machine

variable {o c : Bool}

/-! ## What moves and trip causes leave of map and device -/

theorem Move.sdu {m : Leave} {s t : State} (h : Move m s t) : t.sdu = s.sdu := by
  cases h with
  | notice b => rfl
  | conditions i now => exact (inner_storeConditions s i now).sdu
  | context i f => rfl
  | credit i f => rfl
  | opening i f => exact (inner_writeValve s .liqCmd i .opened).sdu
  | compressor k f => rfl
  | lists l cars => rfl
  | latch r owner cmd => exact (inner_writeLatch s r owner cmd).sdu
  | monitor k => exact (onlyMap_changeOutput s k _).sdu
  | offer k e o cmd => exact (inner_offerCommand s k cmd).sdu
  | sample k e d d' => exact sdu_setBody _ _ _

theorem Does.sdu {s t : State} (h : Does o c s t) : t.sdu = s.sdu :=
  h.keeps (P := fun u => u.sdu = s.sdu) (fun _ _ hk hu => hk.sdu.trans hu) rfl

theorem Does.shapes {s t : State} (h : Does o c s t) (hr : Rising s.imap) :
    Sys2Proof.Machine.shapes t.imap = Sys2Proof.Machine.shapes s.imap := (h False False.elim).shapes hr

theorem Does.rising {s t : State} (h : Does o c s t) (hr : Rising s.imap) : Rising t.imap :=
  rising_of_shapes (h.shapes hr) hr

theorem Turning.shapes {s t : State} (h : Turning c s t) (hr : Rising s.imap) :
    Sys2Proof.Machine.shapes t.imap = Sys2Proof.Machine.shapes s.imap :=
  h.keeps (P := fun u => Sys2Proof.Machine.shapes u.imap = Sys2Proof.Machine.shapes s.imap)
    (fun _ _ hd hu => (hd.shapes (rising_of_shapes hu hr)).trans hu)
    (fun u added hu => ((turn_addTripCause u added).shapes (rising_of_shapes hu hr)).trans hu) rfl

theorem Turning.rising {s t : State} (h : Turning c s t) (hr : Rising s.imap) : Rising t.imap :=
  rising_of_shapes (h.shapes hr) hr

/-- Trip entry ends with the offers of all safe values, in the device state TRIPPED (R175). -/
theorem tripEntry_forced (s : State) (added : TripCauses) : ∃ u, s.tripEntry added = u.forceAllSafe ∧
    Does true false (s.tripMark added) u ∧ u.sdu.device = .tripped ∧ Does true false u u.forceAllSafe := by
  have device : ((s.tripMark added).tripNotice added).tripSpots.tripComps.sdu.device = .tripped := by
    rw [((inner_tripNotice (s.tripMark added) added).trans ((inner_tripSpots _).trans (inner_tripComps _))).sdu]
    rfl
  exact ⟨_, tripEntry_eq s added, does_tripHandOffs _ _, device, does_forceAllSafe _ device⟩

/-! ## The map after a load -/

theorem rising_putEntry {m : List (Nat × MapEntry)} (h : Rising m) (k : Nat) (e : MapEntry) : Rising (putEntry m k e) := by
  have keys : ∀ (l : List (Nat × MapEntry)) (j : Nat), j ∈ (putEntry l k e).map (·.1) → j = k ∨ j ∈ l.map (·.1) := by
    intro l j hj
    induction l with
    | nil => simpa [putEntry] using hj
    | cons p l ih =>
      obtain ⟨i, d⟩ := p
      simp only [putEntry] at hj
      split at hj
      · simpa using hj
      · split at hj
        · next hi => subst hi; exact .inr (by simpa using hj)
        · rw [List.map_cons, List.mem_cons] at hj
          rcases hj with hj | hj
          · exact .inr (by simp [hj])
          · exact (ih hj).imp_right fun x => by simp [x]
  induction m with
  | nil => simp [putEntry, Rising]
  | cons p m ih =>
    obtain ⟨i, d⟩ := p
    unfold Rising at h ih ⊢
    rw [List.map_cons, List.pairwise_cons] at h
    obtain ⟨hfirst, hrest⟩ := h
    unfold putEntry
    split
    · next hk =>
      rw [List.map_cons, List.pairwise_cons, List.map_cons, List.pairwise_cons]
      refine ⟨fun j hj => ?_, hfirst, hrest⟩
      rcases List.mem_cons.mp hj with rfl | hj
      · exact hk
      · exact hk.trans (hfirst j hj)
    · split
      · next hk =>
        subst hk
        rw [List.map_cons, List.pairwise_cons]
        exact ⟨hfirst, hrest⟩
      · rw [List.map_cons, List.pairwise_cons]
        refine ⟨fun j hj => ?_, ih hrest⟩
        rcases keys m j hj with rfl | hj
        · omega
        · exact hfirst j hj

theorem rising_dropEntry {m : List (Nat × MapEntry)} (h : Rising m) (k : Nat) : Rising (dropEntry m k) :=
  h.sublist (List.filter_sublist.map _)

/-- The stages of a write: what went before, the entry put, and the rest (R22). -/
theorem writeEntry_stages (s : State) (k : Nat) (w : MapWrite) : ∃ a z,
    (a = s.clearIndex k ∨ ∃ old, a = (s.clearIndex k).withdraw k old ∧ entryAt s.imap k = some old) ∧
    Does true false (State.takeEntry { a with imap := putEntry a.imap k (newEntry w) } k w) z ∧ s.writeEntry k w = z := by
  refine ⟨(s.clearIndex k).withdrawOld k w (entryAt s.imap k), s.writeEntry k w, ?_,
    (does_reevaluateAll _ _).trans (does_endScan _), rfl⟩
  unfold State.withdrawOld
  split
  · next e he =>
    split
    · exact .inl rfl
    · exact .inr ⟨e, rfl, he⟩
  · exact .inl rfl

theorem imap_clearIndex (s : State) (k : Nat) : (s.clearIndex k).imap = s.imap := rfl

theorem rising_withdraw {s : State} (hr : Rising s.imap) (k : Nat) (e : MapEntry) : Rising (s.withdraw k e).imap :=
  (does_checkOwner (c := true) { s with imap := dropEntry s.imap k } e.role e.owner).rising (rising_dropEntry hr k)

/-- What is told of a new entry is an event of the part, once an image has been settled (R22). -/
theorem takeEntry_input {s : State} {k : Nat} {w : MapWrite} {d : Dynamic} (h : newBody w = .input d) :
    Turning true s (s.takeEntry k w) := by
  unfold State.takeEntry
  simp only [h]
  split
  · exact turning_tellStale _ _ _ _
  · exact .refl s

theorem takeEntry_output {s : State} {k : Nat} {w : MapWrite} {i : Output} (h : newBody w = .output i) :
    Does true true (s.settleOutput k none) (s.takeEntry k w) := by
  unfold State.takeEntry
  simp only [h]
  refine Does.trans ?_ (does_checkOwner _ _ _)
  split
  · exact does_of_move fun _ _ => .latch .liqCmd w.owner .closed fun _ => rfl
  · exact .refl _

theorem rising_takeEntry {s : State} (hr : Rising s.imap) (k : Nat) (w : MapWrite) : Rising (s.takeEntry k w).imap := by
  cases h : newBody w with
  | input d => exact (takeEntry_input h).rising hr
  | output i =>
    exact (takeEntry_output h).rising (rising_of_shapes ((inner_settleOutput s k none).shapes hr) hr)

theorem rising_writeEntry {s : State} (hr : Rising s.imap) (k : Nat) (w : MapWrite) : Rising (s.writeEntry k w).imap := by
  obtain ⟨a, z, before, after, hz⟩ := writeEntry_stages s k w
  have ha : Rising a.imap := by
    rcases before with rfl | ⟨old, rfl, _⟩
    · exact hr
    · exact rising_withdraw (s := s.clearIndex k) hr k old
  rw [hz]
  exact after.rising (rising_takeEntry (s := { a with imap := putEntry a.imap k (newEntry w) }) (rising_putEntry ha k _) k w)

theorem removeEntry_after (s : State) (k : Nat) (e : MapEntry) :
    Does true true ((s.clearIndex k).withdraw k e) (s.removeEntry k e) :=
  (does_reevaluateAll _ _).trans (does_endScan _)

theorem rising_removeEntry {s : State} (hr : Rising s.imap) (k : Nat) (e : MapEntry) : Rising (s.removeEntry k e).imap :=
  (removeEntry_after s k e).rising (rising_withdraw (s := s.clearIndex k) hr k e)

/-- The part as RUN begins, before any image changes its command (R178). -/
def State.runMark (s : State) : State :=
  { s with sdu := { s.sdu with causes := .empty, device := .run }, pins := { s.pins with tripEnergised := true } }

theorem enterRun_eq (s : State) : s.enterRun = s.runMark.returnAllOutputs := rfl

theorem onlyMap_enterRun (s : State) : OnlyMap s.runMark s.enterRun := OnlyMap.foldl _ onlyMap_returnOutput _ _

theorem rising_enterRun {s : State} (hr : Rising s.imap) : Rising s.enterRun.imap :=
  rising_of_shapes ((inner_returnAllOutputs s.runMark).shapes hr) hr

theorem device_enterRun (s : State) : s.enterRun.sdu.device = .run := by
  rw [(onlyMap_enterRun s).sdu]
  rfl

/-- Every image after an accepted TRIP_RESET (R163). -/
theorem entryAt_enterRun {s : State} (hr : Rising s.imap) (m : Nat) :
    entryAt s.enterRun.imap m = (entryAt s.imap m).map (·.mapImage (returned s.uptime)) :=
  entryAt_returnAllOutputs (s := s.runMark) hr rfl m

theorem imap_powerOn (s : State) (b : Byte) : (s.powerOnState b).imap = [] := by
  rw [powerOnState_eq]
  rfl

/-- Every deed keeps the indexes rising (R17). -/
theorem Deed.rising {s t : State} (h : Deed s t) (hr : Rising s.imap) : Rising t.imap := by
  cases h with
  | turning t h => exact h.rising hr
  | aside t imap => rw [imap]; exact hr
  | drive k e o cmd =>
    exact rising_of_shapes
      ((inner_changeOutput s k (fun o => { o with latch := cmd, direction := .drive }) fun _ => rfl).shapes hr) hr
  | enterRun => exact rising_enterRun hr
  | load k w => exact rising_writeEntry hr k w
  | unload k e => exact rising_removeEntry hr k e
  | fresh b => rw [imap_powerOn]; exact List.Pairwise.nil

/-! ## The law of a refresh timer -/

/-- The refresh timer of the image at an index runs exactly while its outgoing command is a command (R161). -/
def RefreshAt (s : State) (k : Nat) : Prop :=
  ∀ e o, Images s k e o → o.refresh.isSome = (outgoing s.sdu.device o).isSome

theorem refreshOk_iff (s : State) : RefreshOk s ↔ ∀ k, RefreshAt s k :=
  ⟨fun h k e o hi => h k e o hi.1 hi.2, fun h k e o he ho => h k e o ⟨he, ho⟩⟩

theorem refreshAt_of_entry {s t : State} {k : Nat} (entry : entryAt t.imap k = entryAt s.imap k)
    (device : t.sdu.device = s.sdu.device) (h : RefreshAt s k) : RefreshAt t k := by
  intro e o hi
  rw [device]
  exact h e o ⟨entry ▸ hi.1, hi.2⟩

theorem refreshAt_of_image {t : State} {k : Nat} {e : MapEntry} {o : Output} (entry : entryAt t.imap k = some (e.withImage o))
    (h : o.refresh.isSome = (outgoing t.sdu.device o).isSome) : RefreshAt t k := by
  rintro e' o' ⟨he, ho⟩
  rw [entry] at he
  cases he
  cases ho
  exact h

theorem refreshAt_of_input {t : State} {k : Nat} {e : MapEntry} {d : Dynamic} (entry : entryAt t.imap k = some e)
    (h : e.body = .input d) : RefreshAt t k := by
  rintro e' o' ⟨he, ho⟩
  rw [entry] at he
  cases he
  rw [h] at ho
  cases ho

theorem isSome_refreshAfter (u : Nat) {before now : Option Command} {timer : Option Nat}
    (h : timer.isSome = before.isSome) : (refreshAfter u before now timer).isSome = now.isSome := by
  unfold refreshAfter
  split
  · next e => rw [h, e]
  · cases now <;> rfl

theorem Touch.refreshAt {s t : State} (h : Touch s t) (device : t.sdu.device = s.sdu.device) (hr : Rising s.imap) {k : Nat}
    (p : RefreshAt s k) : RefreshAt t k := by
  cases h with
  | still map port => exact refreshAt_of_entry (by rw [map]) device p
  | notice b map port => exact refreshAt_of_entry (by rw [map]) device p
  | input j e d d' entry input map port =>
    by_cases hk : k = j
    · subst hk
      refine refreshAt_of_input (e := { e with body := .input d' }) (d := d') ?_ rfl
      rw [map]
      exact entryAt_setBody_same (entry hr) _
    · refine refreshAt_of_entry ?_ device p
      rw [map]
      exact entryAt_setBody_other s hk _
  | image j e o o' image safe timer entry others port =>
    by_cases hk : k = j
    · subst hk
      refine refreshAt_of_image entry ?_
      rw [timer, device]
      exact isSome_refreshAfter _ (p e o image)
    · exact refreshAt_of_entry (others k hk) device p
  | offer j e o cmd image now entry others port =>
    by_cases hk : k = j
    · subst hk
      refine refreshAt_of_image entry ?_
      rw [device, outgoing_refresh, now]
      rfl
    · exact refreshAt_of_entry (others k hk) device p

theorem Does.refreshAt {s t : State} (h : Does o c s t) (hr : Rising s.imap) {k : Nat} (p : RefreshAt s k) : RefreshAt t k :=
  (h.keeps (P := fun u => Rising u.imap ∧ RefreshAt u k) (fun _ _ hk ⟨hr, p⟩ =>
    ⟨rising_of_shapes (hk.shapes hr) hr, hk.touch.refreshAt (congrArg Sdu.device hk.sdu) hr p⟩) ⟨hr, p⟩).2

/-- While TRIPPED every outgoing command is a command, and the offers of all safe values start every timer (R162). -/
theorem refreshAt_forceAllSafe {s : State} (hr : Rising s.imap) (hd : s.forceAllSafe.sdu.device = .tripped) (k : Nat) :
    RefreshAt s.forceAllSafe k := by
  intro e o hi
  have entry := entryAt_forceAllSafe hr k
  rw [hi.1, eq_comm, Option.map_eq_some_iff] at entry
  obtain ⟨e', _, rfl⟩ := entry
  cases hb : e'.body with
  | input d =>
    have hi' := hi.2
    rw [mapImage_of_input hb, hb] at hi'
    cases hi'
  | output o' =>
    have hi' := hi.2
    rw [mapImage_of_output hb] at hi'
    cases hi'
    rw [hd]
    rfl

theorem refreshOk_addTripCause {s : State} (hr : Rising s.imap) (added : TripCauses) (p : RefreshOk s) :
    RefreshOk (s.addTripCause added) := by
  unfold State.addTripCause
  split
  · obtain ⟨u, hu, before, device, after⟩ := tripEntry_forced s added
    rw [hu, refreshOk_iff]
    exact refreshAt_forceAllSafe (before.rising hr) (by rw [after.sdu]; exact device)
  · exact p

theorem Turning.refreshOk {s t : State} (h : Turning c s t) (hr : Rising s.imap) (p : RefreshOk s) : RefreshOk t :=
  (h.keeps (P := fun u => Rising u.imap ∧ RefreshOk u)
    (fun _ _ hd ⟨hr, p⟩ => ⟨hd.rising hr, (refreshOk_iff _).mpr fun k => hd.refreshAt hr ((refreshOk_iff _).mp p k)⟩)
    (fun u added ⟨hr, p⟩ => ⟨rising_of_shapes ((turn_addTripCause u added).shapes hr) hr, refreshOk_addTripCause hr added p⟩)
    ⟨hr, p⟩).2

/-- On the return to RUN each timer follows the change from the safe value (R163). -/
theorem refreshOk_enterRun {s : State} (hr : Rising s.imap) (tripped : s.sdu.device = .tripped) (p : RefreshOk s) :
    RefreshOk s.enterRun := by
  rw [refreshOk_iff] at p ⊢
  intro k e o hi
  have entry := entryAt_enterRun hr k
  rw [hi.1, eq_comm, Option.map_eq_some_iff] at entry
  obtain ⟨e', he', rfl⟩ := entry
  cases hb : e'.body with
  | input d =>
    have hi' := hi.2
    rw [mapImage_of_input hb, hb] at hi'
    cases hi'
  | output o' =>
    have hi' := hi.2
    rw [mapImage_of_output hb] at hi'
    cases hi'
    rw [device_enterRun, returned, outgoing_refresh]
    refine isSome_refreshAfter _ ?_
    rw [p k e' o' ⟨he', hb⟩, tripped]
    rfl

/-- An absent entry has no timer. -/
theorem refreshAt_of_none {s : State} {k : Nat} (h : entryAt s.imap k = none) : RefreshAt s k := by
  rintro e o ⟨he, _⟩
  rw [h] at he
  cases he

theorem refreshOk_withdraw {s : State} (hr : Rising s.imap) (k : Nat) (e : MapEntry) (p : RefreshOk s) :
    RefreshOk (s.withdraw k e) := by
  rw [refreshOk_iff] at p ⊢
  intro m
  refine (does_checkOwner (c := true) { s with imap := dropEntry s.imap k } e.role e.owner).refreshAt
    (rising_dropEntry hr k) ?_
  by_cases hm : m = k
  · exact refreshAt_of_none (by rw [entryAt_dropEntry, if_pos hm])
  · exact refreshAt_of_entry (s := s) (by rw [entryAt_dropEntry, if_neg hm]) rfl (p m)

/-- A new image is settled from no command, whatever its timer (R22, R161). -/
theorem refreshAt_settled {s : State} {k : Nat} {e : MapEntry} {o : Output} (h : Images s k e o) (fresh : o.refresh = none) :
    RefreshAt (s.settleOutput k none) k := by
  obtain ⟨entry, _, _⟩ := settleOutput_image h none
  refine refreshAt_of_image entry ?_
  rw [(onlyMap_settleOutput s k none).sdu, outgoing_refresh]
  exact isSome_refreshAfter _ (by rw [fresh]; rfl)

theorem newBody_output {w : MapWrite} {i : Output} (h : newBody w = .output i) : i.refresh = none := by
  unfold newBody at h
  split at h
  · cases h; rfl
  · cases h

theorem refreshOk_takeEntry {s : State} (hr : Rising s.imap) (k : Nat) (w : MapWrite)
    (entry : entryAt s.imap k = some (newEntry w)) (p : ∀ m, m ≠ k → RefreshAt s m) : RefreshOk (s.takeEntry k w) := by
  cases h : newBody w with
  | input d =>
    refine (takeEntry_input h).refreshOk hr ((refreshOk_iff s).mpr fun m => ?_)
    by_cases hm : m = k
    · subst hm
      exact refreshAt_of_input entry h
    · exact p m hm
  | output i =>
    have image : Images s k (newEntry w) i := ⟨entry, h⟩
    refine (refreshOk_iff _).mpr fun m => (takeEntry_output h).refreshAt
      (rising_of_shapes ((inner_settleOutput s k none).shapes hr) hr) ?_
    by_cases hm : m = k
    · subst hm
      exact refreshAt_settled image (newBody_output h)
    · exact refreshAt_of_entry ((settleOutput_image image none).2.1 m hm)
        (by rw [(onlyMap_settleOutput s k none).sdu]) (p m hm)

theorem refreshOk_writeEntry {s : State} (hr : Rising s.imap) (k : Nat) (w : MapWrite) (p : RefreshOk s) :
    RefreshOk (s.writeEntry k w) := by
  obtain ⟨a, z, before, after, hz⟩ := writeEntry_stages s k w
  have ha : Rising a.imap ∧ RefreshOk a := by
    rcases before with rfl | ⟨old, rfl, _⟩
    · exact ⟨hr, p⟩
    · exact ⟨rising_withdraw (s := s.clearIndex k) hr k old, refreshOk_withdraw (s := s.clearIndex k) hr k old p⟩
  have hput : Rising (putEntry a.imap k (newEntry w)) := rising_putEntry ha.1 k _
  rw [hz, refreshOk_iff]
  refine fun m => after.refreshAt (rising_takeEntry (s := { a with imap := putEntry a.imap k (newEntry w) }) hput k w) ?_
  refine (refreshOk_iff _).mp (refreshOk_takeEntry (s := { a with imap := putEntry a.imap k (newEntry w) }) hput k w
    (by rw [entryAt_putEntry, if_pos rfl]) fun j hj => ?_) m
  exact refreshAt_of_entry (s := a) (by rw [entryAt_putEntry, if_neg hj]) rfl ((refreshOk_iff a).mp ha.2 j)

/-- Every deed keeps the law of the refresh timers. -/
theorem Deed.refreshOk {s t : State} (h : Deed s t) (hr : Rising s.imap) (p : RefreshOk s) : RefreshOk t := by
  cases h with
  | turning t h => exact h.refreshOk hr p
  | aside t imap device =>
    rw [refreshOk_iff] at p ⊢
    exact fun k => refreshAt_of_entry (by rw [imap]) device (p k)
  | drive k e o cmd =>
    have touched := touch_changeOutput s k (fun o => { o with latch := cmd, direction := .drive }) (fun _ => rfl) (fun _ => rfl)
    rw [refreshOk_iff] at p ⊢
    exact fun m => touched.refreshAt (by rw [(onlyMap_changeOutput s k _).sdu]) hr (p m)
  | enterRun tripped => exact refreshOk_enterRun hr tripped p
  | load k w => exact refreshOk_writeEntry hr k w p
  | unload k e =>
    rw [refreshOk_iff]
    refine fun m => (removeEntry_after s k e).refreshAt (rising_withdraw (s := s.clearIndex k) hr k e) ?_
    exact (refreshOk_iff _).mp (refreshOk_withdraw (s := s.clearIndex k) hr k e p) m
  | fresh b =>
    rw [refreshOk_iff]
    exact fun m => refreshAt_of_none (by rw [imap_powerOn]; rfl)

/-- Every step keeps the law of the refresh timers. -/
theorem refreshOk_step {s t : State} (hs : step s = .next t) (hr : Rising s.imap) (p : RefreshOk s) : RefreshOk t :=
  (step_keeps_of_deeds (P := fun u => Rising u.imap ∧ RefreshOk u) (fun _ _ h => h)
    (fun _ _ hd ⟨hr, p⟩ => ⟨hd.rising hr, hd.refreshOk hr p⟩) hs ⟨hr, p⟩).2

end Sys2Proof.Machine
end

section
/-! The LIQ_CMD latches (R159): the law of every image, index by index, over a map in its whole form. -/

namespace Sys2Proof.Machine

variable {o c : Bool}

/-! ## The map in its whole form -/

theorem Does.mapOk {s t : State} (h : Does o c s t) (hm : MapOk s.imap) : MapOk t.imap :=
  mapOk_of_shapes (h.shapes hm.rising) hm

theorem Turning.mapOk {s t : State} (h : Turning c s t) (hm : MapOk s.imap) : MapOk t.imap :=
  mapOk_of_shapes (h.shapes hm.rising) hm

theorem mapOk_dropEntry {m : List (Nat × MapEntry)} (h : MapOk m) (k : Nat) : MapOk (dropEntry m k) :=
  ⟨rising_dropEntry h.rising k, fun p hp => h.index p (List.mem_of_mem_filter hp), h.keys.sublist List.filter_sublist,
    h.owners.sublist List.filter_sublist, fun p hp => h.suits p (List.mem_of_mem_filter hp)⟩

theorem mem_putEntry {m : List (Nat × MapEntry)} (hr : Rising m) {k : Nat} {e : MapEntry} {p : Nat × MapEntry}
    (h : p ∈ putEntry m k e) : p = (k, e) ∨ (p ∈ m ∧ p.1 ≠ k) := by
  obtain ⟨j, d⟩ := p
  have entry := entryAt_of_mem (rising_putEntry hr k e) h
  rw [entryAt_putEntry] at entry
  split at entry
  · next hj =>
    cases entry
    exact .inl (by rw [hj])
  · next hj => exact .inr ⟨mem_of_entryAt entry, hj⟩

/-- A relation that a new entry has to every other entry holds throughout the map (R17, R18). -/
theorem pairwise_putEntry {R : Nat × MapEntry → Nat × MapEntry → Prop} (hs : ∀ a b, R a b → R b a)
    {m : List (Nat × MapEntry)} (hr : Rising m) (h : m.Pairwise R) {k : Nat} {e : MapEntry}
    (new : ∀ p ∈ m, p.1 ≠ k → R (k, e) p) : (putEntry m k e).Pairwise R := by
  have : Std.Symm R := ⟨hs⟩
  have nodup : (putEntry m k e).Nodup := by
    refine List.Nodup.of_map (·.1) ?_
    exact (rising_putEntry hr k e).imp fun x => Nat.ne_of_lt x
  refine nodup.pairwise_of_forall_ne fun a ha b hb hab => ?_
  rcases mem_putEntry hr ha with rfl | ⟨ha, hak⟩
  · rcases mem_putEntry hr hb with rfl | ⟨hb, hbk⟩
    · exact absurd rfl hab
    · exact new b hb hbk
  · rcases mem_putEntry hr hb with rfl | ⟨hb, hbk⟩
    · exact hs _ _ (new a ha hak)
    · exact h.forall ha hb hab

theorem duplicates_eq_false {m : List (Nat × MapEntry)} {k : Nat} {w : MapWrite} (h : duplicates m k w = false)
    {p : Nat × MapEntry} (hp : p ∈ m) (hk : p.1 ≠ k) : ¬ (p.2.node = w.node ∧ p.2.channel = w.channel) ∧
      ¬ (w.role ≠ .gas ∧ p.2.role = w.role ∧ p.2.owner = w.owner) := by
  unfold duplicates at h
  have := List.any_eq_false.mp h p hp
  simp only [Bool.and_eq_true, Bool.or_eq_true, decide_eq_true_eq] at this
  exact ⟨fun x => this ⟨hk, .inl x⟩, fun x => this ⟨hk, .inr ⟨⟨x.1, x.2.1⟩, x.2.2⟩⟩⟩

theorem writeInRange_suits {adr : Option Byte} {w : MapWrite} (h : writeInRange adr w = true) :
    ownerOk w.role w.owner = true ∧ safeOk w.role w.safe = true := by
  unfold writeInRange at h
  simp only [Bool.and_eq_true] at h
  obtain ⟨⟨⟨_, owner⟩, _⟩, safe⟩ := h
  exact ⟨owner, safe⟩

/-- The body of a new entry is an image exactly at an output role (R18, R22). -/
theorem image_newEntry {adr : Option Byte} {w : MapWrite} (h : writeInRange adr w = true) :
    (newEntry w).image.isSome = w.role.isOutput := by
  have safe := (writeInRange_suits h).2
  unfold newEntry newBody MapEntry.image
  cases hr : w.role.isOutput with
  | false => rfl
  | true =>
    unfold safeOk at safe
    rw [if_pos hr] at safe
    cases hc : commandOf w.safe with
    | none => rw [hc] at safe; cases safe
    | some x => rfl

theorem mapOk_putEntry {m : List (Nat × MapEntry)} (h : MapOk m) {k : Nat} {w : MapWrite} {adr : Option Byte}
    (index : k < 256) (range : writeInRange adr w = true) (single : duplicates m k w = false) :
    MapOk (putEntry m k (newEntry w)) := by
  refine ⟨rising_putEntry h.rising k _, fun p hp => ?_, ?_, ?_, fun p hp => ?_⟩
  · rcases mem_putEntry h.rising hp with rfl | ⟨hp, _⟩
    · exact index
    · exact h.index p hp
  · refine pairwise_putEntry (fun a b hab ⟨h1, h2⟩ => hab ⟨h1.symm, h2.symm⟩) h.rising h.keys fun p hp hk ⟨h1, h2⟩ => ?_
    exact (duplicates_eq_false single hp hk).1 ⟨h1.symm, h2.symm⟩
  · refine pairwise_putEntry (fun a b hab ⟨h1, h2, h3⟩ => hab ⟨h1.symm, h2.symm, by rw [← h1]; exact h3⟩) h.rising
      h.owners fun p hp hk ⟨h1, h2, h3⟩ => ?_
    exact (duplicates_eq_false single hp hk).2 ⟨h3, h1.symm, h2.symm⟩
  · rcases mem_putEntry h.rising hp with rfl | ⟨hp, _⟩
    · exact ⟨(writeInRange_suits range).1, image_newEntry range⟩
    · exact h.suits p hp

theorem duplicates_of_shapes {m n : List (Nat × MapEntry)} (h : shapes n = shapes m) (k : Nat) (w : MapWrite) :
    duplicates n k w = duplicates m k w := by
  induction n generalizing m with
  | nil =>
    cases m with
    | nil => rfl
    | cons p m => simp [shapes] at h
  | cons q n ih =>
    cases m with
    | nil => simp [shapes] at h
    | cons p m =>
      simp only [shapes, List.map_cons, List.cons.injEq] at h
      obtain ⟨hqp, hrest⟩ := h
      rw [entryShape_eq_iff] at hqp
      obtain ⟨hindex, hnode, hchannel, hrole, howner, _, _⟩ := hqp
      have hih := ih hrest
      unfold duplicates at hih ⊢
      rw [List.any_cons, List.any_cons, hih, hindex, hnode, hchannel, hrole, howner]

theorem duplicates_dropEntry {m : List (Nat × MapEntry)} {k : Nat} {w : MapWrite} (h : duplicates m k w = false) :
    duplicates (dropEntry m k) k w = false := by
  unfold duplicates at h ⊢
  rw [List.any_eq_false] at h ⊢
  exact fun p hp => h p (List.mem_of_mem_filter hp)

/-- What precedes the new entry keeps the map whole and the write single (R20, R22). -/
theorem mapOk_before_put {s a : State} {k : Nat} {w : MapWrite} (hm : MapOk s.imap) (single : duplicates s.imap k w = false)
    (before : a = s.clearIndex k ∨ ∃ old, a = (s.clearIndex k).withdraw k old ∧ entryAt s.imap k = some old) :
    MapOk a.imap ∧ duplicates a.imap k w = false := by
  rcases before with rfl | ⟨old, rfl, _⟩
  · exact ⟨hm, single⟩
  · have told := (does_checkOwner (c := true) { s.clearIndex k with imap := dropEntry s.imap k } old.role old.owner).shapes
      (rising_dropEntry hm.rising k)
    exact ⟨mapOk_of_shapes told (mapOk_dropEntry hm k),
      (duplicates_of_shapes told k w).trans (duplicates_dropEntry single)⟩

theorem mapOk_writeEntry {s : State} {k : Nat} {w : MapWrite} (hm : MapOk s.imap) (index : k < 256)
    (range : writeInRange s.rpu.address w = true) (single : duplicates s.imap k w = false) :
    MapOk (s.writeEntry k w).imap := by
  obtain ⟨a, z, before, after, hz⟩ := writeEntry_stages s k w
  obtain ⟨ha, hs⟩ := mapOk_before_put hm single before
  have put : MapOk (putEntry a.imap k (newEntry w)) := mapOk_putEntry ha index range hs
  rw [hz]
  refine after.mapOk ?_
  cases h : newBody w with
  | input d => exact (takeEntry_input (s := { a with imap := putEntry a.imap k (newEntry w) }) h).mapOk put
  | output i =>
    refine (takeEntry_output (s := { a with imap := putEntry a.imap k (newEntry w) }) h).mapOk ?_
    exact mapOk_of_shapes ((inner_settleOutput { a with imap := putEntry a.imap k (newEntry w) } k none).shapes put.rising) put

theorem mapOk_withdraw {s : State} (hm : MapOk s.imap) (k : Nat) (e : MapEntry) : MapOk (s.withdraw k e).imap :=
  (does_checkOwner (c := true) { s with imap := dropEntry s.imap k } e.role e.owner).mapOk (mapOk_dropEntry hm k)

/-- Every deed keeps the map in its whole form. -/
theorem Deed.mapOk {s t : State} (h : Deed s t) (hm : MapOk s.imap) : MapOk t.imap := by
  cases h with
  | turning t h => exact h.mapOk hm
  | aside t imap => rw [imap]; exact hm
  | drive k e o cmd =>
    exact mapOk_of_shapes
      ((inner_changeOutput s k (fun o => { o with latch := cmd, direction := .drive }) fun _ => rfl).shapes hm.rising) hm
  | enterRun => exact mapOk_of_shapes ((inner_returnAllOutputs s.runMark).shapes hm.rising) hm
  | load k w index range single => exact mapOk_writeEntry hm index range single
  | unload k e => exact (removeEntry_after s k e).mapOk (mapOk_withdraw (s := s.clearIndex k) hm k e)
  | fresh b => rw [imap_powerOn]; exact mapOk_nil

/-! ## The law of a LIQ_CMD latch -/

/-- The image at an index is no LIQ_CMD latch at OPEN, but while its spot is UNLOADING (R159). -/
def LiquidAt (s : State) (k : Nat) : Prop :=
  ∀ e o, Images s k e o → e.role = .liqCmd → o.latch = .opened →
    ∃ i, spotId e.owner = some i ∧ (s.spot i).state = .unloading

theorem liquidOk_iff (s : State) : LiquidOk s ↔ ∀ k, LiquidAt s k :=
  ⟨fun h k e o hi => h k e o hi.1 hi.2, fun h k e o he ho => h k e o ⟨he, ho⟩⟩

theorem liquidAt_of_entry {s t : State} {k : Nat} (entry : entryAt t.imap k = entryAt s.imap k)
    (states : ∀ i, (s.spot i).state = .unloading → (t.spot i).state = .unloading) (h : LiquidAt s k) : LiquidAt t k := by
  intro e o hi hrole hl
  obtain ⟨i, hi1, hi2⟩ := h e o ⟨entry ▸ hi.1, hi.2⟩ hrole hl
  exact ⟨i, hi1, states i hi2⟩

theorem liquidAt_of_none {s : State} {k : Nat} (h : entryAt s.imap k = none) : LiquidAt s k := by
  rintro e o ⟨he, _⟩
  rw [h] at he
  cases he

theorem liquidAt_of_input {t : State} {k : Nat} {e : MapEntry} {d : Dynamic} (entry : entryAt t.imap k = some e)
    (h : e.body = .input d) : LiquidAt t k := by
  rintro e' o' ⟨he, ho⟩
  rw [entry] at he
  cases he
  rw [h] at ho
  cases ho

/-- An image with its latch as before, or away from OPEN. -/
theorem liquidAt_of_image {s t : State} {k j : Nat} {e : MapEntry} {a b : Output} (image : Images s j e a)
    (entry : entryAt t.imap j = some (e.withImage b)) (others : ∀ m, m ≠ j → entryAt t.imap m = entryAt s.imap m)
    (states : ∀ i, (s.spot i).state = .unloading → (t.spot i).state = .unloading)
    (latch : e.role = .liqCmd → b.latch = a.latch ∨ b.latch ≠ .opened) (h : LiquidAt s k) : LiquidAt t k := by
  by_cases hk : k = j
  · subst hk
    rintro e' o' ⟨he, ho⟩ hrole hl
    rw [entry] at he
    cases he
    cases ho
    rcases latch hrole with e1 | e1
    · obtain ⟨i, hi1, hi2⟩ := h e a image hrole (e1.symm.trans hl)
      exact ⟨i, hi1, states i hi2⟩
    · exact absurd hl e1
  · exact liquidAt_of_entry (others k hk) states h

theorem liquidAt_changeOutput {s : State} {k : Nat} (j : Nat) (f : Output → Output)
    (latch : ∀ e a, Images s j e a → e.role = .liqCmd → (f a).latch = a.latch ∨ (f a).latch ≠ .opened) (h : LiquidAt s k) :
    LiquidAt (s.changeOutput j f) k := by
  by_cases hi : ∃ e a, Images s j e a
  · obtain ⟨e, a, hi⟩ := hi
    obtain ⟨entry, others, _⟩ := changeOutput_image hi f
    exact liquidAt_of_image hi entry others (fun i hs => by rw [(onlyMap_changeOutput s j f).spot]; exact hs)
      (latch e a hi) h
  · rw [changeOutput_none fun e a hi' => hi ⟨e, a, hi'⟩]
    exact h

/-- A latch write changes nothing, or the image of the role's entry (R158). -/
theorem writeLatch_cases {s : State} (hr : Rising s.imap) (r : Role) (w : Nat) (cmd : Command) :
    s.writeLatch r w cmd = s ∨ ∃ j e o, (e.role = r ∧ e.owner = w) ∧ Images s j e o ∧
      s.writeLatch r w cmd = s.changeOutput j (fun o => { o with latch := cmd }) := by
  unfold State.writeLatch
  split
  · next j e hf =>
    split
    · next o ho =>
      split
      · exact .inl rfl
      · exact .inr ⟨j, e, o, findRole_role hf, ⟨entryAt_of_findRole hr hf, ho⟩, rfl⟩
    · exact .inl rfl
  · exact .inl rfl

theorem liquidAt_writeLatch {s : State} {k : Nat} (hr : Rising s.imap) (r : Role) (w : Nat) (cmd : Command)
    (closed : r = .liqCmd → cmd = .closed) (h : LiquidAt s k) : LiquidAt (s.writeLatch r w cmd) k := by
  rcases writeLatch_cases hr r w cmd with e | ⟨j, e, o, hrole, image, e1⟩
  · rw [e]
    exact h
  · rw [e1]
    refine liquidAt_changeOutput j _ (fun e' a hi hrole' => .inr ?_) h
    have same := image.1.symm.trans hi.1
    cases same
    rw [closed (hrole.1.symm.trans hrole')]
    exact fun x => by cases x

/-- A spot whose liquid valve opens is UNLOADING after the move (R69, R101). -/
theorem liquidAt_opening {s : State} {k : Nat} (hr : Rising s.imap) (i : SpotId) (f : SpotContext → SpotContext)
    (state : (f (s.spot i)).state = .unloading) (h : LiquidAt s k) :
    LiquidAt ((s.writeValve .liqCmd i .opened).modSpot i f) k := by
  have only : OnlyMap s (s.writeValve .liqCmd i .opened) := onlyMap_writeLatch s .liqCmd (spotNumber i) .opened
  have after : (((s.writeValve .liqCmd i .opened).modSpot i f).spot i).state = .unloading := by
    rw [spot_modSpot, if_pos rfl, only.spot i]
    exact state
  have states : ∀ j, (s.spot j).state = .unloading →
      (((s.writeValve .liqCmd i .opened).modSpot i f).spot j).state = .unloading := fun j hj => by
    by_cases hji : j = i
    · subst hji
      exact after
    · rw [spot_modSpot_other _ _ hji, only.spot j]
      exact hj
  rcases writeLatch_cases hr .liqCmd (spotNumber i) .opened with e | ⟨j, e, a, hrole, image, e1⟩
  · exact liquidAt_of_entry (congrArg (fun u => entryAt u.imap k) e) states h
  · obtain ⟨entry, others, _⟩ := changeOutput_image image (fun o => { o with latch := .opened })
    rw [← e1] at entry others
    by_cases hk : k = j
    · subst hk
      rintro e' o' ⟨he, ho⟩ _ _
      have same := he.symm.trans entry
      cases same
      refine ⟨i, ?_, after⟩
      change spotId e.owner = some i
      rw [hrole.2, spotId_spotNumber]
    · exact liquidAt_of_entry (others k hk) states h

theorem Move.liquidAt {s t : State} (h : Move ⟨o, c, True⟩ s t) (hm : MapOk s.imap) {k : Nat} (p : LiquidAt s k) :
    LiquidAt t k := by
  cases h with
  | notice b => exact liquidAt_of_entry (s := s) rfl (fun _ h => h) p
  | conditions i now =>
    refine liquidAt_of_entry ?_ (fun j hj => by rw [spot_storeConditions]; exact hj) p
    unfold State.storeConditions
    simp only
    split <;> rfl
  | context i f figures tally liquid =>
    intro e a hi hrole hl
    obtain ⟨j, hj1, hj2⟩ := p e a hi hrole hl
    refine ⟨j, hj1, ?_⟩
    by_cases hji : j = i
    · subst hji
      rw [spot_modSpot, if_pos rfl]
      by_contra hne
      exact liquid trivial hj2 hne k e a hi hrole (spotId_eq_some hj1) hl
    · rw [spot_modSpot_other _ _ hji]
      exact hj2
  | credit i f allowed state =>
    refine liquidAt_of_entry (s := s) rfl (fun j hj => ?_) p
    by_cases hji : j = i
    · subst hji
      rw [spot_modSpot, if_pos rfl, state]
      exact hj
    · rw [spot_modSpot_other _ _ hji]
      exact hj
  | opening i f allowed figures tally state => exact liquidAt_opening hm.rising i f state p
  | compressor k f => exact liquidAt_of_entry (s := s) rfl (fun _ h => h) p
  | lists l cars => exact liquidAt_of_entry (s := s) rfl (fun _ h => h) p
  | latch r owner cmd closed => exact liquidAt_writeLatch hm.rising r owner cmd closed p
  | monitor j => exact liquidAt_changeOutput j _ (fun _ _ _ _ => .inl rfl) p
  | offer j e a cmd image =>
    obtain ⟨entry, others, _⟩ := offerCommand_image image cmd
    exact liquidAt_of_image image entry others (fun i hs => by rw [(onlyMap_offerCommand s j cmd).spot]; exact hs)
      (fun _ => .inl rfl) p
  | sample j e d d' entry input =>
    by_cases hk : k = j
    · subst hk
      exact liquidAt_of_input (e := { e with body := .input d' }) (entryAt_setBody_same (entry hm.rising) _) rfl
    · exact liquidAt_of_entry (entryAt_setBody_other s hk _)
        (fun i hs => by rw [(onlyMap_setBody s j _).spot]; exact hs) p

theorem Does.liquidAt {s t : State} (h : Does o c s t) (hm : MapOk s.imap) {k : Nat} (p : LiquidAt s k) : LiquidAt t k :=
  h.keeps_whole (P := fun u => LiquidAt u k) (fun _ _ hm hk hp => hk.liquidAt hm hp) hm p

theorem liquidAt_addTripCause {s : State} (hm : MapOk s.imap) (added : TripCauses) {k : Nat} (p : LiquidAt s k) :
    LiquidAt (s.addTripCause added) k := by
  unfold State.addTripCause
  split
  · obtain ⟨u, hu, before, _, after⟩ := tripEntry_forced s added
    rw [hu]
    exact (before.trans after).liquidAt (s := s.tripMark added) hm (liquidAt_of_entry (s := s) rfl (fun _ h => h) p)
  · exact liquidAt_of_entry (s := s) rfl (fun _ h => h) p

theorem Turning.liquidAt {s t : State} (h : Turning c s t) (hm : MapOk s.imap) {k : Nat} (p : LiquidAt s k) :
    LiquidAt t k :=
  (h.keeps (P := fun u => MapOk u.imap ∧ LiquidAt u k) (fun _ _ hd ⟨hm, p⟩ => ⟨hd.mapOk hm, hd.liquidAt hm p⟩)
    (fun u added ⟨hm, p⟩ => ⟨mapOk_of_shapes ((turn_addTripCause u added).shapes hm.rising) hm,
      liquidAt_addTripCause hm added p⟩) ⟨hm, p⟩).2

theorem liquidAt_withdraw {s : State} (hm : MapOk s.imap) (j : Nat) (e : MapEntry) {k : Nat} (p : LiquidAt s k) :
    LiquidAt (s.withdraw j e) k := by
  refine (does_checkOwner (c := true) { s with imap := dropEntry s.imap j } e.role e.owner).liquidAt
    (mapOk_dropEntry hm j) ?_
  by_cases hk : k = j
  · exact liquidAt_of_none (by rw [entryAt_dropEntry, if_pos hk])
  · exact liquidAt_of_entry (s := s) (by rw [entryAt_dropEntry, if_neg hk]) (fun _ h => h) p

/-- The latch of a new LIQ_CMD entry is brought to CLOSED, whatever its safe value (R22, R157). -/
theorem liquidAt_takeEntry {s : State} (hm : MapOk s.imap) {k : Nat} {w : MapWrite}
    (entry : entryAt s.imap k = some (newEntry w)) (p : ∀ m, m ≠ k → LiquidAt s m) (m : Nat) :
    LiquidAt (s.takeEntry k w) m := by
  cases h : newBody w with
  | input d =>
    refine (takeEntry_input h).liquidAt hm ?_
    by_cases hk : m = k
    · subst hk
      exact liquidAt_of_input entry h
    · exact p m hk
  | output i =>
    have image : Images s k (newEntry w) i := ⟨entry, h⟩
    obtain ⟨entry', others, _⟩ := settleOutput_image image none
    have only := onlyMap_settleOutput s k none
    have hm' : MapOk (s.settleOutput k none).imap := mapOk_of_shapes ((inner_settleOutput s k none).shapes hm.rising) hm
    have settled : ∀ j, j ≠ k → LiquidAt (s.settleOutput k none) j := fun j hj =>
      liquidAt_of_entry (others j hj) (fun x hx => by rw [only.spot]; exact hx) (p j hj)
    have owner : w.role = .liqCmd → ∃ x, w.owner = spotNumber x := fun hl => by
      have suits := (hm.suits _ (mem_of_entryAt entry)).1
      change ownerOk w.role w.owner = true at suits
      rw [hl] at suits
      have bounds : 1 ≤ w.owner ∧ w.owner ≤ 16 := by simpa [ownerOk, Role.ownerKind] using suits
      exact ⟨⟨w.owner - 1, by omega⟩, by simp [spotNumber]; omega⟩
    unfold State.takeEntry
    simp only [h]
    refine (does_checkOwner (c := true) _ _ _).liquidAt ?_ ?_
    · split
      · exact mapOk_of_shapes ((inner_writeLatch (s.settleOutput k none) _ _ _).shapes hm'.rising) hm'
      · exact hm'
    · split
      · next hl =>
        obtain ⟨x, hx⟩ := owner hl
        rw [hx]
        by_cases hk : m = k
        · subst hk
          intro e a hi hrole ha
          refine absurd ha (shut_writeClosed (s.settleOutput m none) x hm' m e a hi hrole ?_)
          have shape := (inner_writeValve (s.settleOutput m none) .liqCmd x .closed).shapes hm'.rising
          rcases findRole_of_shapes shape .liqCmd (spotNumber x) with ⟨none, _⟩ | ⟨j, a1, a2, h1, h2, _⟩
          · have := List.find?_eq_none.mp none (m, (newEntry w).withImage _) (mem_of_entryAt entry')
            simp [MapEntry.withImage, newEntry, hl, hx] at this
          · have hm2 : MapOk ((s.settleOutput m none).writeValve .liqCmd x .closed).imap := mapOk_of_shapes shape hm'
            have hj : j = m := hm'.role_unique (entryAt_of_findRole hm'.rising h1) entry'
              ((findRole_role h1).1.trans hl.symm) ((findRole_role h1).2.trans hx.symm) (by
                rw [(findRole_role h1).1]; decide)
            subst hj
            have same := (entryAt_of_findRole hm2.rising h2).symm.trans hi.1
            cases same
            exact (findRole_role h2).2
        · exact liquidAt_writeLatch hm'.rising _ _ _ (fun _ => rfl) (settled m hk)
      · next hl =>
        by_cases hk : m = k
        · subst hk
          rintro e a ⟨he, _⟩ hrole
          rw [entry'] at he
          cases he
          exact absurd hrole hl
        · exact settled m hk

theorem liquidOk_writeEntry {s : State} (hm : MapOk s.imap) {k : Nat} {w : MapWrite} (index : k < 256)
    (range : writeInRange s.rpu.address w = true) (single : duplicates s.imap k w = false) (p : LiquidOk s) :
    LiquidOk (s.writeEntry k w) := by
  obtain ⟨a, z, before, after, hz⟩ := writeEntry_stages s k w
  obtain ⟨ha, hs⟩ := mapOk_before_put hm single before
  rw [liquidOk_iff] at p ⊢
  have hl : ∀ m, LiquidAt a m := fun m => by
    rcases before with rfl | ⟨old, rfl, _⟩
    · exact liquidAt_of_entry (s := s) rfl (fun _ h => h) (p m)
    · exact liquidAt_withdraw (s := s.clearIndex k) hm k old (liquidAt_of_entry (s := s) rfl (fun _ h => h) (p m))
  have put : MapOk (putEntry a.imap k (newEntry w)) := mapOk_putEntry ha index range hs
  rw [hz]
  intro m
  refine after.liquidAt ?_ ?_
  · cases h : newBody w with
    | input d => exact (takeEntry_input (s := { a with imap := putEntry a.imap k (newEntry w) }) h).mapOk put
    | output i =>
      refine (takeEntry_output (s := { a with imap := putEntry a.imap k (newEntry w) }) h).mapOk ?_
      exact mapOk_of_shapes ((inner_settleOutput { a with imap := putEntry a.imap k (newEntry w) } k none).shapes put.rising) put
  · refine liquidAt_takeEntry (s := { a with imap := putEntry a.imap k (newEntry w) }) put
      (by rw [entryAt_putEntry, if_pos rfl]) (fun j hj => ?_) m
    exact liquidAt_of_entry (s := a) (by rw [entryAt_putEntry, if_neg hj]) (fun _ h => h) (hl j)

theorem liquidOk_enterRun {s : State} (hr : Rising s.imap) (p : LiquidOk s) : LiquidOk s.enterRun := by
  rw [liquidOk_iff] at p ⊢
  intro k e a hi hrole hl
  have entry := entryAt_enterRun hr k
  rw [hi.1, eq_comm, Option.map_eq_some_iff] at entry
  obtain ⟨e', he', rfl⟩ := entry
  cases hb : e'.body with
  | input d =>
    have hi' := hi.2
    rw [mapImage_of_input hb, hb] at hi'
    cases hi'
  | output o' =>
    have hi' := hi.2
    rw [mapImage_of_output hb] at hi' hrole ⊢
    cases hi'
    obtain ⟨i, hi1, hi2⟩ := p k e' o' ⟨he', hb⟩ hrole hl
    exact ⟨i, hi1, by rw [(onlyMap_enterRun s).spot]; exact hi2⟩

/-- Every deed keeps the law of the LIQ_CMD latches. -/
theorem Deed.liquidOk {s t : State} (h : Deed s t) (hm : MapOk s.imap) (p : LiquidOk s) : LiquidOk t := by
  cases h with
  | turning t h => exact (liquidOk_iff t).mpr fun k => h.liquidAt hm ((liquidOk_iff s).mp p k)
  | aside t imap device address actuates states =>
    rw [liquidOk_iff] at p ⊢
    exact fun k => liquidAt_of_entry (by rw [imap]) (fun i hi => (states i).trans hi) (p k)
  | drive k e a cmd image closed =>
    rw [liquidOk_iff] at p ⊢
    refine fun m => liquidAt_changeOutput k _ (fun e' a' hi hrole => .inr ?_) (p m)
    have same := image.1.symm.trans hi.1
    cases same
    exact closed hrole
  | enterRun => exact liquidOk_enterRun hm.rising p
  | load k w index range single => exact liquidOk_writeEntry hm index range single p
  | unload k e =>
    rw [liquidOk_iff] at p ⊢
    refine fun m => (removeEntry_after s k e).liquidAt (mapOk_withdraw (s := s.clearIndex k) hm k e) ?_
    exact liquidAt_withdraw (s := s.clearIndex k) hm k e (liquidAt_of_entry (s := s) rfl (fun _ h => h) (p m))
  | fresh b =>
    rw [liquidOk_iff]
    exact fun m => liquidAt_of_none (by rw [imap_powerOn]; rfl)

/-- Settles O57: each deed of a command keeps the law of every image, index by index. -/
theorem stepsKeepTheChannelLaws : Obligations.StepsKeepTheChannelLaws := by
  unfold Obligations.StepsKeepTheChannelLaws
  refine ⟨fun s t hs ⟨hm, p⟩ => ?_, fun s t hs ⟨hr, p⟩ => refreshOk_step hs hr p⟩
  exact (step_keeps_of_deeds (P := fun u => MapOk u.imap ∧ LiquidOk u) (fun _ _ h => h)
    (fun _ _ hd ⟨hm, p⟩ => ⟨hd.mapOk hm, hd.liquidOk hm p⟩) hs ⟨hm, p⟩).2

end Sys2Proof.Machine
end

section
/-! The actuation queue (R8, R160, R162): one queued actuate of an entry, with its key and its outgoing command; and the queues of the ring
port inside their capacities, with the reservation of the request held (R6, R7, R9, R11, R182). -/

namespace Sys2Proof.Machine

variable {o c : Bool}

/-! ## One queued actuate of an entry -/

/-- No index is queued twice, and in BAD_ADDRESS none is (R1, R8). -/
structure Single (r : Rpu) : Prop where
  once   : (r.actuates.map (·.index)).Nodup
  silent : r.address = none → r.actuates = []

theorem single_of_sublist {r r' : Rpu} (h : Single r) (address : r'.address = r.address)
    (sub : r'.actuates.Sublist r.actuates) : Single r' :=
  ⟨h.once.sublist (sub.map _), fun e => by
    have := h.silent (address.symm.trans e)
    rw [this] at sub
    exact List.sublist_nil.mp sub⟩

theorem index_queueActuate (a : Actuate) (q : List Actuate) :
    (queueActuate a q).map (·.index) = if a.index ∈ q.map (·.index) then q.map (·.index) else q.map (·.index) ++ [a.index] := by
  induction q with
  | nil => rfl
  | cons e q ih =>
    by_cases he : e.index = a.index
    · simp [queueActuate, he]
    · simp only [queueActuate, if_neg he, List.map_cons, ih, List.mem_cons]
      by_cases hq : a.index ∈ q.map (·.index)
      · rw [if_pos hq, if_pos (.inr hq)]
      · rw [if_neg hq, if_neg fun x => x.elim (fun y => he y.symm) hq]
        rfl

theorem nodup_queueActuate {a : Actuate} {q : List Actuate} (h : (q.map (·.index)).Nodup) :
    ((queueActuate a q).map (·.index)).Nodup := by
  rw [index_queueActuate]
  split
  · exact h
  · next ha => exact List.nodup_append.mpr ⟨h, List.nodup_singleton _, fun x hx y hy e => ha (by simp_all)⟩

theorem single_offerActuate {r : Rpu} (h : Single r) (a : Actuate) : Single (offerActuate a r) := by
  unfold offerActuate
  split
  · exact h
  · next adr ha =>
    have queued : Single { r with actuates := queueActuate a r.actuates } :=
      ⟨nodup_queueActuate h.once, fun e => by rw [show r.address = some adr from ha] at e; cases e⟩
    exact single_of_sublist queued (kick_step _).address (actuates_kick _)

theorem single_offerNotice {r : Rpu} (h : Single r) (b : List Byte) : Single (offerNotice b r) :=
  single_of_sublist h (offerNotice_step b r).address (actuates_offerNotice b r)

theorem single_dropActuate {r : Rpu} (h : Single r) (k : Nat) : Single (dropActuate k r) :=
  single_of_sublist h rfl List.filter_sublist

theorem single_portAfter {r : Rpu} (h : Single r) (k : Nat) (e : MapEntry) (before now : Option Command) :
    Single (portAfter k e before now r) := by
  unfold portAfter
  split
  · exact h
  · split
    · exact single_offerActuate h _
    · exact single_dropActuate h _

theorem Touch.single {s t : State} (h : Touch s t) (p : Single s.rpu) : Single t.rpu := by
  cases h with
  | still map port => rw [port]; exact p
  | notice b map port => rw [port]; exact single_offerNotice p b
  | input k e d d' entry input map port => rw [port]; exact p
  | image k e o o' image safe timer entry others port => rw [port]; exact single_portAfter p _ _ _ _
  | offer k e o cmd image now entry others port => rw [port]; exact single_offerActuate p _

theorem Does.single {s t : State} (h : Does o c s t) (p : Single s.rpu) : Single t.rpu :=
  h.keeps (P := fun u => Single u.rpu) (fun _ _ hk hp => hk.touch.single hp) p

/-! ## The names in the queue -/

/-- What is queued for an index names the image there by its key, and has a command that suits it. -/
def Named (suits : Output → Command → Prop) (s : State) (k : Nat) : Prop :=
  ∀ a ∈ s.rpu.actuates, a.index = k → ∃ e o, Images s k e o ∧ e.node = a.node ∧ e.channel = a.channel ∧ suits o a.command

/-- The outgoing command of a device state, where it matters. -/
def sendsIf (x : Prop) (device : Device) (o : Output) (cmd : Command) : Prop := x → outgoing device o = some cmd

theorem Named.imp {P Q : Output → Command → Prop} (h : ∀ o cmd, P o cmd → Q o cmd) {s : State} {k : Nat}
    (n : Named P s k) : Named Q s k := by
  intro a ha hk
  obtain ⟨e, o, hi, hn, hc, hp⟩ := n a ha hk
  exact ⟨e, o, hi, hn, hc, h _ _ hp⟩

/-- Fewer actuates beside the same entry. -/
theorem named_of_entry {P : Output → Command → Prop} {s t : State} {k : Nat} (entry : entryAt t.imap k = entryAt s.imap k)
    (sub : ∀ a ∈ t.rpu.actuates, a.index = k → a ∈ s.rpu.actuates) (n : Named P s k) : Named P t k := by
  intro a ha hk
  obtain ⟨e, o, hi, hrest⟩ := n a (sub a ha hk) hk
  exact ⟨e, o, ⟨entry.trans hi.1, hi.2⟩, hrest⟩

/-- The image changes beside the same queue. -/
theorem named_of_image {P Q : Output → Command → Prop} {s t : State} {k : Nat} {e : MapEntry} {a b : Output}
    (image : Images s k e a) (entry : entryAt t.imap k = some (e.withImage b))
    (sub : ∀ x ∈ t.rpu.actuates, x.index = k → x ∈ s.rpu.actuates) (suits : ∀ cmd, P a cmd → Q b cmd) (n : Named P s k) :
    Named Q t k := by
  intro x hx hk
  obtain ⟨e', a', hi, hn, hc, hp⟩ := n x (sub x hx hk) hk
  have same := image.1.symm.trans hi.1
  cases same
  have same := image.2.symm.trans hi.2
  cases same
  exact ⟨e.withImage b, b, ⟨entry, rfl⟩, hn, hc, suits _ hp⟩

theorem mem_queueActuate {a x : Actuate} {q : List Actuate} (once : (q.map (·.index)).Nodup) (h : x ∈ queueActuate a q) :
    (x.index ≠ a.index ∧ x ∈ q) ∨
      (x.index = a.index ∧ x.command = a.command ∧
        (x = a ∨ ∃ y ∈ q, y.index = a.index ∧ x.node = y.node ∧ x.channel = y.channel)) := by
  induction q with
  | nil =>
    rw [queueActuate, List.mem_singleton] at h
    subst h
    exact .inr ⟨rfl, rfl, .inl rfl⟩
  | cons e q ih =>
    rw [List.map_cons, List.nodup_cons] at once
    obtain ⟨hfirst, hrest⟩ := once
    by_cases he : e.index = a.index
    · rw [queueActuate, if_pos he, List.mem_cons] at h
      rcases h with rfl | h
      · exact .inr ⟨he, rfl, .inr ⟨e, List.mem_cons_self, he, rfl, rfl⟩⟩
      · refine .inl ⟨fun hx => hfirst ?_, List.mem_cons_of_mem _ h⟩
        exact List.mem_map.mpr ⟨x, h, hx.trans he.symm⟩
    · rw [queueActuate, if_neg he, List.mem_cons] at h
      rcases h with rfl | h
      · exact .inl ⟨he, List.mem_cons_self⟩
      · rcases ih hrest h with ⟨h1, h2⟩ | ⟨h1, h2, h3⟩
        · exact .inl ⟨h1, List.mem_cons_of_mem _ h2⟩
        · refine .inr ⟨h1, h2, h3.imp_right ?_⟩
          rintro ⟨y, hy, hrest⟩
          exact ⟨y, List.mem_cons_of_mem _ hy, hrest⟩

theorem mem_offerActuate {r : Rpu} (p : Single r) {a x : Actuate} (h : x ∈ (offerActuate a r).actuates) :
    x ∈ queueActuate a r.actuates := by
  unfold offerActuate at h
  split at h
  · next ha =>
    rw [p.silent ha] at h
    cases h
  · exact (actuates_kick _).mem h

/-- The image at an index is offered a command that suits it. -/
theorem named_offer_same {P Q : Output → Command → Prop} {s t : State} (p : Single s.rpu) {k : Nat} {e : MapEntry} {a b : Output}
    {cmd : Command} (image : Images s k e a) (entry : entryAt t.imap k = some (e.withImage b))
    (port : t.rpu = offerActuate ⟨k, e.node, e.channel, cmd⟩ s.rpu) (suits : Q b cmd) (n : Named P s k) : Named Q t k := by
  intro x hx hk
  rw [port] at hx
  rcases mem_queueActuate p.once (mem_offerActuate p hx) with ⟨hne, _⟩ | ⟨_, hcmd, hkey⟩
  · exact absurd hk hne
  · refine ⟨e.withImage b, b, ⟨entry, rfl⟩, ?_⟩
    rw [hcmd]
    rcases hkey with rfl | ⟨y, hy, hyk, hnode, hchannel⟩
    · exact ⟨rfl, rfl, suits⟩
    · obtain ⟨e', a', hi, hn, hc, _⟩ := n y hy hyk
      have same := image.1.symm.trans hi.1
      cases same
      exact ⟨hn.trans hnode.symm, hc.trans hchannel.symm, suits⟩

/-- An offer at another index. -/
theorem mem_of_offer_other {r : Rpu} (p : Single r) {a x : Actuate} {k : Nat} (hk : k ≠ a.index)
    (h : x ∈ (offerActuate a r).actuates) (hx : x.index = k) : x ∈ r.actuates := by
  rcases mem_queueActuate p.once (mem_offerActuate p h) with ⟨_, h⟩ | ⟨h, _⟩
  · exact h
  · exact absurd (hx.symm.trans h) hk

theorem mem_of_portAfter_other {r : Rpu} (p : Single r) {j k : Nat} {e : MapEntry} {before now : Option Command}
    (hk : k ≠ j) {x : Actuate} (h : x ∈ (portAfter j e before now r).actuates) (hx : x.index = k) : x ∈ r.actuates := by
  unfold portAfter at h
  split at h
  · exact h
  · split at h
    · exact mem_of_offer_other p hk h hx
    · exact List.mem_of_mem_filter h

/-- R160 at one image keeps what is queued for it the outgoing command. -/
theorem named_portAfter {x : Prop} {device : Device} {s t : State} (p : Single s.rpu) {k : Nat} {e : MapEntry} {a b : Output}
    (image : Images s k e a) (entry : entryAt t.imap k = some (e.withImage b))
    (port : t.rpu = portAfter k e (outgoing device a) (outgoing device b) s.rpu) (n : Named (sendsIf x device) s k) :
    Named (sendsIf x device) t k := by
  by_cases same : outgoing device b = outgoing device a
  · rw [same, portAfter_same] at port
    refine named_of_image image entry (fun y hy _ => by rw [← port]; exact hy) (fun cmd hcmd hx => ?_) n
    exact same.trans (hcmd hx)
  · cases now : outgoing device b with
    | some cmd =>
      rw [now] at same port
      rw [portAfter_some same] at port
      exact named_offer_same p image entry port (fun _ => now) n
    | none =>
      rw [now] at same port
      rw [portAfter_none same] at port
      intro y hy hk
      rw [port, dropActuate, List.mem_filter] at hy
      simp [hk] at hy

theorem Touch.named {x : Prop} {s t : State} (h : Touch s t) (hr : Rising s.imap) (p : Single s.rpu) {k : Nat}
    (n : Named (sendsIf x s.sdu.device) s k) : Named (sendsIf x s.sdu.device) t k := by
  cases h with
  | still map port => exact named_of_entry (by rw [map]) (fun a ha _ => by rw [← port]; exact ha) n
  | notice b map port =>
    refine named_of_entry (by rw [map]) (fun a ha _ => ?_) n
    rw [port] at ha
    exact (actuates_offerNotice b s.rpu).mem ha
  | input j e d d' entry input map port =>
    by_cases hk : k = j
    · subst hk
      intro a ha hak
      rw [port] at ha
      obtain ⟨e', o', ⟨he, ho⟩, _⟩ := n a ha hak
      have same := (entry hr).symm.trans he
      cases same
      rw [input] at ho
      cases ho
    · refine named_of_entry ?_ (fun a ha _ => by rw [← port]; exact ha) n
      rw [map]
      exact entryAt_setBody_other s hk _
  | image j e a b image safe timer entry others port =>
    by_cases hk : k = j
    · subst hk
      exact named_portAfter p image entry port n
    · refine named_of_entry (others k hk) (fun y hy hyk => ?_) n
      rw [port] at hy
      exact mem_of_portAfter_other p hk hy hyk
  | offer j e a cmd image now entry others port =>
    by_cases hk : k = j
    · subst hk
      refine named_offer_same p image entry port (fun _ => ?_) n
      rw [outgoing_refresh]
      exact now
    · refine named_of_entry (others k hk) (fun y hy hyk => ?_) n
      rw [port] at hy
      exact mem_of_offer_other p hk hy hyk

theorem Does.named {x : Prop} {s t : State} (h : Does o c s t) (hr : Rising s.imap) (p : Single s.rpu) {k : Nat}
    (n : Named (sendsIf x s.sdu.device) s k) : Named (sendsIf x t.sdu.device) t k := by
  have law : Rising t.imap ∧ Single t.rpu ∧ t.sdu = s.sdu ∧ Named (sendsIf x s.sdu.device) t k :=
    h.keeps (P := fun u => Rising u.imap ∧ Single u.rpu ∧ u.sdu = s.sdu ∧ Named (sendsIf x s.sdu.device) u k)
      (fun u v hk ⟨hr, p, hd, n⟩ => by
        refine ⟨rising_of_shapes (hk.shapes hr) hr, hk.touch.single p, hk.sdu.trans hd, ?_⟩
        have kept := hk.touch.named (x := x) hr p (k := k) (by rw [hd]; exact n)
        rw [hd] at kept
        exact kept)
      ⟨hr, p, rfl, n⟩
  obtain ⟨_, _, hd, hn⟩ := law
  rw [hd]
  exact hn

/-! ## The sweeps -/

/-- What is queued names an image, so an index without an image has nothing queued. -/
theorem named_of_no_image {P Q : Output → Command → Prop} {s : State} {k : Nat} (h : ∀ e o, ¬ Images s k e o)
    (n : Named P s k) : Named Q s k := by
  intro a ha hk
  obtain ⟨e, o, hi, _⟩ := n a ha hk
  exact absurd hi (h e o)

theorem mem_of_not_output {m : List (Nat × MapEntry)} (hr : Rising m) {k : Nat} (h : k ∉ outputIndexes m) (s : State)
    (e : s.imap = m) : ∀ x o, ¬ Images s k x o := fun x o hi => by
  refine h ((mem_outputIndexes hr k).mpr ⟨x, o, ?_, hi.2⟩)
  rw [← e]
  exact hi.1

/-- An operation at one image after another turns what is queued from one command to another. -/
theorem named_sweep {P Q : Output → Command → Prop} (f : State → Nat → State) (ok : State → Prop)
    (step : ∀ s k, ok s → ok (f s k) ∧ (Named P s k → Named Q (f s k) k) ∧
      ∀ m, m ≠ k → (Named P s m → Named P (f s k) m) ∧ (Named Q s m → Named Q (f s k) m))
    (l : List Nat) (nodup : l.Nodup) (s : State) (hok : ok s) (pending : ∀ k ∈ l, Named P s k)
    (done : ∀ k, k ∉ l → Named Q s k) : ok (l.foldl f s) ∧ ∀ k, Named Q (l.foldl f s) k := by
  induction l generalizing s with
  | nil => exact ⟨hok, fun k => done k List.not_mem_nil⟩
  | cons j l ih =>
    obtain ⟨hok', now, other⟩ := step s j hok
    rw [List.nodup_cons] at nodup
    refine ih nodup.2 (f s j) hok' (fun k hk => ?_) (fun k hk => ?_)
    · have hj : k ≠ j := fun e => nodup.1 (e ▸ hk)
      exact (other k hj).1 (pending k (List.mem_cons_of_mem _ hk))
    · by_cases hj : k = j
      · subst hj
        exact now (pending k List.mem_cons_self)
      · exact (other k hj).2 (done k fun x => (List.mem_cons.mp x).elim hj hk)

theorem nodup_outputIndexes {m : List (Nat × MapEntry)} (hr : Rising m) : (outputIndexes m).Nodup := by
  have keys : (m.map (·.1)).Nodup := hr.imp fun x => Nat.ne_of_lt x
  exact keys.sublist (List.filter_sublist.map _)

theorem named_forceSafe_same {s : State} (p : Single s.rpu) {k : Nat}
    (n : Named (sendsIf False .tripped) s k) : Named (sendsIf True .tripped) (s.forceSafe k) k := by
  by_cases hi : ∃ e o, Images s k e o
  · obtain ⟨e, a, hi⟩ := hi
    rw [forceSafe_eq hi]
    obtain ⟨entry, _, port⟩ := offerCommand_image hi a.safe
    exact named_offer_same p hi entry port (fun _ => rfl) n
  · rw [forceSafe_none fun e a h => hi ⟨e, a, h⟩]
    exact named_of_no_image (fun e a h => hi ⟨e, a, h⟩) n

theorem named_forceSafe_other {P : Output → Command → Prop} {s : State} (p : Single s.rpu) {k m : Nat} (hm : m ≠ k)
    (n : Named P s m) : Named P (s.forceSafe k) m := by
  by_cases hi : ∃ e o, Images s k e o
  · obtain ⟨e, a, hi⟩ := hi
    rw [forceSafe_eq hi]
    obtain ⟨_, others, port⟩ := offerCommand_image hi a.safe
    refine named_of_entry (others m hm) (fun x hx hk => ?_) n
    rw [port] at hx
    exact mem_of_offer_other p hm hx hk
  · rw [forceSafe_none fun e a h => hi ⟨e, a, h⟩]
    exact n

/-- While TRIPPED the offers of all safe values bring the queue into line (R162). -/
theorem named_forceAllSafe {s : State} (hr : Rising s.imap) (p : Single s.rpu) (hd : s.sdu.device = .tripped)
    (known : ∀ k, Named (sendsIf False .tripped) s k) : ∀ k, Named (sendsIf True .tripped) s.forceAllSafe k := by
  refine (named_sweep State.forceSafe (fun u => Single u.rpu ∧ u.sdu.device = .tripped) (fun u k ⟨hp, hu⟩ => ?_)
    (outputIndexes s.imap) (nodup_outputIndexes hr) s ⟨p, hd⟩ (fun k _ => known k) fun k hk => ?_).2
  · have moved : Does true false u (u.forceSafe k) := by
      unfold State.forceSafe
      split
      · next e he =>
        split
        · next a ha => exact does_of_move fun _ _ => .offer k e a a.safe ⟨he, ha⟩ (by rw [hu]; rfl)
        · exact .refl u
      · exact .refl u
    exact ⟨⟨moved.single hp, by rw [moved.sdu]; exact hu⟩, named_forceSafe_same hp,
      fun m hm => ⟨named_forceSafe_other hp hm, named_forceSafe_other hp hm⟩⟩
  · exact named_of_no_image (mem_of_not_output hr hk s rfl) (known k)

theorem named_returnOutput_same {s : State} (p : Single s.rpu) (hd : s.sdu.device = .run) {k : Nat}
    (n : Named (fun o cmd => o.safe = cmd) s k) : Named (sendsIf True .run) (s.returnOutput k) k := by
  by_cases hi : ∃ e o, Images s k e o
  · obtain ⟨e, a, hi⟩ := hi
    rw [returnOutput_eq hi]
    obtain ⟨entry, _, port⟩ := settleOutput_image hi (some a.safe)
    rw [hd] at port
    by_cases same : outgoing .run a = some a.safe
    · rw [same, portAfter_same] at port
      refine named_of_image hi entry (fun y hy _ => by rw [← port]; exact hy) (fun cmd hcmd _ => ?_) n
      rw [outgoing_refresh, same, hcmd]
    · cases now : outgoing .run a with
      | some cmd =>
        rw [now] at same port
        rw [portAfter_some same] at port
        exact named_offer_same p hi entry port (fun _ => by rw [outgoing_refresh]; exact now) n
      | none =>
        rw [now] at same port
        rw [portAfter_none same] at port
        intro y hy hk
        rw [port, dropActuate, List.mem_filter] at hy
        simp [hk] at hy
  · rw [returnOutput_none fun e a h => hi ⟨e, a, h⟩]
    exact named_of_no_image (fun e a h => hi ⟨e, a, h⟩) n

theorem named_returnOutput_other {P : Output → Command → Prop} {s : State} (p : Single s.rpu) {k m : Nat} (hm : m ≠ k)
    (n : Named P s m) : Named P (s.returnOutput k) m := by
  by_cases hi : ∃ e o, Images s k e o
  · obtain ⟨e, a, hi⟩ := hi
    rw [returnOutput_eq hi]
    obtain ⟨_, others, port⟩ := settleOutput_image hi (some a.safe)
    refine named_of_entry (others m hm) (fun x hx hk => ?_) n
    rw [port] at hx
    exact mem_of_portAfter_other p hm hx hk
  · rw [returnOutput_none fun e a h => hi ⟨e, a, h⟩]
    exact n

theorem single_returnOutput {s : State} (p : Single s.rpu) (k : Nat) : Single (s.returnOutput k).rpu := by
  by_cases hi : ∃ e o, Images s k e o
  · obtain ⟨e, a, hi⟩ := hi
    rw [returnOutput_eq hi, (settleOutput_image hi (some a.safe)).2.2]
    exact single_portAfter p _ _ _ _
  · rw [returnOutput_none fun e a h => hi ⟨e, a, h⟩]
    exact p

/-- The return to RUN brings the queue into line: the command queued for an image was its safe value (R163). -/
theorem named_enterRun {s : State} (hr : Rising s.imap) (p : Single s.rpu)
    (safe : ∀ k, Named (sendsIf True .tripped) s k) :
    Single s.enterRun.rpu ∧ ∀ k, Named (sendsIf True .run) s.enterRun k := by
  have start : ∀ k, Named (fun o cmd => o.safe = cmd) s.runMark k := fun k =>
    Named.imp (fun o cmd h => Option.some.inj (h trivial)) (fun a ha hk => safe k a ha hk)
  obtain ⟨⟨single, _⟩, named⟩ := named_sweep (Q := sendsIf True .run) State.returnOutput
    (fun u => Single u.rpu ∧ u.sdu.device = .run)
    (fun u k ⟨hp, hu⟩ => ⟨⟨single_returnOutput hp k, by rw [(onlyMap_returnOutput u k).sdu, hu]⟩,
      named_returnOutput_same hp hu, fun m hm => ⟨named_returnOutput_other hp hm, named_returnOutput_other hp hm⟩⟩)
    (outputIndexes s.imap) (nodup_outputIndexes hr) s.runMark ⟨p, rfl⟩ (fun k _ => start k)
    (fun k hk => named_of_no_image (mem_of_not_output hr hk s.runMark rfl) (start k))
  exact ⟨single, named⟩

/-! ## The law of the queue -/

/-- The queue of actuates in line with the map, but for its length (R8, R160, R162). -/
structure Queued (s : State) : Prop where
  single : Single s.rpu
  named  : ∀ k, Named (sendsIf True s.sdu.device) s k

theorem Does.queued {s t : State} (h : Does o c s t) (hr : Rising s.imap) (q : Queued s) : Queued t :=
  ⟨h.single q.single, fun k => h.named hr q.single (q.named k)⟩

theorem queued_addTripCause {s : State} (hr : Rising s.imap) (added : TripCauses) (q : Queued s) :
    Queued (s.addTripCause added) := by
  unfold State.addTripCause
  split
  · obtain ⟨u, hu, before, device, after⟩ := tripEntry_forced s added
    have known : ∀ k, Named (sendsIf False .tripped) (s.tripMark added) k := fun k =>
      Named.imp (fun _ _ _ x => absurd x id) (fun a ha hk => q.named k a ha hk)
    have single : Single u.rpu := before.single (s := s.tripMark added) q.single
    have handed : ∀ k, Named (sendsIf False .tripped) u k := fun k => by
      have kept := before.named (x := False) (s := s.tripMark added) hr q.single (known k)
      rw [device] at kept
      exact kept
    rw [hu]
    refine ⟨after.single single, fun k => ?_⟩
    rw [after.sdu, device]
    exact named_forceAllSafe (before.rising (s := s.tripMark added) hr) single device handed k
  · exact ⟨q.single, q.named⟩

theorem Turning.queued {s t : State} (h : Turning c s t) (hr : Rising s.imap) (q : Queued s) : Queued t :=
  (h.keeps (P := fun u => Rising u.imap ∧ Queued u) (fun _ _ hd ⟨hr, q⟩ => ⟨hd.rising hr, hd.queued hr q⟩)
    (fun u added ⟨hr, q⟩ => ⟨rising_of_shapes ((turn_addTripCause u added).shapes hr) hr, queued_addTripCause hr added q⟩)
    ⟨hr, q⟩).2

/-- The index at hand has nothing queued for it. -/
theorem named_clearIndex_same (s : State) (k : Nat) (P : Output → Command → Prop) : Named P (s.clearIndex k) k := by
  intro a ha hk
  have hmem : a ∈ (dropActuate k s.rpu).actuates := by
    have same := actuates_setSequence (dropActuate k s.rpu) k 0
    exact same ▸ ha
  rw [dropActuate, List.mem_filter] at hmem
  simp [hk] at hmem

theorem queued_clearIndex {s : State} (q : Queued s) (k : Nat) : Queued (s.clearIndex k) := by
  have sub : (s.clearIndex k).rpu.actuates.Sublist s.rpu.actuates := by
    have same := actuates_setSequence (dropActuate k s.rpu) k 0
    exact same ▸ List.filter_sublist
  exact ⟨single_of_sublist q.single (setSequence_step (dropActuate k s.rpu) k 0).address sub,
    fun m => named_of_entry (s := s) rfl (fun a ha _ => sub.mem ha) (q.named m)⟩

/-- Dropping an entry for which nothing is queued. -/
theorem queued_withdraw {s : State} (hr : Rising s.imap) {k : Nat} (free : Named (fun _ _ => False) s k) (q : Queued s)
    (e : MapEntry) : Queued (s.withdraw k e) := by
  refine (does_checkOwner (c := true) { s with imap := dropEntry s.imap k } e.role e.owner).queued
    (rising_dropEntry hr k) ⟨q.single, fun m => ?_⟩
  by_cases hm : m = k
  · subst hm
    intro a ha hk
    obtain ⟨_, _, _, _, _, none⟩ := free a ha hk
    exact absurd none id
  · exact named_of_entry (s := s) (by rw [entryAt_dropEntry, if_neg hm]) (fun a ha _ => ha) (q.named m)

/-- An offer to an image for which nothing is queued. -/
theorem queued_settle {s : State} {k : Nat} {w : MapWrite} {i : Output} (entry : entryAt s.imap k = some (newEntry w))
    (h : newBody w = .output i) (q : Queued s) : Queued (s.settleOutput k none) := by
  have image : Images s k (newEntry w) i := ⟨entry, h⟩
  obtain ⟨entry', others, port⟩ := settleOutput_image image none
  have device : (s.settleOutput k none).sdu.device = s.sdu.device := by rw [(onlyMap_settleOutput s k none).sdu]
  refine ⟨by rw [port]; exact single_portAfter q.single _ _ _ _, fun m => ?_⟩
  rw [device]
  by_cases hm : m = k
  · subst hm
    cases now : outgoing s.sdu.device i with
    | none =>
      rw [now, portAfter_same] at port
      refine named_of_image image entry' (fun x hx _ => by rw [← port]; exact hx) (fun cmd hcmd hx => ?_) (q.named m)
      exact hcmd hx
    | some cmd =>
      rw [now, portAfter_some (by simp)] at port
      exact named_offer_same q.single image entry' port (fun _ => by rw [outgoing_refresh]; exact now) (q.named m)
  · refine named_of_entry (others m hm) (fun x hx hk => ?_) (q.named m)
    rw [port] at hx
    exact mem_of_portAfter_other q.single hm hx hk

theorem queued_takeEntry {s : State} (hr : Rising s.imap) {k : Nat} {w : MapWrite}
    (entry : entryAt s.imap k = some (newEntry w)) (q : Queued s) : Queued (s.takeEntry k w) := by
  cases h : newBody w with
  | input d => exact (takeEntry_input h).queued hr q
  | output i =>
    exact (takeEntry_output h).queued (rising_of_shapes ((inner_settleOutput s k none).shapes hr) hr)
      (queued_settle entry h q)

/-- Operations that keep the queue in line leave nothing for an index without an entry. -/
theorem free_of_no_entry {s : State} {k : Nat} (h : entryAt s.imap k = none) (q : Queued s) :
    Named (fun _ _ => False) s k :=
  named_of_no_image (fun e o hi => by have none := h.symm.trans hi.1; cases none) (q.named k)

theorem entryAt_withdraw {s : State} (hr : Rising s.imap) (k : Nat) (e : MapEntry) : entryAt (s.withdraw k e).imap k = none := by
  have shapes := (does_checkOwner (c := true) { s with imap := dropEntry s.imap k } e.role e.owner).shapes
    (rising_dropEntry hr k)
  cases he : entryAt (s.withdraw k e).imap k with
  | none => rfl
  | some x =>
    have mem : entryShape (k, x) ∈ Sys2Proof.Machine.shapes (s.withdraw k e).imap :=
      List.mem_map_of_mem (mem_of_entryAt he)
    rw [show Sys2Proof.Machine.shapes (s.withdraw k e).imap = _ from shapes] at mem
    obtain ⟨y, hy, hs⟩ := List.mem_map.mp mem
    rw [entryShape_eq_iff] at hs
    have kept := (List.mem_filter.mp hy).2
    simp [hs.1] at kept

theorem queued_writeEntry {s : State} (hr : Rising s.imap) (k : Nat) (w : MapWrite) (q : Queued s) :
    Queued (s.writeEntry k w) := by
  obtain ⟨a, z, before, after, hz⟩ := writeEntry_stages s k w
  have cleared := queued_clearIndex q k
  have ha : Rising a.imap ∧ Queued a ∧ Named (fun _ _ => False) a k := by
    rcases before with rfl | ⟨old, rfl, _⟩
    · exact ⟨hr, cleared, named_clearIndex_same s k _⟩
    · have withdrawn := queued_withdraw (s := s.clearIndex k) hr (named_clearIndex_same s k _) cleared old
      exact ⟨rising_withdraw (s := s.clearIndex k) hr k old, withdrawn,
        free_of_no_entry (entryAt_withdraw (s := s.clearIndex k) hr k old) withdrawn⟩
  obtain ⟨hra, hqa, hfree⟩ := ha
  have hput : Rising (putEntry a.imap k (newEntry w)) := rising_putEntry hra k _
  rw [hz]
  refine after.queued (rising_takeEntry (s := { a with imap := putEntry a.imap k (newEntry w) }) hput k w) ?_
  refine queued_takeEntry (s := { a with imap := putEntry a.imap k (newEntry w) }) hput
    (by rw [entryAt_putEntry, if_pos rfl]) ⟨hqa.single, fun m => ?_⟩
  by_cases hm : m = k
  · subst hm
    intro x hx hk
    obtain ⟨_, _, _, _, _, none⟩ := hfree x hx hk
    exact absurd none id
  · exact named_of_entry (s := a) (by rw [entryAt_putEntry, if_neg hm]) (fun x hx _ => hx) (hqa.named m)

theorem actuates_powerOn (s : State) (b : Byte) : (s.powerOnState b).rpu.actuates = [] := by
  rw [powerOnState_eq]
  exact List.sublist_nil.mp (actuates_offerNotice _ (Rpu.initial (addressOf b)))

/-- Every deed keeps the queue in line. -/
theorem Deed.queued {s t : State} (h : Deed s t) (hr : Rising s.imap) (q : Queued s) : Queued t := by
  cases h with
  | turning t h => exact h.queued hr q
  | aside t imap device address actuates =>
    refine ⟨single_of_sublist q.single address actuates, fun k => ?_⟩
    rw [device]
    exact named_of_entry (by rw [imap]) (fun a ha _ => actuates.mem ha) (q.named k)
  | drive k e a cmd =>
    have touched := touch_changeOutput s k (fun o => { o with latch := cmd, direction := .drive }) (fun _ => rfl) (fun _ => rfl)
    refine ⟨touched.single q.single, fun m => ?_⟩
    rw [(onlyMap_changeOutput s k _).sdu]
    exact touched.named hr q.single (q.named m)
  | enterRun tripped =>
    obtain ⟨single, named⟩ := named_enterRun hr q.single (by rw [← tripped]; exact q.named)
    exact ⟨single, by rw [device_enterRun]; exact named⟩
  | load k w => exact queued_writeEntry hr k w q
  | unload k e =>
    exact (removeEntry_after s k e).queued (rising_withdraw (s := s.clearIndex k) hr k e)
      (queued_withdraw (s := s.clearIndex k) hr (named_clearIndex_same s k _) (queued_clearIndex q k) e)
  | fresh b =>
    have empty := actuates_powerOn s b
    exact ⟨⟨by rw [empty]; exact List.nodup_nil, fun _ => empty⟩, fun k a ha => by rw [empty] at ha; cases ha⟩

/-! ## The length of the queue -/

/-- The roles and owners of output entries: forty at most (R18). -/
def outputPlaces : Finset (Role × Nat) :=
  ({.liqCmd, .vapCmd} : Finset Role) ×ˢ Finset.Icc 1 16 ∪ ({.compRun, .compDir} : Finset Role) ×ˢ Finset.Icc 1 4

theorem card_outputPlaces : outputPlaces.card = 40 := by decide

theorem mem_outputPlaces {r : Role} {w : Nat} (output : r.isOutput = true) (owner : ownerOk r w = true) :
    (r, w) ∈ outputPlaces := by
  cases r with
  | liqCmd => simpa [outputPlaces, ownerOk, Role.ownerKind] using owner
  | vapCmd => simpa [outputPlaces, ownerOk, Role.ownerKind] using owner
  | compRun => simpa [outputPlaces, ownerOk, Role.ownerKind] using owner
  | compDir => simpa [outputPlaces, ownerOk, Role.ownerKind] using owner
  | _ => cases output

/-- Role and owner of the entry at an index. -/
def placeAt (m : List (Nat × MapEntry)) (k : Nat) : Option (Role × Nat) := (entryAt m k).map (fun e => (e.role, e.owner))

theorem placeAt_image {s : State} {k : Nat} {e : MapEntry} {o : Output} (hm : MapOk s.imap) (hi : Images s k e o) :
    placeAt s.imap k = some (e.role, e.owner) ∧ (e.role, e.owner) ∈ outputPlaces ∧ e.role.isOutput = true := by
  obtain ⟨owner, image⟩ := hm.suits _ (mem_of_entryAt hi.1)
  have output : e.role.isOutput = true := by
    rw [← image]
    simp [MapEntry.image, hi.2]
  exact ⟨by rw [placeAt, hi.1]; rfl, mem_outputPlaces output owner, output⟩

/-- In a map in its whole form the images, and so the queue, are forty at most (R8). -/
theorem length_of_queued {s : State} (hm : MapOk s.imap) (q : Queued s) : s.rpu.actuates.length ≤ 40 := by
  have image : ∀ k ∈ (s.rpu.actuates.map (·.index)).toFinset, ∃ e o, Images s k e o := fun k hk => by
    obtain ⟨a, ha, rfl⟩ := List.mem_map.mp (List.mem_toFinset.mp hk)
    obtain ⟨e, o, hi, _⟩ := q.named a.index a ha rfl
    exact ⟨e, o, hi⟩
  have card : (s.rpu.actuates.map (·.index)).toFinset.card = s.rpu.actuates.length := by
    rw [List.toFinset_card_of_nodup q.single.once, List.length_map]
  have places : (outputPlaces.image some).card ≤ 40 := Finset.card_image_le.trans card_outputPlaces.le
  rw [← card]
  refine (Finset.card_le_card_of_injOn (placeAt s.imap) (fun k hk => ?_) fun k hk j hj same => ?_).trans places
  · obtain ⟨e, o, hi⟩ := image k hk
    obtain ⟨place, mem, _⟩ := placeAt_image hm hi
    rw [place]
    exact Finset.mem_image_of_mem _ mem
  · obtain ⟨e, o, hi⟩ := image k hk
    obtain ⟨e', o', hi'⟩ := image j hj
    obtain ⟨place, _, output⟩ := placeAt_image hm hi
    obtain ⟨place', _, _⟩ := placeAt_image hm hi'
    rw [place, place', Option.some.injEq, Prod.mk.injEq] at same
    exact hm.role_unique hi.1 hi'.1 same.1 same.2 fun gas => by rw [gas] at output; cases output

theorem actuatesOk_iff {s : State} (hm : MapOk s.imap) : ActuatesOk s ↔ Queued s := by
  refine ⟨fun h => ⟨⟨h.once, h.silent⟩, fun k a ha hk => ?_⟩,
    fun q => ⟨q.single.once, length_of_queued hm q, fun a ha => ?_, q.single.silent⟩⟩
  · obtain ⟨e, o, he, ho, hn, hc, hcmd⟩ := h.names a ha
    exact ⟨e, o, ⟨hk ▸ he, ho⟩, hn, hc, fun _ => hcmd⟩
  · obtain ⟨e, o, hi, hn, hc, hcmd⟩ := q.named a.index a ha rfl
    exact ⟨e, o, hi.1, hi.2, hn, hc, hcmd trivial⟩

/-! ## Capacities and the reservation -/

/-- The map and the port in form, with `n` reservations in the message queue. -/
structure Formed (n : Nat) (s : State) : Prop where
  rising   : Rising s.imap
  port     : PortOk s.rpu
  reserved : reservations s.rpu.messages = n

theorem portOk_of_calm {r r' : Rpu} (h : PortCalm r r') (p : PortOk r) : PortOk r' := by
  obtain ⟨forward, requests, messages, runs⟩ := p
  exact ⟨h.forward.trans forward, by rw [h.requests]; exact requests, h.messages messages, h.runs runs⟩

theorem Formed.of_calm {n : Nat} {s t : State} (f : Formed n s) (rising : Rising t.imap) (h : PortCalm s.rpu t.rpu) :
    Formed n t := ⟨rising, portOk_of_calm h f.port, h.reserved.trans f.reserved⟩

theorem Turning.formed {n : Nat} {s t : State} (h : Turning c s t) (f : Formed n s) : Formed n t :=
  f.of_calm (h.rising f.rising) h.calm

theorem Move.mgu {m : Leave} {s t : State} (h : Move m s t) : t.mgu = s.mgu := by
  cases h with
  | notice b => rfl
  | conditions i now => exact (inner_storeConditions s i now).mgu
  | context i f => rfl
  | credit i f => rfl
  | opening i f => exact (inner_writeValve s .liqCmd i .opened).mgu
  | compressor k f => rfl
  | lists l cars => rfl
  | latch r owner cmd => exact (inner_writeLatch s r owner cmd).mgu
  | monitor k => exact (onlyMap_changeOutput s k _).mgu
  | offer k e o cmd => exact (inner_offerCommand s k cmd).mgu
  | sample k e d d' => exact (onlyMap_setBody s k _).mgu

theorem Turning.mgu {s t : State} (h : Turning c s t) : t.mgu = s.mgu :=
  h.keeps (P := fun u => u.mgu = s.mgu)
    (fun _ _ hd hu => (hd.keeps (P := fun v => v.mgu = s.mgu) (fun _ _ hk hv => hk.mgu.trans hv) hu))
    (fun u added hu => (turn_addTripCause u added).mgu.trans hu) rfl

/-- What an effect of a request does around the request: the port stays calm and the request held. -/
structure Around (s t : State) : Prop where
  calm : PortCalm s.rpu t.rpu
  held : t.mgu.held = s.mgu.held

theorem Around.trans {a b d : State} (h : Around a b) (k : Around b d) : Around a d :=
  ⟨h.calm.trans k.calm, k.held.trans h.held⟩

theorem around_same {s t : State} (rpu : t.rpu = s.rpu) (held : t.mgu.held = s.mgu.held) : Around s t :=
  ⟨rpu ▸ .refl _, held⟩

theorem Turning.around {s t : State} (h : Turning c s t) : Around s t := ⟨h.calm, by rw [h.mgu]⟩

theorem Does.around {s t : State} (h : Does true c s t) : Around s t := h.turning.around

theorem around_clearIndex (s : State) (k : Nat) : Around s (s.clearIndex k) :=
  ⟨(dropActuate_calm k s.rpu).trans (setSequence_calm _ _ _), rfl⟩

theorem around_withdraw (s : State) (k : Nat) (e : MapEntry) : Around s (s.withdraw k e) :=
  (around_same (s := s) (t := { s with imap := dropEntry s.imap k }) rfl rfl).trans
    (does_checkOwner (c := true) { s with imap := dropEntry s.imap k } e.role e.owner).around

theorem calm_settleOutput (s : State) (k : Nat) (before : Option Command) : PortCalm s.rpu (s.settleOutput k before).rpu := by
  by_cases hi : ∃ e o, Images s k e o
  · obtain ⟨e, a, hi⟩ := hi
    rw [(settleOutput_image hi before).2.2]
    exact portAfter_calm _ _ _ _ _
  · rw [settleOutput_none fun e a h => hi ⟨e, a, h⟩]
    exact .refl _

theorem around_settleOutput (s : State) (k : Nat) (before : Option Command) : Around s (s.settleOutput k before) :=
  ⟨calm_settleOutput s k before, by rw [(onlyMap_settleOutput s k before).mgu]⟩

theorem around_takeEntry (s : State) (k : Nat) (w : MapWrite) : Around s (s.takeEntry k w) := by
  cases h : newBody w with
  | input d => exact (takeEntry_input h).around
  | output i => exact (around_settleOutput s k none).trans (takeEntry_output h).around

theorem around_writeEntry (s : State) (k : Nat) (w : MapWrite) : Around s (s.writeEntry k w) := by
  obtain ⟨a, z, before, after, hz⟩ := writeEntry_stages s k w
  have ha : Around s a := by
    rcases before with rfl | ⟨old, rfl, _⟩
    · exact around_clearIndex s k
    · exact (around_clearIndex s k).trans (around_withdraw _ _ _)
  have put : Around a { a with imap := putEntry a.imap k (newEntry w) } := around_same rfl rfl
  rw [hz]
  exact ((ha.trans put).trans (around_takeEntry _ _ _)).trans after.around

theorem around_setRecord (s : State) (i : SpotId) (r : SpotRecord) : Around s (s.setRecord i r) := around_same rfl rfl

theorem around_storeRecord (s : State) (i : SpotId) (r : SpotRecord) (h : s.spotInUse i = false) :
    Around s (s.storeRecord i r) := by
  unfold State.storeRecord
  refine (around_setRecord s i r).trans ?_
  simp only
  generalize conditionSet (s.setRecord i r) i _ = now
  have still : (((s.setRecord i r).storeConditions i now).spot i).state ≠ .unloading := by
    rw [spot_storeConditions]
    exact state_ne_unloading_of_free h
  refine (does_storeConditions (o := true) (c := true) (s.setRecord i r) i now).around.trans ?_
  split
  · exact around_same rfl rfl
  · exact (does_changeState (c := true) _ i _ still).around

theorem around_dropTally (s : State) (i : SpotId) : Around s (s.dropTally i) := around_same rfl rfl

theorem around_clearVacant (s : State) (i : SpotId) (h : (s.spot i).state = .vacant) : Around s (s.clearVacant i) := by
  have still : ((s.dropTally i).spot i).state ≠ .unloading := by rw [state_dropTally, h]; decide
  unfold State.clearVacant
  refine (around_dropTally s i).trans ?_
  simp only
  split
  · exact (does_matchTag (c := true) _ _ _ still).around
  · exact (does_reportUnknownTag (c := true) _ _ _).around

theorem around_enterRun (s : State) : Around s s.enterRun := by
  have step : ∀ (u : State) (k : Nat), Around u (u.returnOutput k) := fun u k => by
    by_cases hi : ∃ e o, Images u k e o
    · obtain ⟨e, a, hi⟩ := hi
      rw [returnOutput_eq hi]
      exact around_settleOutput _ _ _
    · rw [returnOutput_none fun e a h => hi ⟨e, a, h⟩]
      exact around_same rfl rfl
  have fold : ∀ (l : List Nat) (u : State), Around u (l.foldl State.returnOutput u) := by
    intro l
    induction l with
    | nil => exact fun u => around_same rfl rfl
    | cons k l ih => exact fun u => (step u k).trans (ih _)
  have marked : Around s s.runMark := around_same rfl rfl
  exact marked.trans (fold (outputIndexes s.imap) s.runMark)

theorem around_changeOutput (s : State) (k : Nat) (f : Output → Output) (hs : ∀ o, (f o).safe = o.safe)
    (hr : ∀ o, (f o).refresh = o.refresh) : Around s (s.changeOutput k f) :=
  ⟨(touch_changeOutput s k f hs hr).calm, by rw [(onlyMap_changeOutput s k f).mgu]⟩

theorem around_carries {c : Instr} {s t : State} (h : Carries s c t) : Around s t := by
  cases h with
  | readSpot i b => exact around_same rfl rfl
  | readCompressor c => exact around_same rfl rfl
  | writeEntry k w => exact around_writeEntry s k w
  | removeEntry k e =>
    exact ((around_clearIndex s k).trans (around_withdraw _ _ _)).trans (removeEntry_after s k e).around
  | storeRecord i r free => exact around_storeRecord s i r free
  | storeCurve i r points => exact around_setRecord s i _
  | storeGroup g v => exact around_same rfl rfl
  | storeComp c r => exact around_same rfl rfl
  | removeComp c =>
    have emptied : Around s (s.modComp c (fun x => { x with record := none })) := around_same rfl rfl
    exact emptied.trans ((does_checkUsable (c := true) _ _).trans (does_endScan _)).around
  | addCar r => exact around_same rfl rfl
  | removeCar p => exact around_same rfl rfl
  | start i run ready => exact (does_startTransfer s i ready).around
  | suspend i => exact ((does_changeCauses (c := true) s i _).trans (does_endScan _)).around
  | resume i => exact (does_resumeTransfer (c := true) s i).around
  | stop i => exact (does_stopTransfer (c := true) s i).around
  | abort i => exact (does_abortTransfer (c := true) s i).around
  | abortIdle i => exact (does_endTransfer (c := true) _ _ _ _ _).around
  | release i state =>
    exact (around_dropTally s i).trans (does_changeState (c := true) _ i _ (by rw [state_dropTally, state]; decide)).around
  | clearFaulted i state =>
    refine (around_dropTally s i).trans
      ((does_reportUnknownTag (c := true) _ i false).trans (does_changeState _ i _ ?_)).around
    rw [state_reportUnknownTag, state_dropTally, state]
    decide
  | clearVacant i state => exact around_clearVacant s i state
  | drive k e o b cmd => exact around_changeOutput s k _ (fun _ => rfl) (fun _ => rfl)
  | monitor k e o =>
    exact (((does_monitorOutput (c := true) s k).trans (does_checkOwner _ _ _)).trans (does_endScan _)).around
  | ackChanges i named => exact around_same rfl rfl
  | trip => exact (turning_addTripCause (c := true) _ _).around
  | tripReset tripped => exact around_enterRun s

/-! ## The port's own events -/

theorem Formed.of_parts {n : Nat} {s t : State} (f : Formed n s) (imap : t.imap = s.imap) (port : PortOk t.rpu)
    (reserved : reservations t.rpu.messages = reservations s.rpu.messages) : Formed n t :=
  ⟨imap ▸ f.rising, port, reserved.trans f.reserved⟩

theorem formed_forward {n : Nat} {s : State} (f : Formed n s) (x : Frame) : Formed n (s.forward x) := by
  obtain ⟨forward, requests, messages, runs⟩ := f.port
  have calm := kick_calm { s.rpu with forward := s.rpu.forward ++ [sealFrame { x with hops := x.hops - 1 }] }
  unfold State.forward State.modRpu forwardFrame
  split
  · next room =>
    refine f.of_parts rfl (portOk_of_calm calm ⟨?_, requests, messages, runs⟩) calm.reserved
    rw [List.length_append]
    exact room
  · exact f

/-- The number of requests held, at most one. -/
def heldCount (s : State) : Nat := if s.mgu.held.isSome then 1 else 0

theorem reservedOk_iff (s : State) : Rising s.imap ∧ PortOk s.rpu ∧ ReservedOk s ↔ Formed (heldCount s) s :=
  ⟨fun ⟨r, p, q⟩ => ⟨r, p, q⟩, fun ⟨r, p, q⟩ => ⟨r, p, q⟩⟩

theorem portOk_takeRequest {s : State} (p : PortOk s.rpu) : PortOk s.takeRequest.rpu := by
  obtain ⟨forward, requests, messages, runs⟩ := p
  unfold State.takeRequest
  split
  · next hq =>
    split
    · next room =>
      rw [hq] at requests
      exact ⟨forward, Nat.le_of_succ_le requests, by rw [List.length_append]; exact room, runs⟩
    · exact ⟨forward, requests, messages, runs⟩
  · exact ⟨forward, requests, messages, runs⟩

theorem formed_takeRequest {s : State} (f : Formed (heldCount s) s) : Formed (heldCount s.takeRequest) s.takeRequest := by
  obtain ⟨m, l, q, e⟩ := takeRequest_eq s
  refine ⟨by rw [e]; exact f.rising, portOk_takeRequest f.port, reserved_takeRequest s f.reserved⟩

theorem formed_takeManage {s : State} (f : Formed (heldCount s) s) (x : Frame) :
    Formed (heldCount (s.takeManage x)) (s.takeManage x) := by
  unfold State.takeManage
  split
  · next room =>
    obtain ⟨forward, requests, messages, runs⟩ := f.port
    refine formed_takeRequest ⟨f.rising, ⟨forward, ?_, messages, runs⟩, f.reserved⟩
    change (s.rpu.requests ++ [_]).length ≤ _
    rw [List.length_append]
    exact room
  · exact formed_forward f x

theorem heldCount_of_held {s t : State} (h : t.mgu.held = s.mgu.held) : heldCount t = heldCount s := by
  rw [heldCount, heldCount, h]

theorem formed_frameArrival {s : State} (f : Formed (heldCount s) s) (x : Frame) :
    Formed (heldCount (s.frameArrival x)) (s.frameArrival x) := by
  unfold State.frameArrival
  split
  · have noted : Formed (heldCount s.noteValidFrame) s.noteValidFrame := ⟨f.rising, f.port, f.reserved⟩
    generalize s.noteValidFrame = t at noted
    simp only
    split
    · split
      · exact noted
      · exact formed_forward noted x
    · split
      · exact noted
      · split
        · exact noted
        · unfold State.disposeFrame
          split
          · have offered := turning_offerSample t x
            rw [show heldCount ((t.offerSample x).forward x) = heldCount t from heldCount_of_held (by
              rw [show ((t.offerSample x).forward x).mgu = (t.offerSample x).mgu from rfl, offered.mgu])]
            exact formed_forward (offered.formed noted) x
          · split
            · exact formed_takeManage noted x
            · exact formed_forward noted x
  · exact f

theorem formed_transmitComplete {s : State} (f : Formed (heldCount s) s) :
    Formed (heldCount s.transmitComplete) s.transmitComplete := by
  unfold State.transmitComplete
  split
  · exact f
  · have decided := boundary_step { s.rpu with sending := none } rfl
    obtain ⟨forward, requests, messages, runs⟩ := f.port
    refine formed_takeRequest ⟨f.rising, ⟨decided.forward.trans forward, ?_, decided.messages messages,
      runCount_boundary _ runs⟩, decided.reserved.trans f.reserved⟩
    change (boundary { s.rpu with sending := none }).requests.length ≤ _
    rw [decided.requests]
    exact requests

theorem formed_answer {s : State} (f : Formed (heldCount s) s) (q : Request) (held : s.mgu.held = some q) (p : Reply) :
    Formed (heldCount (s.answer q p)) (s.answer q p) := by
  obtain ⟨forward, requests, messages, runs⟩ := f.port
  obtain ⟨m, r, e⟩ := answer_eq s q p
  refine ⟨by rw [e]; exact f.rising, ?_, reserved_answer s q p f.reserved held⟩
  have filled : PortOk { s.rpu with messages := fillReservation (replyMessage q p) s.rpu.messages } :=
    ⟨forward, requests, (length_fill _ _).trans_le messages, runs⟩
  unfold State.answer
  exact portOk_takeRequest (portOk_of_calm (kick_calm _) filled)

theorem reservations_onlyReservation (l : List Message) : reservations (onlyReservation l) = reservations l := by
  unfold reservations onlyReservation
  rw [List.countP_filter]
  congr 1
  funext m
  simp

/-- RESET_PART fills the one reservation and empties the queues (R15, R179). -/
theorem formed_resetPort {s : State} (f : Formed 1 s) (q : Request) (p : Reply) :
    Formed 0 (s.resetPort (replyMessage q p)) := by
  obtain ⟨forward, requests, messages, runs⟩ := f.port
  have calm := kick_calm { s.rpu with
    requests := [], actuates := [], messages := fillReservation (replyMessage q p) (onlyReservation s.rpu.messages) }
  refine ⟨f.rising, portOk_of_calm calm ⟨forward, Nat.zero_le _, ?_, runs⟩, calm.reserved.trans ?_⟩
  · exact (length_fill _ _).trans_le ((List.length_filter_le _ _).trans messages)
  · change reservations (fillReservation _ (onlyReservation s.rpu.messages)) = 0
    rw [replyMessage, reservations_fill, reservations_onlyReservation, f.reserved]

theorem formed_clearStanding {n : Nat} {s : State} (f : Formed n s) : Formed n s.clearStanding :=
  ⟨f.rising, f.port, f.reserved⟩

theorem formed_resetEffect {s : State} (f : Formed 1 s) (q : Request) (p : Reply) :
    Formed 0 (s.resetEffect (replyMessage q p)) := by
  have spots := (does_resetSpots (c := true) _).turning.formed (formed_resetPort f q p)
  have marks := formed_clearStanding spots
  have comps := ((does_tripComps (c := true) _).trans (does_monitorAll _)).turning.formed marks
  exact (does_endScan (c := true) _).turning.formed ((turning_addReset (c := true) _).formed comps)

/-- The unit lets go of its request behind the reply. -/
theorem formed_letGo {s : State} (f : Formed 0 s) :
    Formed (heldCount { s with mgu := { s.mgu with held := none } }) { s with mgu := { s.mgu with held := none } } :=
  ⟨f.rising, f.port, f.reserved⟩

theorem Turning.formed_held {s t : State} (h : Turning c s t) (f : Formed (heldCount s) s) : Formed (heldCount t) t := by
  rw [heldCount_of_held (s := s) (by rw [h.mgu])]
  exact h.formed f

theorem formed_acts {c : Instr} {s t : State} (h : Acts s c t) (f : Formed (heldCount s) s) : Formed (heldCount t) t := by
  cases h with
  | esdAsserted =>
    exact (turning_addTripCause (c := true) { s with
      pins := { s.pins with esdAsserted := true }, sdu := { s.sdu with esdAsserted := true } } causeEsd).formed_held
      ⟨f.rising, f.port, f.reserved⟩
  | esdReleased => exact ⟨f.rising, f.port, f.reserved⟩
  | frame x => exact formed_frameArrival f x
  | transmit => exact formed_transmitComplete f
  | silence =>
    unfold State.silenceExpired
    split
    · exact f
    · split
      · exact (turning_addTripCause (c := true) { s with
          rpu := { s.rpu with silence := .silent }, sdu := { s.sdu with ringSilent := true } } causeSilent).formed_held
          ⟨f.rising, f.port, f.reserved⟩
      · exact f
  | staleness k => exact (turning_stalenessExpiry (c := true) s k).formed_held f
  | travel n i => exact (does_travelExpired (c := true) s i).turning.formed_held f
  | pressurise n i => exact (does_pressuriseExpired (c := true) s i).turning.formed_held f
  | suspend n i => exact (does_suspendExpired (c := true) s i).turning.formed_held f
  | pass n i => exact (does_passExpired (c := true) s i).turning.formed_held f
  | settle n i => exact (does_settleExpired (c := true) s i).turning.formed_held f
  | confirmation n c => exact (does_confirmationExpired (c := true) s c).turning.formed_held f
  | popdown n c => exact (does_popdownDue (c := true) s c).turning.formed_held f
  | history n c => exact (does_startAged (c := true) s c).turning.formed_held f
  | refresh k => exact (does_refreshExpired (c := true) s k).turning.formed_held f
  | tick =>
    have fold : ∀ (l : List CompId) (u : State), (l.foldl (fun s c => s.modComp c addSecond) u).rpu = u.rpu ∧
        (l.foldl (fun s c => s.modComp c addSecond) u).imap = u.imap ∧
        (l.foldl (fun s c => s.modComp c addSecond) u).mgu = u.mgu := by
      intro l
      induction l with
      | nil => exact fun u => ⟨rfl, rfl, rfl⟩
      | cons k l ih => exact fun u => ih (u.modComp k addSecond)
    obtain ⟨rpu, imap, mgu⟩ := fold allComps s
    have ticked : ∀ u : State, u.tickUptime.rpu = u.rpu ∧ u.tickUptime.imap = u.imap ∧ u.tickUptime.mgu = u.mgu := fun u => by
      unfold State.tickUptime
      split <;> exact ⟨rfl, rfl, rfl⟩
    obtain ⟨rpu', imap', mgu'⟩ := ticked (allComps.foldl (fun s c => s.modComp c addSecond) s)
    rw [heldCount_of_held (s := s) (by rw [mgu', mgu])]
    exact ⟨by rw [imap', imap]; exact f.rising, by rw [rpu', rpu]; exact f.port, by rw [rpu', rpu]; exact f.reserved⟩
  | answered _ q p held => exact formed_answer f q held p
  | carried _ u q p held effect =>
    have around := around_carries effect
    have rising : Rising u.imap := (deeds_carries effect).keeps (fun _ _ hd hr => hd.rising hr) f.rising
    refine formed_answer ?_ q (around.held.trans held) p
    rw [heldCount_of_held around.held]
    exact f.of_calm rising around.calm
  | resetPart q held =>
    have one : Formed 1 s := by
      have count : heldCount s = 1 := by rw [heldCount, held]; rfl
      rw [← count]
      exact f
    exact formed_takeRequest (formed_letGo (formed_resetEffect one q ⟨.done, []⟩))

theorem formed_powerOn (s : State) (b : Byte) : Formed (heldCount (s.powerOnState b)) (s.powerOnState b) := by
  have calm := offerNotice_calm ([4] ++ bytes4 (s.fresh b).sdu.entryUptime ++ bytesSet (s.fresh b).sdu.causes.members ++
    bytesSet (s.fresh b).sdu.causes.members ++ bytesSet (liveConditions (s.fresh b))) (Rpu.initial (addressOf b))
  have start : PortOk (Rpu.initial (addressOf b)) := ⟨Nat.zero_le _, Nat.zero_le _, Nat.zero_le _, Nat.zero_le _⟩
  rw [powerOnState_eq]
  exact ⟨List.Pairwise.nil, portOk_of_calm calm start, calm.reserved⟩

theorem formed_falls {c : Instr} {s t : State} (h : Falls s c t) (f : Formed (heldCount s) s) : Formed (heldCount t) t := by
  cases h with
  | idle => exact f
  | powerOn b => exact formed_powerOn s b
  | resetInput b => exact formed_powerOn _ b
  | resetLine b => exact ⟨f.rising, f.port, f.reserved⟩
  | resetRelease => exact ⟨f.rising, f.port, f.reserved⟩
  | loss => exact ⟨f.rising, f.port, f.reserved⟩
  | esdLevel c b line => exact ⟨f.rising, f.port, f.reserved⟩
  | acts c t on effect => exact formed_acts effect f

/-- Settles O56: each deed keeps the map whole and the queue in line; every command keeps the capacities and the reservation. -/
theorem stepsKeepMapAndPortInForm : Obligations.StepsKeepMapAndPortInForm := by
  unfold Obligations.StepsKeepMapAndPortInForm
  refine ⟨fun s t hs form => ?_, fun s t hs ⟨hm, ha⟩ => ?_⟩
  · rw [reservedOk_iff] at form ⊢
    exact step_keeps (P := fun u => Formed (heldCount u) u) (fun _ _ h => ⟨h.rising, h.port, h.reserved⟩)
      (fun _ _ _ hf => formed_falls hf) hs form
  · obtain ⟨hm', hq⟩ := step_keeps_of_deeds (P := fun u => MapOk u.imap ∧ Queued u) (fun _ _ h => ⟨h.1, h.2.single, h.2.named⟩)
      (fun _ _ hd ⟨hm, q⟩ => ⟨hd.mapOk hm, hd.queued hm.rising q⟩) hs ⟨hm, (actuatesOk_iff hm).mp ha⟩
    exact ⟨hm', (actuatesOk_iff hm').mpr hq⟩

end Sys2Proof.Machine
end

section
/-! Power, lines and the ring port (R1 to R13, R170 to R180): what the commands of the supply, of the lines and of the ring do. -/

namespace Sys2Proof.Machine

/-! ## Power-on -/

/-- The port after power-on: its notice takes tag 0 and leaves at once, or is discarded in BAD_ADDRESS (R1, R180). -/
theorem rpu_powerOn (s : State) (b : Byte) : (s.powerOnState b).rpu = { Rpu.initial (addressOf b) with
    noticeSeq := 1
    sending := (addressOf b).map (fun a => ownFrame a 255 5 0 ([4, 0, 0, 0, 0] ++
      bytesSet (s.fresh b).sdu.causes.members ++ bytesSet (s.fresh b).sdu.causes.members ++
      bytesSet [s.pins.esdAsserted, false, false, (addressOf b).isNone])) } := by
  have live : liveConditions (s.fresh b) = [s.pins.esdAsserted, false, false, (addressOf b).isNone] := rfl
  rw [powerOnState_eq, State.tripNotice, live]
  change offerNotice ([4] ++ bytes4 0 ++ _ ++ _ ++ _) (Rpu.initial (addressOf b)) = _
  cases addressOf b <;> rfl

theorem isNone_addressOf (b : Byte) : (addressOf b).isNone = decide (b = 0 ∨ b = 255) := by
  unfold addressOf
  split
  · next h => exact (decide_eq_true h).symm
  · next h => exact (decide_eq_false h).symm

/-- Settles O2: every part is written with its starting value; the one notice meets an idle port. -/
theorem powerOnStartsAnew : Obligations.PowerOnStartsAnew := by
  unfold Obligations.PowerOnStartsAnew
  intro s b
  have rpu := rpu_powerOn s b
  have address : (s.powerOnState b).rpu.address = addressOf b := by rw [rpu]; rfl
  have causes : (s.powerOnState b).sdu.causes = (s.fresh b).sdu.causes := rfl
  refine ⟨_, rfl, rfl, rfl, rfl, rfl, rfl, fun i => ?_, fun i => ?_, fun g j h => ?_, spot_powerOn s b, comp_powerOn s b,
    rfl, rfl, rfl, rfl, ?_, rfl, rfl, fun i => ?_, by rw [rpu], ?_, rfl, address, ?_⟩
  · have values : (s.powerOnState b).conditions.get i = ⟨.allFalse, .allFalse⟩ := by
      change (Vector.replicate 16 _).get i = _
      simp [Vector.get_eq_getElem]
    rw [State.values, State.latches, values]
    exact ⟨rfl, rfl⟩
  · change (Vector.replicate 16 none).get i = none
    simp [Vector.get_eq_getElem]
  · change ((Vector.replicate 4 (Vector.replicate 23 none)).get g)[j] = none
    simp [Vector.get_eq_getElem]
  · rw [causes, ← isNone_addressOf]
    rfl
  · change (Vector.replicate 16 false).get i = false
    simp [Vector.get_eq_getElem]
  · rw [address, rpu, causes]
    cases addressOf b <;> rfl
  · rw [rpu]
    refine ⟨rfl, rfl, rfl, rfl, rfl, rfl, rfl, fun k => ?_, rfl⟩
    unfold Rpu.sequenceOf
    split
    · simp [Rpu.initial]
    · rfl

/-! ## Supply and lines -/

/-- Settles O3: without supply every command but those of the supply and of the lines meets the same test. -/
theorem resetAndSupplyAct : Obligations.ResetAndSupplyAct := by
  unfold Obligations.ResetAndSupplyAct
  refine ⟨fun s b released on => ?_, fun s b released off => ?_, fun s b asserted => ?_, fun _ => rfl, fun _ => rfl,
    fun s off => ⟨exec_esdLineAsserted_off s off, exec_esdLineReleased_off s off⟩,
    fun s c off anew loss esd released line => ?_⟩
  · simp [exec, execResetInput, execPowerOn, released, on]
  · simp [exec, execResetInput, released, off]
  · simp [exec, execResetInput, asserted]
  · obtain ⟨t, ht, falls⟩ := exec_falls c s
    cases falls with
    | idle => exact ht
    | powerOn b => cases anew
    | resetInput b => cases anew
    | resetLine b => cases anew
    | resetRelease => exact absurd rfl line
    | loss => exact absurd rfl loss
    | esdLevel c b level => exact (level.elim esd released).elim
    | acts c t on => rw [off] at on; cases on

/-! ## Causes while TRIPPED -/

theorem addTripCause_of_tripped {s : State} (h : s.sdu.device = .tripped) (added : TripCauses) :
    s.addTripCause added = { s with sdu := { s.sdu with causes := s.sdu.causes.union added } } := by
  unfold State.addTripCause
  rw [h]

theorem addTripCause_of_run {s : State} (h : s.sdu.device = .run) (added : TripCauses) :
    s.addTripCause added = s.tripEntry added := by
  unfold State.addTripCause
  rw [h]

theorem union_causeEsd (t : TripCauses) : t.union causeEsd = { t with esdLine := true } := by
  simp [TripCauses.union, causeEsd, TripCauses.empty]

theorem union_causeSilent (t : TripCauses) : t.union causeSilent = { t with ringSilent := true } := by
  simp [TripCauses.union, causeSilent, TripCauses.empty]

theorem union_causeRequested (t : TripCauses) : t.union causeRequested = { t with requested := true } := by
  simp [TripCauses.union, causeRequested, TripCauses.empty]

/-- The part as the ESD line is found asserted (R172). -/
def State.esdMark (s : State) : State :=
  { s with pins := { s.pins with esdAsserted := true }, sdu := { s.sdu with esdAsserted := true } }

/-- The part as the ring is reported silent (R13, R174). -/
def State.silentMark (s : State) : State :=
  { s with rpu := { s.rpu with silence := .silent }, sdu := { s.sdu with ringSilent := true } }

theorem exec_esdLineAsserted_marked {s : State} (on : s.powered = true) :
    exec .esdLineAsserted s = .next (s.esdMark.addTripCause causeEsd) := exec_esdLineAsserted_on s on

theorem exec_silenceExpiry_on {s : State} (on : s.powered = true) : exec .silenceExpiry s = .next s.silenceExpired :=
  whenPowered_on s _ on

theorem exec_silenceExpiry_due {s : State} (on : s.powered = true) (live : s.rpu.silence = .live)
    (passed : s.rpu.lastValid + 5 ≤ s.uptime) :
    exec .silenceExpiry s = .next (s.silentMark.addTripCause causeSilent) := by
  have passed' : s.rpu.lastValid + Config.silenceSeconds ≤ s.uptime := passed
  rw [exec_silenceExpiry_on on, State.silenceExpired, live]
  simp only [if_pos passed']
  rfl

/-- Settles O5: in TRIPPED a cause is written into the set and nothing follows. -/
theorem causesJoinWhileTripped : Obligations.CausesJoinWhileTripped := by
  unfold Obligations.CausesJoinWhileTripped
  refine ⟨fun s on tripped => ?_, exec_esdLineReleased_on, fun s on tripped live passed => ?_, fun s on h => ?_,
    fun s q holds tripped => ?_⟩
  · rw [exec_esdLineAsserted_marked on, addTripCause_of_tripped (s := s.esdMark) tripped, union_causeEsd]
    rfl
  · rw [exec_silenceExpiry_due on live passed, addTripCause_of_tripped (s := s.silentMark) tripped, union_causeSilent]
    rfl
  · rw [exec_silenceExpiry_on on, State.silenceExpired]
    rcases h with h | h
    · rw [h]
    · have early : ¬ s.rpu.lastValid + Config.silenceSeconds ≤ s.uptime := Nat.not_le.mpr h
      cases s.rpu.silence with
      | silent => rfl
      | live => simp only [if_neg early]
  · obtain ⟨t, ht, same, replied⟩ := holds.effected tripPart (u := s.addTripCause causeRequested) (data := [])
      rfl (by rw [addTripCause_of_tripped tripped]; exact .refl _)
    rw [addTripCause_of_tripped tripped, union_causeRequested] at same
    exact ⟨t, ht, replied, same⟩

end Sys2Proof.Machine
end

section
/-! The ring port's events (R2 to R12): what becomes of a frame the part does not take, of a manage frame to the part, and of the port
at the end of a sending. -/

namespace Sys2Proof.Machine

/-! ## Forwarding -/

/-- Behind a frame being sent a forwarded frame waits its turn (R4). -/
theorem forwardFrame_behind {r : Rpu} (f : Frame) (room : r.forward.length < Config.forwardCapacity) {g : Frame}
    (busy : r.sending = some g) :
    forwardFrame f r = { r with forward := r.forward ++ [sealFrame { f with hops := f.hops - 1 }] } := by
  rw [forwardFrame, if_pos room]
  exact kick_of_sending (f := g) busy

/-- A full forward buffer loses the frame (R7). -/
theorem forwardFrame_full {r : Rpu} (f : Frame) (full : Config.forwardCapacity ≤ r.forward.length) :
    forwardFrame f r = r := by
  rw [forwardFrame, if_neg (Nat.not_lt.mpr full)]

theorem ownReady_of_empty {r : Rpu} (actuates : r.actuates = []) (messages : r.messages = []) : ownReady r = false := by
  simp [ownReady, messageReady, actuates, messages]

theorem kick_idle {r : Rpu} (idle : r.sending = none) : kick r = boundary r := by
  rw [kick, idle]

theorem boundary_forwards_alone {r : Rpu} {f : Frame} {rest : List Frame} (forward : r.forward = f :: rest)
    (ready : ownReady r = false) : boundary r = { r with forward := rest, runCount := 0, sending := some f } := by
  simp [boundary, forward, ready]

/-- An idle port with nothing of its own sends the frame at once (R11, log 23). -/
theorem forwardFrame_idle {r : Rpu} (f : Frame) (forward : r.forward = []) (actuates : r.actuates = [])
    (messages : r.messages = []) (idle : r.sending = none) :
    forwardFrame f r = { r with runCount := 0, sending := some (sealFrame { f with hops := f.hops - 1 }) } := by
  have room : r.forward.length < Config.forwardCapacity := by rw [forward]; decide
  have sent := boundary_forwards_alone
    (r := { r with forward := r.forward ++ [sealFrame { f with hops := f.hops - 1 }] })
    (f := sealFrame { f with hops := f.hops - 1 }) (rest := []) (by rw [forward]; rfl) (ownReady_of_empty actuates messages)
  rw [forwardFrame, if_pos room]
  refine (kick_idle (by exact idle)).trans (sent.trans ?_)
  simp only [forward]

/-- A frame the part does not take is forwarded (R1, R4, R5). -/
theorem frameArrival_forwarded {s : State} {f : Frame} (valid : frameValid f = true) (hops : f.hops ≠ 0)
    (pass : s.rpu.address = none ∨
      ∃ a, s.rpu.address = some a ∧ f.source ≠ a ∧ f.kind ≠ 1 ∧ (f.kind = 3 → f.dest ≠ a)) :
    s.frameArrival f = s.noteValidFrame.modRpu (forwardFrame f) := by
  rcases pass with none | ⟨a, some, other, sample, manage⟩
  · rw [frameArrival_noAddress s f valid none, if_neg hops]
  · rw [frameArrival_other s f a valid some other, if_neg hops, State.disposeFrame, if_neg sample,
      if_neg fun h => manage h.1 h.2]
    rfl

/-- A SAMPLE frame is offered inward and then forwarded (R5, log 9). -/
theorem frameArrival_sample {s : State} {f : Frame} {a : Byte} (valid : frameValid f = true) (hops : f.hops ≠ 0)
    (address : s.rpu.address = some a) (other : f.source ≠ a) (sample : f.kind = 1) :
    s.frameArrival f = (s.noteValidFrame.offerSample f).modRpu (forwardFrame f) := by
  rw [frameArrival_other s f a valid address other, if_neg hops, State.disposeFrame, if_pos sample]
  rfl

/-- The forward buffer behind a frame being sent, after a frame for it. -/
theorem forward_forwardFrame {r : Rpu} (f : Frame) {g : Frame} (busy : r.sending = some g) :
    (forwardFrame f r).forward =
      if r.forward.length < 6 then r.forward ++ [sealFrame { f with hops := f.hops - 1 }] else r.forward := by
  split
  · next room => rw [forwardFrame_behind f room busy]
  · next full => rw [forwardFrame_full f (Nat.not_lt.mp full)]

theorem sending_forwardFrame {r : Rpu} (f : Frame) {g : Frame} (busy : r.sending = some g) :
    (forwardFrame f r).sending = some g := by
  by_cases room : r.forward.length < Config.forwardCapacity
  · rw [forwardFrame_behind f room busy]
    exact busy
  · rw [forwardFrame_full f (Nat.not_lt.mp room)]
    exact busy

/-- Settles O9: the three courses of a frame for the forward buffer; what is offered inward leaves a frame being sent alone. -/
theorem framesAreForwarded : Obligations.FramesAreForwarded := by
  unfold Obligations.FramesAreForwarded
  refine ⟨fun s f on invalid => ?_, fun s f on valid hops pass => ?_,
    fun s f a on valid hops address other sample => ?_⟩
  · rw [exec_frameArrival_on s f on, State.frameArrival, if_neg (by rw [invalid]; decide)]
  · rw [exec_frameArrival_on s f on, frameArrival_forwarded valid hops pass]
    refine ⟨fun room g busy => ?_, fun forward actuates messages idle => ?_, fun full => ?_⟩
    · have after := forwardFrame_behind (r := s.noteValidFrame.rpu) f room busy
      rw [State.modRpu, after]
      rfl
    · have after := forwardFrame_idle (r := s.noteValidFrame.rpu) f forward actuates messages idle
      rw [State.modRpu, after]
      rfl
    · have after := forwardFrame_full (r := s.noteValidFrame.rpu) f full
      rw [State.modRpu, after]
  · refine ⟨_, ?_, rfl, fun g busy _ => ?_⟩
    · rw [exec_frameArrival_on s f on, frameArrival_sample valid hops address other sample]
    · have calm := (turning_offerSample s.noteValidFrame f).calm
      have still : (s.noteValidFrame.offerSample f).rpu.sending = some g := calm.sending g busy
      have same : (s.noteValidFrame.offerSample f).rpu.forward = s.rpu.forward := calm.waiting g busy
      refine ⟨sending_forwardFrame f still, ?_⟩
      rw [← same]
      exact forward_forwardFrame f still

/-! ## Taking a request on -/

/-- The unit takes a request on: the head of the queue, with a place reserved for its reply (R9, R182). -/
theorem takeRequest_taken {s : State} {q : Request} {rest : List Request} (idle : s.mgu.held = none)
    (queue : s.rpu.requests = q :: rest) (room : s.rpu.messages.length < Config.messageCapacity) :
    s.takeRequest = { s with
      mgu := { s.mgu with held := some q }
      rpu := { s.rpu with requests := rest, messages := s.rpu.messages ++ [.reservation] } } := by
  unfold State.takeRequest
  simp only [idle, queue, if_pos room]

/-- The unit takes no request on while it holds one, or where no place can be reserved. -/
theorem takeRequest_none {s : State} (h : s.mgu.held ≠ none ∨ Config.messageCapacity ≤ s.rpu.messages.length) :
    s.takeRequest = s := by
  unfold State.takeRequest
  split
  · next idle _ =>
    split
    · next room =>
      rcases h with h | h
      · exact absurd idle h
      · exact absurd room (Nat.not_lt.mpr h)
    · rfl
  · rfl

/-- What taking a request writes, the message queue grown by a reservation at most. -/
theorem takeRequest_tail (s : State) : ∃ m p tail, (tail = [] ∨ tail = [.reservation]) ∧ s.takeRequest =
    { s with mgu := { s.mgu with held := m }, rpu := { s.rpu with requests := p, messages := s.rpu.messages ++ tail } } := by
  unfold State.takeRequest
  split
  · split
    · exact ⟨_, _, _, .inr rfl, rfl⟩
    · exact ⟨s.mgu.held, s.rpu.requests, [], .inl rfl, by rw [List.append_nil]⟩
  · exact ⟨s.mgu.held, s.rpu.requests, [], .inl rfl, by rw [List.append_nil]⟩

/-- A manage frame to the part goes to the unit's queue, or round the ring (R6). -/
theorem frameArrival_manage {s : State} {f : Frame} {a : Byte} (valid : frameValid f = true)
    (address : s.rpu.address = some a) (other : f.source ≠ a) (hops : f.hops ≠ 0) (kind : f.kind = 3) (dest : f.dest = a) :
    s.frameArrival f = s.noteValidFrame.takeManage f := by
  rw [frameArrival_other s f a valid address other, if_neg hops, State.disposeFrame,
    if_neg (by rw [kind]; decide), if_pos ⟨kind, dest⟩]

/-- Settles O10: a request joins the queue, and its head is taken on where the unit is idle and a place is free. -/
theorem manageFramesAreTaken : Obligations.ManageFramesAreTaken := by
  unfold Obligations.ManageFramesAreTaken
  intro s f a on valid address other hops kind dest
  rw [exec_frameArrival_on s f on, frameArrival_manage valid address other hops kind dest]
  refine ⟨fun room => ?_, fun full => ?_⟩
  · have room' : s.noteValidFrame.rpu.requests.length < Config.requestCapacity := room
    refine ⟨_, rfl, ?_⟩
    rw [State.takeManage, if_pos room']
    generalize hq : Request.mk f.source f.tag f.body = q
    have queued : ∃ head tail, s.rpu.requests ++ [q] = head :: tail := by
      cases s.rpu.requests with
      | nil => exact ⟨_, _, rfl⟩
      | cons x l => exact ⟨_, _, rfl⟩
    obtain ⟨head, tail, queue⟩ := queued
    obtain ⟨m, p, w, _, taken⟩ := takeRequest_tail
      (s.noteValidFrame.modRpu (fun r => { r with requests := r.requests ++ [q] }))
    refine ⟨by rw [taken]; rfl, by rw [taken]; rfl, by rw [taken]; rfl, by rw [taken]; rfl, by rw [taken]; rfl,
      by rw [taken]; rfl, by rw [taken]; rfl, by rw [taken]; rfl, fun refused => ?_, fun idle free => ?_⟩
    · rw [takeRequest_none (s := s.noteValidFrame.modRpu (fun r => { r with requests := r.requests ++ [q] })) refused]
      exact ⟨rfl, rfl, rfl⟩
    · rw [takeRequest_taken (s := s.noteValidFrame.modRpu (fun r => { r with requests := r.requests ++ [q] }))
        idle queue free, queue]
      exact ⟨rfl, rfl, rfl⟩
  · have full' : ¬ s.noteValidFrame.rpu.requests.length < Config.requestCapacity := Nat.not_lt.mpr full
    rw [State.takeManage, if_neg full']
    rfl

/-! ## The end of a sending -/

theorem messageReady_iff (r : Rpu) : messageReady r = true ↔
    (∃ d tag body rest, r.messages = .reply d tag body :: rest) ∨ ∃ tag body rest, r.messages = .notice tag body :: rest := by
  unfold messageReady
  split
  · next h => simp [h]
  · next h => simp [h]
  · next h => simp [h]
  · next h => simp [h]

theorem ownReady_iff (r : Rpu) : ownReady r = true ↔ r.address ≠ none ∧ (r.actuates ≠ [] ∨
    (∃ d tag body rest, r.messages = .reply d tag body :: rest) ∨
    ∃ tag body rest, r.messages = .notice tag body :: rest) := by
  rw [ownReady, Bool.and_eq_true, Bool.or_eq_true, messageReady_iff, Option.isSome_iff_ne_none, Bool.not_eq_true',
    List.isEmpty_eq_false_iff]

theorem transmitComplete_eq {s : State} {g : Frame} (busy : s.rpu.sending = some g) :
    s.transmitComplete = (s.modRpu (fun r => boundary { r with sending := none })).takeRequest := by
  rw [State.transmitComplete, busy]

theorem exec_transmitComplete_on {s : State} (on : s.powered = true) : exec .transmitComplete s = .next s.transmitComplete :=
  whenPowered_on s _ on

/-- Nothing of the part's own is ready: the port goes idle (R11, case 4). -/
theorem sendOwn_idle {r : Rpu} (h : ownReady r = false) : sendOwn r = { r with sending := none } := by
  unfold ownReady messageReady at h
  unfold sendOwn
  cases adr : r.address with
  | none => simp only
  | some a =>
    rw [adr] at h
    simp only
    cases act : r.actuates with
    | cons e l => rw [act] at h; simp at h
    | nil =>
      cases msg : r.messages with
      | nil => simp only
      | cons m l =>
        cases m with
        | reply d t b => rw [msg] at h; simp at h
        | notice t b => rw [msg] at h; simp at h
        | reservation => simp only

/-- The arbiter's cases at an idle port (R11). -/
theorem boundary_forwards {r : Rpu} {f : Frame} {rest : List Frame} (forward : r.forward = f :: rest)
    (ready : ownReady r = true) (run : r.runCount < Config.forwardRunLimit) :
    boundary r = { r with forward := rest, runCount := r.runCount + 1, sending := some f } := by
  simp [boundary, forward, ready, run]

theorem boundary_own {r : Rpu} (ready : ownReady r = true) (turn : r.forward = [] ∨ Config.forwardRunLimit ≤ r.runCount) :
    boundary r = sendOwn r := by
  unfold boundary
  split
  · next f rest forward =>
    rw [if_pos ready, if_neg]
    rcases turn with e | e
    · rw [forward] at e
      cases e
    · exact Nat.not_lt.mpr e
  · rfl

theorem boundary_idle {r : Rpu} (ready : ownReady r = false) (forward : r.forward = []) :
    boundary r = { r with sending := none } := by
  unfold boundary
  split
  · next f rest h => rw [forward] at h; cases h
  · exact sendOwn_idle ready

theorem sequenceOf_setSequence (r : Rpu) {k : Nat} (h : k < 256) (b : Byte) : (r.setSequence k b).sequenceOf k = b := by
  simp [Rpu.sequenceOf, Rpu.setSequence, h]

/-- A ready own frame leaves as R12 builds it, whatever reservation joins the message queue after it. -/
theorem ownFrameSent_sendOwn {r : Rpu} {a : Byte} (address : r.address = some a) (ready : ownReady r = true)
    {p : List Request} {tail : List Message} (ht : tail = [] ∨ tail = [.reservation]) :
    (sendOwn r).forward = r.forward ∧ (sendOwn r).runCount = 0 ∧
      OwnFrameSent r { sendOwn r with requests := p, messages := (sendOwn r).messages ++ tail } a := by
  have some_ready := (ownReady_iff r).mp ready
  unfold OwnFrameSent sendOwn
  simp only [address]
  cases act : r.actuates with
  | cons e l =>
    obtain ⟨v, hv⟩ := setSequence_eq r e.index (r.sequenceOf e.index + 1)
    refine ⟨by simp only [hv], rfl, rfl, rfl, fun index => ?_⟩
    exact sequenceOf_setSequence r index _
  | nil =>
    cases msg : r.messages with
    | nil => simp [act, msg] at some_ready
    | cons m l =>
      cases m with
      | reply d t b => exact ⟨rfl, rfl, ⟨tail, rfl, ht⟩, rfl, rfl⟩
      | notice t b => exact ⟨rfl, rfl, ⟨tail, rfl, ht⟩, rfl, rfl⟩
      | reservation => simp [act, msg] at some_ready

/-- Settles O11: the four cases of the arbiter, each with what a freed place may then take on. -/
theorem arbiterSharesThePort : Obligations.ArbiterSharesThePort := by
  unfold Obligations.ArbiterSharesThePort
  refine ⟨fun s on idle => ?_, fun s g a on busy address => ?_, ownReady_iff, fun s g on busy address => ?_⟩
  · rw [exec_transmitComplete_on on, State.transmitComplete, idle]
  · refine ⟨_, exec_transmitComplete_on on, ?_⟩
    rw [transmitComplete_eq busy]
    obtain ⟨m, p, tail, ht, taken⟩ := takeRequest_tail (s.modRpu (fun r => boundary { r with sending := none }))
    rw [taken]
    refine ⟨rfl, rfl, rfl, rfl, rfl, fun f rest forward ready run => ?_, fun f rest forward ready => ?_,
      fun ready turn => ?_, fun ready forward => ?_⟩
    · have decided := boundary_forwards (r := { s.rpu with sending := none }) forward ready run
      simp only [State.modRpu, decided]
      exact ⟨trivial, trivial, trivial, trivial⟩
    · have decided := boundary_forwards_alone (r := { s.rpu with sending := none }) forward ready
      simp only [State.modRpu, decided]
      exact ⟨trivial, trivial, trivial⟩
    · have decided := boundary_own (r := { s.rpu with sending := none }) ready turn
      simp only [State.modRpu, decided]
      exact ownFrameSent_sendOwn (r := { s.rpu with sending := none }) address ready ht
    · have decided := boundary_idle (r := { s.rpu with sending := none }) ready forward
      simp only [State.modRpu, decided]
  · have silent : ownReady { s.rpu with sending := none } = false := by simp [ownReady, address]
    refine ⟨_, exec_transmitComplete_on on, ?_⟩
    rw [transmitComplete_eq busy]
    obtain ⟨m, p, tail, _, taken⟩ := takeRequest_tail (s.modRpu (fun r => boundary { r with sending := none }))
    rw [taken]
    cases forward : s.rpu.forward with
    | nil =>
      have decided := boundary_idle (r := { s.rpu with sending := none }) silent forward
      simp only [State.modRpu, decided]
      exact ⟨rfl, forward, trivial⟩
    | cons f rest =>
      have decided := boundary_forwards_alone (r := { s.rpu with sending := none }) forward silent
      simp only [State.modRpu, decided]
      exact ⟨rfl, rfl, trivial⟩

end Sys2Proof.Machine
end

section
/-! The bytes of a sample (R24, R26, R190). -/

namespace Sys2Proof.Machine

theorem byte_eq_of_toNat {b c : Byte} (h : b.toNat = c.toNat) : b = c := BitVec.eq_of_toNat_eq h

/-- The number two bytes carry as a word is the one of their concatenation. -/
theorem append_eq_ofNat (a b : Byte) : (a ++ b : Word16) = BitVec.ofNat 16 (256 * a.toNat + b.toNat) := by
  refine BitVec.eq_of_toNat_eq ?_
  have ha : a.toNat < 2 ^ 8 := a.isLt
  have hb : b.toNat < 2 ^ 8 := b.isLt
  have append : (a ++ b : Word16).toNat = a.toNat * 2 ^ 8 + b.toNat := by
    rw [BitVec.toNat_append, Nat.shiftLeft_eq, ← Nat.shiftLeft_eq, Nat.shiftLeft_add_eq_or_of_lt hb]
  rw [append, BitVec.toNat_ofNat]
  omega

theorem numS2_eq_signedOf (a b : Byte) : numS2 a b = signedOf a b := by
  have hb : b.toNat < 2 ^ 8 := b.isLt
  unfold numS2 signedOf num2
  split <;> split <;> omega

theorem toNat_eq_one_iff (b : Byte) : b.toNat = 1 ↔ b = 1 := ⟨fun h => byte_eq_of_toNat h, fun h => by rw [h]; rfl⟩
theorem toNat_eq_two_iff (b : Byte) : b.toNat = 2 ↔ b = 2 := ⟨fun h => byte_eq_of_toNat h, fun h => by rw [h]; rfl⟩
theorem toNat_eq_three_iff (b : Byte) : b.toNat = 3 ↔ b = 3 := ⟨fun h => byte_eq_of_toNat h, fun h => by rw [h]; rfl⟩
theorem toNat_eq_four_iff (b : Byte) : b.toNat = 4 ↔ b = 4 := ⟨fun h => byte_eq_of_toNat h, fun h => by rw [h]; rfl⟩

theorem positionOf_eq (b : Byte) : positionOf b = if b = 1 then .value (.position .opened)
    else if b = 2 then .value (.position .closed) else if b = 3 then .value (.position .travel) else .invalid := by
  simp only [← toNat_eq_one_iff, ← toNat_eq_two_iff, ← toNat_eq_three_iff]
  unfold positionOf
  split
  · next h => rw [if_pos h]
  · next h => rw [if_neg (by omega), if_pos h]
  · next h => rw [if_neg (by omega), if_neg (by omega), if_pos h]
  · next h1 h2 h3 => rw [if_neg h1, if_neg h2, if_neg h3]

theorem discreteOf_eq (b : Byte) : discreteOf b = if b = 1 then .value (.discrete .normal)
    else if b = 2 then .value (.discrete .abnormal) else .invalid := by
  simp only [← toNat_eq_one_iff, ← toNat_eq_two_iff]
  unfold discreteOf
  split
  · next h => rw [if_pos h]
  · next h => rw [if_neg (by omega), if_pos h]
  · next h1 h2 => rw [if_neg h1, if_neg h2]

theorem compReadingOf_eq (b : Byte) : compReadingOf b = if b = 1 then .value (.compressor .stopped)
    else if b = 2 then .value (.compressor .runningFwd) else if b = 3 then .value (.compressor .runningRev)
    else if b = 4 then .value (.compressor .fault) else .invalid := by
  simp only [← toNat_eq_one_iff, ← toNat_eq_two_iff, ← toNat_eq_three_iff, ← toNat_eq_four_iff]
  unfold compReadingOf
  split
  · next h => rw [if_pos h]
  · next h => rw [if_neg (by omega), if_pos h]
  · next h => rw [if_neg (by omega), if_neg (by omega), if_pos h]
  · next h => rw [if_neg (by omega), if_neg (by omega), if_neg (by omega), if_pos h]
  · next h1 h2 h3 h4 => rw [if_neg h1, if_neg h2, if_neg h3, if_neg h4]

theorem parseSample_tag (c n : Byte) (chars : List Byte) (h : chars.length = n.toNat) :
    parseSample (c :: 7 :: n :: chars) = some ⟨c, .tag, tagOf chars⟩ := by
  change (if chars.length = n.toNat then some _ else none) = _
  rw [if_pos h]

/-- Which bodies are read: one case for each kind code (R190). -/
theorem parseSample_ne_none_iff (body : List Byte) : parseSample body ≠ none ↔
    ∃ channel kind value, body = channel :: kind :: value ∧ KindSuits kind value := by
  constructor
  · intro h
    unfold parseSample at h
    split at h
    · next channel kind value =>
      refine ⟨channel, kind, value, rfl, ?_⟩
      unfold KindSuits
      split at h
      · next e => exact .inl ⟨byte_eq_of_toNat e, rfl⟩
      · next e => exact .inr (.inl ⟨.inl (byte_eq_of_toNat e), rfl⟩)
      · next e => exact .inr (.inl ⟨.inr (byte_eq_of_toNat e), rfl⟩)
      · next e => exact .inr (.inr (.inl ⟨.inl (byte_eq_of_toNat e), rfl⟩))
      · next e => exact .inr (.inr (.inl ⟨.inr (.inl (byte_eq_of_toNat e)), rfl⟩))
      · next e => exact .inr (.inr (.inl ⟨.inr (.inr (byte_eq_of_toNat e)), rfl⟩))
      · next n chars e =>
        split at h
        · next length => exact .inr (.inr (.inr ⟨byte_eq_of_toNat e, n, chars, rfl, length⟩))
        · exact absurd rfl h
      · exact absurd rfl h
    · exact absurd rfl h
  · rintro ⟨channel, kind, value, rfl, ⟨rfl, four⟩ | ⟨kinds, two⟩ | ⟨kinds, one⟩ | ⟨rfl, n, chars, rfl, length⟩⟩
    · obtain ⟨a, b, c, d, rfl⟩ := List.length_eq_four.mp four
      exact Option.some_ne_none _
    · obtain ⟨a, b, rfl⟩ := List.length_eq_two.mp two
      rcases kinds with rfl | rfl <;> exact Option.some_ne_none _
    · obtain ⟨a, rfl⟩ := List.length_eq_one_iff.mp one
      rcases kinds with rfl | rfl | rfl <;> exact Option.some_ne_none _
    · rw [parseSample_tag channel n chars length]
      exact Option.some_ne_none _

theorem clampInt_eq (lo hi v : Int) (h : lo ≤ hi) : clampInt lo hi v = max lo (min hi v) := by
  unfold clampInt
  split
  · omega
  · split <;> omega

theorem offerSample_of_no_sample {s : State} {f : Frame} (h : parseSample f.body = none) : s.offerSample f = s := by
  rw [State.offerSample, h]

/-- A sample that fails a test before the sequence test changes nothing (R24, R26). -/
theorem offerSample_of_failed {s : State} {f : Frame} {x : Sample} (hx : parseSample f.body = some x)
    (h : 15 < x.channel.toNat ∨ findKey s.imap f.source x.channel = none ∨
      (∃ k e o, findKey s.imap f.source x.channel = some (k, e) ∧ e.body = .output o) ∨
      (∃ k e, findKey s.imap f.source x.channel = some (k, e) ∧ valueTest e.role x = none)) : s.offerSample f = s := by
  unfold State.offerSample
  simp only [hx]
  split
  · rfl
  · next channel =>
    rcases h with h | h | ⟨k, e, o, hk, ho⟩ | ⟨k, e, hk, hv⟩
    · exact absurd h channel
    · simp only [h]
    · simp only [hk, ho]
    · simp only [hk, hv]
      split
      · rfl
      · split <;> rfl

theorem valueTest_some {r : Role} {x : Sample} {v : Value} (h : valueTest r x = some v) :
    r.kind = some x.kind ∧ x.reading = .value v := by
  unfold valueTest at h
  split at h
  · next kind =>
    split at h
    · next w hw => cases h; exact ⟨kind, hw⟩
    · cases h
  · cases h

/-- Settles O13: the bytes of each kind, and the tests in their order. -/
theorem samplesAreTested : Obligations.SamplesAreTested := by
  unfold Obligations.SamplesAreTested
  refine ⟨parseSample_ne_none_iff, fun c n1 n0 t1 t0 => ?_, fun c b1 b0 => ?_, fun c b => ?_, fun c n chars length => ?_,
    fun s f h => offerSample_of_no_sample h, fun s f x hx h => offerSample_of_failed hx h, fun r x v => valueTest_some,
    fun t => ?_, fun p => ?_⟩
  · rw [← append_eq_ofNat, ← append_eq_ofNat]
    rfl
  · rw [← numS2_eq_signedOf]
    exact ⟨rfl, rfl⟩
  · rw [← positionOf_eq, ← discreteOf_eq, ← compReadingOf_eq]
    exact ⟨rfl, rfl, rfl⟩
  · rw [parseSample_tag c n chars length, tagOf, length]
  · rw [clampValue, clampInt_eq _ _ _ (by decide)]
  · rw [clampValue, clampInt_eq _ _ _ (by decide)]

end Sys2Proof.Machine
end

section
/-! Conditions and their latches (R33 to R35), one credit (R112 to R118), refreshes (R161), the second of uptime (R153). -/

namespace Sys2Proof.Machine

/-! ## Conditions -/

theorem rpu_storeConditions (s : State) (i : SpotId) (now : Conditions) :
    (s.storeConditions i now).rpu =
      if (((s.values i).changed now).zip (fun c l => c && !l) (s.latches i)).some then
        offerNotice ([1, byte (spotNumber i)] ++ bytesSet now.members ++
          bytesSet ((s.latches i).zip (fun l c => l || c) ((s.values i).changed now)).members) s.rpu
      else s.rpu := by
  unfold State.storeConditions
  simp only
  split
  · next h => exact (if_pos h).symm
  · next h => exact (if_neg h).symm

theorem values_clearLatches (s : State) (i j : SpotId) (named : Conditions) :
    (s.clearLatches i named).values j = s.values j := by
  by_cases h : j = i
  · subst h
    unfold State.values State.clearLatches
    rw [vectorGet_set_same]
    rfl
  · exact congrArg SpotConditions.values (vectorGet_set_other s.conditions _ h)

theorem latches_clearLatches_same (s : State) (i : SpotId) (named : Conditions) :
    (s.clearLatches i named).latches i = (s.latches i).zip (fun l n => l && !n) named :=
  congrArg SpotConditions.latches
    (vectorGet_set_same s.conditions i ⟨s.values i, (s.latches i).zip (fun l n => l && !n) named⟩)

theorem latches_clearLatches_other (s : State) {i j : SpotId} (h : j ≠ i) (named : Conditions) :
    (s.clearLatches i named).latches j = s.latches j :=
  congrArg SpotConditions.latches (vectorGet_set_other s.conditions _ h)

theorem values_of_conditions {s t : State} (h : t.conditions = s.conditions) (i : SpotId) : t.values i = s.values i := by
  rw [State.values, State.values, h]

theorem latches_of_conditions {s t : State} (h : t.conditions = s.conditions) (i : SpotId) :
    t.latches i = s.latches i := by
  rw [State.latches, State.latches, h]

/-- Settles O18: what storing a condition set and clearing latches write. -/
theorem changesLatchUntilAcknowledged : Obligations.ChangesLatchUntilAcknowledged := by
  unfold Obligations.ChangesLatchUntilAcknowledged
  refine ⟨fun s i => ?stored, fun s q n set i h h6 h7 hi => ?named, fun s q n set h h67 => ?unnamed,
    fun s q n set h h6 h7 hi => ?range⟩
  case stored =>
    refine ⟨?_, ?_, fun j hj => ⟨?_, ?_⟩, rpu_storeConditions s i _⟩
    · rw [State.reevaluate, values_storeConditions, if_pos rfl]
    · rw [State.reevaluate, latches_storeConditions, if_pos rfl]
    · rw [State.reevaluate, values_storeConditions, if_neg hj]
    · rw [State.reevaluate, latches_storeConditions, if_neg hj]
  case named =>
    let u := s.clearLatches i (conditionsOf set)
    have effect : ackSpot [n, set] s = (u, ⟨.done, bytesSet (u.values i).members ++ bytesSet (u.latches i).members⟩) := by
      simp only [ackSpot, h6, h7, onSpot_some s hi]
      rfl
    obtain ⟨t, ht, same, rep⟩ := h.effected ackSpot effect (.refl _)
    have values := fun j => (values_of_conditions same.conditions j).trans (values_clearLatches s i j _)
    have latches := latches_of_conditions same.conditions
    refine ⟨t, ht, values i, (latches i).trans (latches_clearLatches_same s i _),
      fun j hj => ⟨values j, (latches j).trans (latches_clearLatches_other s hj _)⟩, ?_, ?_⟩
    · exact ⟨same.pins, same.powered, same.uptime, same.freeDraws, same.imap, rfl, same.table, same.groups,
        same.manifest, same.spots, same.comps, same.waitList, same.sdu, same.standing, same.pending⟩
    · rw [values_of_conditions same.conditions, latches i]
      exact rep
  case unnamed =>
    refine h.answered ackSpot ?_
    have named : (bitOf set 6 || bitOf set 7) = true := by simpa using h67
    simp only [ackSpot, named]
    rfl
  case range =>
    refine h.answered ackSpot ?_
    simp only [ackSpot, h6, h7, onSpot_none s hi]
    rfl

/-! ## One credit -/

/-- R118: the net sum keeps its residue. -/
theorem credit_net (a : Accumulators) (k : CreditInputs) (d e : Nat) :
    (credit a k d e).net * 100000 + (credit a k d e).netRes =
      a.net * 100000 + a.netRes + ((credit a k d e).gross - a.gross) * correction k.group k.temp := by
  simp only [credit, Nat.add_sub_cancel_left]
  omega

/-- Settles O20: each stage carries its quotient, and leaves its remainder in the residue. -/
theorem creditIsExact : Obligations.CreditIsExact := by
  intro a c d e hk
  have raw := credit_raw a c d e
  have gross := credit_gross a c d e
  refine ⟨rfl, rfl, rfl, Nat.mod_lt _ hk, raw, rfl, gross, Nat.mod_lt _ (by decide), ?_, Nat.mod_lt _ (by decide), rfl⟩
  exact credit_net a c d e

/-! ## Refreshes -/

theorem OnlyMap.freeDraws {s t : State} (h : OnlyMap s t) : t.freeDraws = s.freeDraws := by rw [h.eq]


theorem due_some {u v : Nat} (h : u ≤ v) : due (some u) v = true := by simpa [due] using h

theorem due_not {o : Option Nat} {v : Nat} (h : o = none ∨ ∃ u, o = some u ∧ v < u) : due o v = false := by
  rcases h with rfl | ⟨u, rfl, hu⟩
  · rfl
  · simpa [due] using hu

/-- Settles O46: the command of a due image is offered, behind a frame being sent it is the one queued. -/
theorem refreshRepeatsTheCommand : Obligations.RefreshRepeatsTheCommand := by
  unfold Obligations.RefreshRepeatsTheCommand
  refine ⟨fun s k e o u cmd hp _ he ho hu hdue hcmd => ⟨s.offerCommand k cmd, ?_, ?_⟩, fun s k hp h => ?_⟩
  · refine (whenPowered_on s (fun s => s.refreshExpired k) hp).trans ?_
    simp only [State.refreshExpired, he, ho, hu, due_some hdue, hcmd, if_true]
  · obtain ⟨entry, others, port⟩ := offerCommand_image (k := k) (e := e) (o := o) ⟨he, ho⟩ cmd
    have only := onlyMap_offerCommand s k cmd
    refine ⟨entry, others, fun a f ha hf => ?_, ?_⟩
    · rw [port, queuedCommand_offerActuate ha hf, if_pos rfl]
    · exact ⟨only.pins, only.powered, only.uptime, only.freeDraws, rfl, only.conditions, only.table,
        only.groups, only.manifest, only.spots, only.comps, only.waitList, only.sdu,
        congrArg Mgu.standing only.mgu, only.pending⟩
  · refine (whenPowered_on s (fun s => s.refreshExpired k) hp).trans (congrArg Host.Outcome.next ?_)
    unfold State.refreshExpired
    rcases h with he | ⟨e, d, he, hd⟩ | ⟨e, o, he, ho, h⟩
    · rw [he]
    · simp only [he, hd]
    · simp only [he, ho, due_not h, Bool.false_eq_true, if_false]

/-! ## The second of uptime -/

theorem comp_foldl_modComp (f : Compressor → Compressor) (l : List CompId) (nodup : l.Nodup) (s : State) (d : CompId) :
    (l.foldl (fun t c => t.modComp c f) s).comp d = if d ∈ l then f (s.comp d) else s.comp d := by
  induction l generalizing s with
  | nil => rfl
  | cons c l ih =>
    obtain ⟨hc, hl⟩ := List.nodup_cons.mp nodup
    rw [List.foldl_cons, ih hl, comp_modComp]
    by_cases h : d = c
    · subst h
      rw [if_neg hc, if_pos rfl, if_pos (List.mem_cons_self ..)]
    · simp only [h, if_false, List.mem_cons, false_or]

theorem foldl_modComp_eq (f : Compressor → Compressor) (l : List CompId) (s : State) :
    l.foldl (fun t c => t.modComp c f) s = { s with comps := (l.foldl (fun t c => t.modComp c f) s).comps } := by
  induction l generalizing s with
  | nil => rfl
  | cons c l ih => exact ih (s.modComp c f)

theorem mem_allComps (c : CompId) : c ∈ allComps := by revert c; decide

/-- One second counted at every compressor. -/
def State.secondCounted (s : State) : State := allComps.foldl (fun t c => t.modComp c addSecond) s

theorem comp_secondCounted (s : State) (c : CompId) : s.secondCounted.comp c = addSecond (s.comp c) := by
  rw [State.secondCounted, comp_foldl_modComp _ _ (by decide), if_pos (mem_allComps c)]

theorem secondCounted_eq (s : State) : s.secondCounted = { s with comps := s.secondCounted.comps } :=
  foldl_modComp_eq _ _ _

theorem residency_addSecond (x : Compressor) (k : Fin 8) :
    (addSecond x).residency.get k = if k = x.level.place then min (x.residency.get k + 1) 4294967295
      else x.residency.get k := by
  unfold addSecond
  split
  · next h =>
    subst h
    exact vectorGet_set_same _ _ _
  · next h => exact vectorGet_set_other _ _ h

theorem tickUptime_cases (s : State) :
    (s.uptime < 4294967295 ∧ s.tickUptime = { s with uptime := s.uptime + 1 }) ∨
    (4294967295 ≤ s.uptime ∧ s.tickUptime = { s with
      uptime := (Config.uptimePastOverflow s.freeDraws).toNat, freeDraws := s.freeDraws + 1 }) := by
  unfold State.tickUptime
  split
  · next h => exact .inl ⟨h, rfl⟩
  · next h => exact .inr ⟨Nat.le_of_not_lt h, rfl⟩

/-- Settles O47: the second is counted at each compressor's level, then the clock moves. -/
theorem secondsCountAtTheLevel : Obligations.SecondsCountAtTheLevel := by
  intro s hp
  refine ⟨s.secondCounted.tickUptime, whenPowered_on s (fun s => s.secondCounted.tickUptime) hp, ?_⟩
  have counted := comp_secondCounted s
  have only := secondCounted_eq s
  generalize s.secondCounted = u at *
  have comps : u.tickUptime.comps = u.comps := by
    rcases tickUptime_cases u with ⟨_, h⟩ | ⟨_, h⟩ <;> rw [h]
  have comp : ∀ c, u.tickUptime.comp c = addSecond (s.comp c) := fun c => (comp_of_comps comps c).trans (counted c)
  have uptime : u.uptime = s.uptime := by rw [only]
  have draws : u.freeDraws = s.freeDraws := by rw [only]
  refine ⟨fun c k => ?_, fun c => ?_, fun h => ?_, fun h => ?_, ?_⟩
  · rw [comp, residency_addSecond]
  · rw [comp]
    rfl
  · rcases tickUptime_cases u with ⟨_, e⟩ | ⟨past, _⟩
    · rw [e]
      exact ⟨congrArg (· + 1) uptime, draws⟩
    · omega
  · rcases tickUptime_cases u with ⟨before, _⟩ | ⟨_, e⟩
    · omega
    · rw [e]
      exact congrArg (· + 1) draws
  · rcases tickUptime_cases u with ⟨_, e⟩ | ⟨_, e⟩ <;> rw [e, only]

end Sys2Proof.Machine
end

section
/-! What notices and stored conditions leave as it is; RELEASE and CLEAR (R82 to R84). -/

namespace Sys2Proof.Machine

/-! ## Operations that write the ring port alone, or the conditions with it -/

/-- Only the ring port differs. -/
structure OnlyPort (s t : State) : Prop where
  eq : t = { s with rpu := t.rpu }

theorem OnlyPort.refl (s : State) : OnlyPort s s := ⟨rfl⟩

theorem OnlyPort.trans {a b c : State} (h : OnlyPort a b) (k : OnlyPort b c) : OnlyPort a c := by
  refine ⟨?_⟩
  rw [k.eq, h.eq]

theorem OnlyPort.onlyMap {s t : State} (h : OnlyPort s t) : OnlyMap s t := by
  refine ⟨?_⟩
  rw [h.eq]

theorem OnlyPort.imap {s t : State} (h : OnlyPort s t) : t.imap = s.imap := by rw [h.eq]

theorem onlyPort_notice (s : State) (b : List Byte) : OnlyPort s (s.notice b) := ⟨rfl⟩

theorem onlyPort_standingReport (s : State) (i : SpotId) : OnlyPort s (s.standingReport i) := by
  unfold State.standingReport
  split
  · exact onlyPort_notice _ _
  · exact .refl s

theorem onlyPort_announce (s : State) (i : SpotId) : OnlyPort s (s.announce i) :=
  (onlyPort_notice _ _).trans (onlyPort_standingReport _ _)

/-- Only the ring port and the condition sets differ. -/
structure OnlyConditions (s t : State) : Prop where
  eq : t = { s with rpu := t.rpu, conditions := t.conditions }

theorem OnlyConditions.refl (s : State) : OnlyConditions s s := ⟨rfl⟩

theorem OnlyConditions.trans {a b c : State} (h : OnlyConditions a b) (k : OnlyConditions b c) : OnlyConditions a c := by
  refine ⟨?_⟩
  rw [k.eq, h.eq]

theorem onlyConditions_storeConditions (s : State) (i : SpotId) (now : Conditions) :
    OnlyConditions s (s.storeConditions i now) := by
  unfold State.storeConditions
  simp only
  split <;> exact ⟨rfl⟩

theorem onlyConditions_reportUnknownTag (s : State) (i : SpotId) (b : Bool) :
    OnlyConditions s (s.reportUnknownTag i b) := by
  unfold State.reportUnknownTag
  split
  · exact .refl s
  · exact onlyConditions_storeConditions _ _ _

theorem OnlyConditions.imap {s t : State} (h : OnlyConditions s t) : t.imap = s.imap := by rw [h.eq]
theorem OnlyConditions.manifest {s t : State} (h : OnlyConditions s t) : t.manifest = s.manifest := by rw [h.eq]
theorem OnlyConditions.table {s t : State} (h : OnlyConditions s t) : t.table = s.table := by rw [h.eq]
theorem OnlyConditions.groups {s t : State} (h : OnlyConditions s t) : t.groups = s.groups := by rw [h.eq]
theorem OnlyConditions.comps {s t : State} (h : OnlyConditions s t) : t.comps = s.comps := by rw [h.eq]
theorem OnlyConditions.sdu {s t : State} (h : OnlyConditions s t) : t.sdu = s.sdu := by rw [h.eq]
theorem OnlyConditions.mgu {s t : State} (h : OnlyConditions s t) : t.mgu = s.mgu := by rw [h.eq]
theorem OnlyConditions.spot {s t : State} (h : OnlyConditions s t) (i : SpotId) : t.spot i = s.spot i :=
  spot_of_spots (by rw [h.eq]) i

theorem unknownTag_reportUnknownTag (s : State) (i : SpotId) (b : Bool) :
    ((s.reportUnknownTag i b).values i).unknownTag = b := by
  unfold State.reportUnknownTag
  split
  · next h => exact h
  · rw [values_storeConditions, if_pos rfl]
    rfl

/-! ## A change of a spot's state -/

/-- Only the ring port and the contexts differ. -/
structure OnlySpots (s t : State) : Prop where
  eq : t = { s with rpu := t.rpu, spots := t.spots }

theorem onlySpots_changeState (s : State) (i : SpotId) (st : SpotState) : OnlySpots s (s.changeState i st) := by
  refine ⟨?_⟩
  rw [State.changeState, (onlyPort_announce _ i).eq]
  rfl

theorem spot_changeState (s : State) (i j : SpotId) (st : SpotState) :
    (s.changeState i st).spot j = if j = i then { s.spot i with state := st } else s.spot j := by
  rw [State.changeState, (onlyPort_announce _ i).onlyMap.spot, State.setState, spot_modSpot]

theorem OnlySpots.imap {s t : State} (h : OnlySpots s t) : t.imap = s.imap := by rw [h.eq]
theorem OnlySpots.manifest {s t : State} (h : OnlySpots s t) : t.manifest = s.manifest := by rw [h.eq]
theorem OnlySpots.table {s t : State} (h : OnlySpots s t) : t.table = s.table := by rw [h.eq]
theorem OnlySpots.groups {s t : State} (h : OnlySpots s t) : t.groups = s.groups := by rw [h.eq]
theorem OnlySpots.comps {s t : State} (h : OnlySpots s t) : t.comps = s.comps := by rw [h.eq]
theorem OnlySpots.sdu {s t : State} (h : OnlySpots s t) : t.sdu = s.sdu := by rw [h.eq]
theorem OnlySpots.mgu {s t : State} (h : OnlySpots s t) : t.mgu = s.mgu := by rw [h.eq]
theorem OnlySpots.conditions {s t : State} (h : OnlySpots s t) : t.conditions = s.conditions := by rw [h.eq]

/-! ## RELEASE -/

theorem restState_eq {s : State} {i : SpotId} {r : SpotRecord} (h : s.record i = some r) :
    s.restState i = if r.enabled then .vacant else .disabled := by
  rw [State.restState, h]

theorem spot_dropTally (s : State) (i j : SpotId) :
    (s.dropTally i).spot j = if j = i then { s.spot i with unassigned := 0 } else s.spot j := by
  change (s.modSpot i (fun x => { x with unassigned := 0 })).spot j = _
  rw [spot_modSpot]

theorem port_release (s : State) (i : SpotId) (h : (s.spot i).state = .complete) :
    PortStep s.rpu ((s.dropTally i).changeState i (s.restState i)).rpu :=
  (inner_toRest (s.dropTally i) s i (by rw [state_dropTally, h]; rfl)).port

/-- Settles O38: the tally is dropped and the spot comes to rest. -/
theorem releaseFreesTheSpot : Obligations.ReleaseFreesTheSpot := by
  unfold Obligations.ReleaseFreesTheSpot
  refine ⟨fun s q n i h hi complete liq vap => ?_, fun s q n i h hi complete arms => ?_⟩
  · have effect : spotRequest releaseSpot [n] s = ((s.dropTally i).changeState i (s.restState i), ⟨.done, []⟩) := by
      simp only [spotRequest, onSpot_some s hi, releaseSpot, complete, liq, vap]
      rfl
    obtain ⟨t, ht, same, rep⟩ := h.effected (spotRequest releaseSpot) effect (port_release s i complete)
    have only := onlySpots_changeState (s.dropTally i) i (s.restState i)
    have spot := spot_of_spots same.spots
    have standing : t.mgu.standing = (s.dropTally i).mgu.standing := same.standing.trans (congrArg Mgu.standing only.mgu)
    refine ⟨t, ht, rep, ?_, fun r hr => restState_eq hr, ?_, fun j hj => ⟨?_, ?_⟩, same.manifest.trans only.manifest,
      same.imap.trans only.imap, same.comps.trans only.comps, same.conditions.trans only.conditions,
      same.sdu.trans only.sdu⟩
    · rw [spot, spot_changeState, if_pos rfl, spot_dropTally, if_pos rfl]
    · rw [standing_of_eq standing]
      exact standing_setStanding_same _ i false
    · rw [spot, spot_changeState, if_neg hj, spot_dropTally, if_neg hj]
    · rw [standing_of_eq standing]
      exact standing_setStanding_other _ false hj
  · refine h.answered (spotRequest releaseSpot) ?_
    have connected : ((s.values i).armLiq || (s.values i).armVap) = true := by simpa using arms
    simp only [spotRequest, onSpot_some s hi, releaseSpot, complete, connected]
    rfl

/-! ## CLEAR -/

/-- What matching a tag leaves: the record matched is bound, or UNKNOWN_TAG stands (R59). -/
structure TagTaken (s t : State) (i : SpotId) (chars : List Byte) : Prop where
  only  : t = { s with rpu := t.rpu, conditions := t.conditions, manifest := t.manifest, spots := t.spots }
  other : ∀ j, j ≠ i → t.spot j = s.spot j
  same  : t.spot i = { s.spot i with state := (t.spot i).state, lastHeld := (t.spot i).lastHeld }
  bound : ∀ m, bindFirst s.manifest i chars = some m → t.manifest = m ∧ (t.values i).unknownTag = false ∧
    (t.spot i).lastHeld = none ∧ (t.spot i).state = if t.allConnected i then .ready else .identified
  free  : bindFirst s.manifest i chars = none → t.manifest = s.manifest ∧ (t.values i).unknownTag = true ∧
    t.spot i = s.spot i

theorem allConnected_of_conditions {s t : State} (h : t.conditions = s.conditions) (i : SpotId) :
    t.allConnected i = s.allConnected i := by
  rw [State.allConnected, State.allConnected, values_of_conditions h]

/-- An IDENTIFIED spot settles between IDENTIFIED and READY (R62). -/
theorem readiness_identified {s : State} {i : SpotId} (h : (s.spot i).state = .identified) :
    (s.readiness i).conditions = s.conditions ∧ (s.readiness i).manifest = s.manifest ∧ OnlySpots s (s.readiness i) ∧
    ∀ j, (s.readiness i).spot j =
      if j = i then { s.spot i with state := if s.allConnected i then .ready else .identified } else s.spot j := by
  unfold State.readiness
  rw [h]
  simp only
  split
  · next connected =>
    have only := onlySpots_changeState s i .ready
    exact ⟨only.conditions, only.manifest, only, fun j => spot_changeState s i j .ready⟩
  · refine ⟨rfl, rfl, ⟨rfl⟩, fun j => ?_⟩
    split
    · next e =>
      subst e
      rw [← h]
    · rfl

theorem tagTaken_matchTag (s : State) (i : SpotId) (chars : List Byte) : TagTaken s (s.matchTag i chars) i chars := by
  unfold State.matchTag
  cases hb : bindFirst s.manifest i chars with
  | none =>
    have only := onlyConditions_reportUnknownTag s i true
    refine ⟨?_, fun j _ => only.spot j, ?_, fun m hm => ?_, fun _ => ⟨only.manifest,
      unknownTag_reportUnknownTag s i true, only.spot i⟩⟩
    · simp only
      rw [only.eq]
    · exact only.spot i ▸ rfl
    · rw [hb] at hm
      cases hm
  | some m =>
    simp only
    generalize hu : ({ s with manifest := m }).modSpot i (fun x => { x with lastHeld := none }) = u
    have uOnly : u = { s with manifest := m, spots := u.spots } := by rw [← hu]; rfl
    have uSpot : ∀ j, u.spot j = if j = i then { s.spot i with lastHeld := none } else s.spot j := fun j => by
      rw [← hu, spot_modSpot]
      rfl
    have vOnly := onlyConditions_reportUnknownTag u i false
    have vTag := unknownTag_reportUnknownTag u i false
    generalize u.reportUnknownTag i false = v at *
    have wOnly := onlySpots_changeState v i .identified
    have wSpot := fun j => spot_changeState v i j .identified
    generalize v.changeState i .identified = w at *
    have identified : (w.spot i).state = .identified := by rw [wSpot, if_pos rfl]
    obtain ⟨conditions, manifest, only, spot⟩ := readiness_identified identified
    generalize w.readiness i = t at *
    have values : t.conditions = v.conditions := conditions.trans wOnly.conditions
    have self : t.spot i = { s.spot i with
        state := if w.allConnected i then .ready else .identified, lastHeld := none } := by
      rw [spot, if_pos rfl, wSpot, if_pos rfl, vOnly.spot, uSpot, if_pos rfl]
    refine ⟨?_, fun j hj => ?_, ?_, fun m' hm => ⟨?_, ?_, ?_, ?_⟩, fun hn => ?_⟩
    · rw [only.eq, wOnly.eq, vOnly.eq, uOnly]
    · rw [spot, if_neg hj, wSpot, if_neg hj, vOnly.spot, uSpot, if_neg hj]
    · rw [self]
    · rw [hb] at hm
      cases hm
      rw [manifest, wOnly.manifest, vOnly.manifest, uOnly]
    · rw [values_of_conditions values, vTag]
    · rw [self]
    · rw [self, allConnected_of_conditions conditions]
    · rw [hb] at hn
      cases hn

theorem TagTaken.imap {s t : State} {i : SpotId} {chars : List Byte} (h : TagTaken s t i chars) : t.imap = s.imap := by
  rw [h.only]
theorem TagTaken.comps {s t : State} {i : SpotId} {chars : List Byte} (h : TagTaken s t i chars) : t.comps = s.comps := by
  rw [h.only]
theorem TagTaken.sdu {s t : State} {i : SpotId} {chars : List Byte} (h : TagTaken s t i chars) : t.sdu = s.sdu := by
  rw [h.only]
theorem TagTaken.mgu {s t : State} {i : SpotId} {chars : List Byte} (h : TagTaken s t i chars) : t.mgu = s.mgu := by
  rw [h.only]

/-- CLEAR at a VACANT spot: the tally is dropped, then the last tag is matched or UNKNOWN_TAG is cleared (R84). -/
structure VacantCleared (s t : State) (i : SpotId) : Prop where
  only   : t = { s with rpu := t.rpu, conditions := t.conditions, manifest := t.manifest, spots := t.spots, mgu := t.mgu }
  mgu    : t.mgu = (s.dropTally i).mgu
  other  : ∀ j, j ≠ i → t.spot j = s.spot j
  tally  : (t.spot i).unassigned = 0
  tagged : ∀ chars, lastOf (s.spotEntry .tag i) = some (.tag chars) → TagTaken (s.dropTally i) t i chars
  plain  : lastOf (s.spotEntry .tag i) = none → t.manifest = s.manifest ∧ (t.values i).unknownTag = false ∧
    (t.spot i).state = (s.spot i).state

theorem vacantCleared_untagged (s : State) (i : SpotId) (h : ∀ chars, lastOf (s.spotEntry .tag i) ≠ some (.tag chars)) :
    VacantCleared s ((s.dropTally i).reportUnknownTag i false) i := by
  have only := onlyConditions_reportUnknownTag (s.dropTally i) i false
  have tag := unknownTag_reportUnknownTag (s.dropTally i) i false
  have spot := fun j => (only.spot j).trans (spot_dropTally s i j)
  refine ⟨?_, only.mgu, fun j hj => ?_, ?_, fun chars hc => absurd hc (h chars), fun _ => ⟨only.manifest, tag, ?_⟩⟩
  · rw [only.eq]
    rfl
  · rw [spot, if_neg hj]
  · rw [spot, if_pos rfl]
  · rw [spot, if_pos rfl]

theorem vacantCleared_clearVacant (s : State) (i : SpotId) : VacantCleared s (s.clearVacant i) i := by
  unfold State.clearVacant
  simp only
  split
  · next chars hc =>
    have matched := tagTaken_matchTag (s.dropTally i) i chars
    generalize (s.dropTally i).matchTag i chars = t at *
    have hc' : lastOf (s.spotEntry .tag i) = some (.tag chars) := hc
    refine ⟨?_, matched.mgu, fun j hj => ?_, ?_, fun chars' hc'' => ?_, fun hn => ?_⟩
    · rw [matched.only]
      rfl
    · rw [matched.other j hj, spot_dropTally, if_neg hj]
    · rw [matched.same, spot_dropTally, if_pos rfl]
    · rw [hc'] at hc''
      cases hc''
      exact matched
    · rw [hc'] at hn
      cases hn
  · next h => exact vacantCleared_untagged s i fun chars hc => h chars hc

theorem port_clearVacant (s : State) (i : SpotId) (h : (s.spot i).state = .vacant) :
    PortStep s.rpu (s.clearVacant i).rpu := by
  unfold State.clearVacant
  simp only
  split
  · exact (inner_matchTag (s.dropTally i) i _ (by rw [state_dropTally, h]; rfl)).port
  · exact (inner_reportUnknownTag (s.dropTally i) i false).port

/-- Settles O39: a FAULTED spot comes to rest, a VACANT one matches its last tag. -/
theorem clearFreesTheSpot : Obligations.ClearFreesTheSpot := by
  unfold Obligations.ClearFreesTheSpot
  refine ⟨fun s q n i h hi faulted closed => ?faulted, fun s q n i h hi faulted closed => ?refused,
    fun s q n i h hi vacant => ?vacant⟩
  case faulted =>
    have effect : spotRequest clearSpot [n] s =
        (((s.dropTally i).reportUnknownTag i false).changeState i (s.restState i), ⟨.done, []⟩) := by
      simp only [spotRequest, onSpot_some s hi, clearSpot, faulted, closed]
      rfl
    have quiet : (((s.dropTally i).reportUnknownTag i false).spot i).state.holdsCar = false := by
      rw [state_reportUnknownTag, state_dropTally, faulted]
      rfl
    have first := onlyConditions_reportUnknownTag (s.dropTally i) i false
    have tag := unknownTag_reportUnknownTag (s.dropTally i) i false
    have port : PortStep s.rpu (((s.dropTally i).reportUnknownTag i false).changeState i (s.restState i)).rpu :=
      ((inner_reportUnknownTag (s.dropTally i) i false).trans (inner_toRest _ s i quiet)).port
    obtain ⟨t, ht, same, rep⟩ := h.effected (spotRequest clearSpot) effect port
    generalize (s.dropTally i).reportUnknownTag i false = u at *
    have only := onlySpots_changeState u i (s.restState i)
    have spot : ∀ j, t.spot j = if j = i then { s.spot i with unassigned := 0, state := s.restState i }
        else s.spot j := fun j => by
      rw [spot_of_spots same.spots, spot_changeState, first.spot, first.spot, spot_dropTally, spot_dropTally, if_pos rfl]
      split <;> rfl
    refine ⟨t, ht, rep, ?_, ?_, ?_, fun j hj => ?_, ?_, ?_, ?_, ?_⟩
    · rw [spot, if_pos rfl]
    · rw [standing_of_eq (same.standing.trans (congrArg Mgu.standing (only.mgu.trans first.mgu)))]
      exact standing_setStanding_same _ i false
    · rw [values_of_conditions (same.conditions.trans only.conditions), tag]
    · rw [spot, if_neg hj]
    · exact same.manifest.trans (only.manifest.trans first.manifest)
    · exact same.imap.trans (only.imap.trans first.imap)
    · exact same.comps.trans (only.comps.trans first.comps)
    · exact same.sdu.trans (only.sdu.trans first.sdu)
  case refused =>
    refine h.answered (spotRequest clearSpot) ?_
    simp only [spotRequest, onSpot_some s hi, clearSpot, faulted, closed]
    rfl
  case vacant =>
    have effect : spotRequest clearSpot [n] s = (s.clearVacant i, ⟨.done, []⟩) := by
      simp only [spotRequest, onSpot_some s hi, clearSpot, vacant]
      rfl
    have cleared := vacantCleared_clearVacant s i
    have port : PortStep s.rpu (s.clearVacant i).rpu := port_clearVacant s i vacant
    obtain ⟨t, ht, same, rep⟩ := h.effected (spotRequest clearSpot) effect port
    generalize s.clearVacant i = u at *
    have spot := spot_of_spots same.spots
    have values := values_of_conditions same.conditions i
    refine ⟨t, ht, rep, ?_, ?_, fun j hj => ?_, ?_, ?_, ?_, fun chars hc => ?_, fun hn => ?_⟩
    · rw [spot, cleared.tally]
    · rw [standing_of_eq (same.standing.trans (congrArg Mgu.standing cleared.mgu))]
      exact standing_setStanding_same _ i false
    · rw [spot, cleared.other j hj]
    · exact same.imap.trans (by rw [cleared.only])
    · exact same.comps.trans (by rw [cleared.only])
    · exact same.sdu.trans (by rw [cleared.only])
    · have matched := cleared.tagged chars hc
      cases hb : bindFirst s.manifest i chars with
      | some m =>
        obtain ⟨manifest, tag, link, state⟩ := matched.bound m hb
        simp only
        rw [same.manifest, spot, values, allConnected_of_conditions same.conditions]
        exact ⟨manifest, tag, link, state⟩
      | none =>
        obtain ⟨manifest, tag, self⟩ := matched.free hb
        simp only
        rw [same.manifest, spot, values, self, state_dropTally]
        exact ⟨manifest, tag, vacant⟩
    · obtain ⟨manifest, tag, state⟩ := cleared.plain hn
      rw [same.manifest, spot, values, state]
      exact ⟨manifest, tag, vacant⟩

end Sys2Proof.Machine
end

section
/-! The loads of records, curves, groups and compressors (R38 to R48), and the car list (R49 to R53). -/

namespace Sys2Proof.Machine

/-! ## LOAD_SPOT -/

theorem record_setRecord_same (s : State) (i : SpotId) (r : SpotRecord) : (s.setRecord i r).record i = some r :=
  vectorGet_set_same s.table i (some r)

theorem record_setRecord_other (s : State) {i j : SpotId} (r : SpotRecord) (h : j ≠ i) :
    (s.setRecord i r).record j = s.record j := vectorGet_set_other s.table (some r) h

theorem markOf_eq_some {b : Byte} {v : Bool} (h : markOf b = some v) : v = decide (b = 1) := by
  unfold markOf at h
  split at h
  · next zero =>
    cases h
    subst zero
    rfl
  · split at h
    · next one =>
      cases h
      exact (decide_eq_true one).symm
    · cases h

theorem alternateOf_eq_some {p n : Nat} {o : Option CompId} (h : alternateOf p n = some o) :
    (∀ c, o = some c ↔ compId n = some c) ∧ ∀ c, o = some c → n ≠ p := by
  unfold alternateOf at h
  split at h
  · next absent =>
    cases h
    refine ⟨fun c => ⟨fun h => absurd h (by simp), fun h => ?_⟩, fun c h => absurd h (by simp)⟩
    have := compId_eq_some h
    have : c.val < 4 := c.isLt
    simp only [compNumber] at *
    omega
  · split at h
    · cases h
    · next other =>
      obtain ⟨c, hc, rfl⟩ := Option.map_eq_some_iff.mp h
      exact ⟨fun d => by rw [hc], fun d _ => other⟩

/-- A record the fields give is the fields, defaults taken. -/
theorem SpotFields.record_eq_some {f : SpotFields} {curve : List CurvePoint} {r : SpotRecord}
    (h : f.record curve = some r) : ∃ enabled primary alternate, markOf f.enabled = some enabled ∧
      compId f.primary = some primary ∧ alternateOf f.primary f.alternate = some alternate ∧
      r = ⟨enabled, primary, alternate, f.tank, default2 150 f.dpStart, f.heelRate, f.travel, f.pressurise, f.suspend,
        default1 30 f.guard, f.pass, f.settle, f.rebound, f.kc, f.plausible, curve⟩ := by
  unfold SpotFields.record at h
  split at h
  · next enabled primary alternate he hp ha =>
    split at h
    · cases h
      exact ⟨enabled, primary, alternate, he, hp, ha, rfl⟩
    · cases h
  · cases h

/-- What storing a record leaves (R40, R41). -/
structure RecordStored (s t : State) (i : SpotId) (r : SpotRecord) : Prop where
  record  : t.record i = some r
  spot    : t.spot i = { s.spot i with state := stateAfterLoad (s.spot i).state r.enabled }
  unknown : (s.spot i).state = .vacant → r.enabled = false → (t.values i).unknownTag = false
  others  : ∀ j, j ≠ i → t.record j = s.record j ∧ t.spot j = s.spot j ∧ t.values j = s.values j
  only    : t = { s with rpu := t.rpu, conditions := t.conditions, table := t.table, spots := t.spots }

theorem recordStored_storeRecord (s : State) (i : SpotId) (r : SpotRecord) : RecordStored s (s.storeRecord i r) i r := by
  unfold State.storeRecord
  simp only
  generalize hn : ((s.values i).unknownTag &&
    !(decide ((s.spot i).state = .vacant) && decide (stateAfterLoad (s.spot i).state r.enabled = .disabled))) = unknown
  have first := onlyConditions_storeConditions (s.setRecord i r) i (conditionSet (s.setRecord i r) i unknown)
  have values := fun j => values_storeConditions (s.setRecord i r) i j (conditionSet (s.setRecord i r) i unknown)
  generalize (s.setRecord i r).storeConditions i (conditionSet (s.setRecord i r) i unknown) = u at *
  have record : ∀ j, u.record j = (s.setRecord i r).record j := record_of_table first.table
  have cleared : (s.spot i).state = .vacant → r.enabled = false → (u.values i).unknownTag = false := fun hv he => by
    rw [values, if_pos rfl, ← hn, hv, he]
    exact Bool.and_false _
  split
  · next same =>
    refine ⟨(record i).trans (record_setRecord_same s i r), ?_, cleared, fun j hj => ⟨?_, first.spot j, ?_⟩, ?_⟩
    · rw [same]
      exact first.spot i
    · exact (record j).trans (record_setRecord_other s r hj)
    · rw [values, if_neg hj]
      rfl
    · rw [first.eq]
      rfl
  · have only := onlySpots_changeState u i (stateAfterLoad (s.spot i).state r.enabled)
    have spot := fun j => spot_changeState u i j (stateAfterLoad (s.spot i).state r.enabled)
    generalize u.changeState i (stateAfterLoad (s.spot i).state r.enabled) = t at *
    have record' : ∀ j, t.record j = u.record j := record_of_table only.table
    have values' := values_of_conditions only.conditions
    refine ⟨(record' i).trans ((record i).trans (record_setRecord_same s i r)), ?_, fun hv he => ?_,
      fun j hj => ⟨?_, ?_, ?_⟩, ?_⟩
    · rw [spot, if_pos rfl, first.spot]
      rfl
    · rw [values', cleared hv he]
    · exact (record' j).trans ((record j).trans (record_setRecord_other s r hj))
    · rw [spot, if_neg hj, first.spot]
      rfl
    · rw [values', values, if_neg hj]
      rfl
    · rw [only.eq, first.eq]
      rfl

theorem RecordStored.imap {s t : State} {i : SpotId} {r : SpotRecord} (h : RecordStored s t i r) : t.imap = s.imap := by
  rw [h.only]
theorem RecordStored.manifest {s t : State} {i : SpotId} {r : SpotRecord} (h : RecordStored s t i r) :
    t.manifest = s.manifest := by rw [h.only]
theorem RecordStored.comps {s t : State} {i : SpotId} {r : SpotRecord} (h : RecordStored s t i r) : t.comps = s.comps := by
  rw [h.only]
theorem RecordStored.groups {s t : State} {i : SpotId} {r : SpotRecord} (h : RecordStored s t i r) :
    t.groups = s.groups := by rw [h.only]
theorem RecordStored.sdu {s t : State} {i : SpotId} {r : SpotRecord} (h : RecordStored s t i r) : t.sdu = s.sdu := by
  rw [h.only]

theorem port_storeRecord (s : State) (i : SpotId) (r : SpotRecord) (h : s.spotInUse i = false) :
    PortStep s.rpu (s.storeRecord i r).rpu := by
  unfold State.storeRecord
  simp only
  generalize conditionSet (s.setRecord i r) i _ = now
  have first := inner_storeConditions (s.setRecord i r) i now
  split
  · exact first.port
  · refine (first.trans (inner_changeState _ i _ ?_ fun a => ?_)).port
    · rw [spot_storeConditions]
      exact (stateAfterLoad_holdsCar _ h).trans (holdsCar_of_notInUse h).symm
    · rw [active_of_holdsCar_eq_false (stateAfterLoad_holdsCar _ h)] at a
      cases a

/-- Settles O29: the record is the fields, and the spot's state follows enabled. -/
theorem spotLoadsReplaceTheRecord : Obligations.SpotLoadsReplaceTheRecord := by
  intro s q n en pr al tk d1 d0 h1 h0 tr p1 p0 u1 u0 gd q1 q0 t1 t0 rb k3 k2 k1 k0 l1 l0 i r h hi hr free
  have effect : loadSpotRecord [n, en, pr, al, tk, d1, d0, h1, h0, tr, p1, p0, u1, u0, gd, q1, q0, t1, t0, rb, k3, k2,
      k1, k0, l1, l0] s = (s.storeRecord i r, ⟨.done, []⟩) := by
    simp only [loadSpotRecord, loadSpotFields, onSpot_some s hi, hr, free]
    rfl
  obtain ⟨t, ht, same, rep⟩ := h.effected loadSpotRecord effect (port_storeRecord s i r free)
  have stored := recordStored_storeRecord s i r
  generalize s.storeRecord i r = u at *
  obtain ⟨enabled, primary, alternate, he, hp, ha, hrec⟩ := SpotFields.record_eq_some hr
  have mark := markOf_eq_some he
  obtain ⟨alternates, apart⟩ := alternateOf_eq_some ha
  have spot := spot_of_spots same.spots
  have record := record_of_table same.table
  have values := values_of_conditions same.conditions
  have enabledOf : r.enabled = decide (en = 1) := by rw [hrec]; exact mark
  refine ⟨t, ht, rep, (record i).trans stored.record, enabledOf, ?_, ?_, ?_, ?_⟩
  · rw [hrec]
    exact (compId_eq_some hp).symm
  · rw [hrec]
    exact alternates
  · rw [hrec]
    exact fun e => apart primary e (((compId_eq_some ((alternates primary).mp e)).trans (compId_eq_some hp).symm))
  · refine ⟨by rw [hrec], by rw [hrec]; rfl, by rw [hrec], by rw [hrec], by rw [hrec], by rw [hrec],
      by rw [hrec]; rfl, by rw [hrec], by rw [hrec], by rw [hrec], by rw [hrec], by rw [hrec], ?_, ?_, ?_, ?_, ?_, ?_,
      same.imap.trans stored.imap, same.manifest.trans stored.manifest, same.comps.trans stored.comps,
      same.groups.trans stored.groups, same.sdu.trans stored.sdu⟩
    · rw [hrec]
      unfold State.keptCurve
      cases s.record i <;> rfl
    · rw [spot, stored.spot]
      simp only [stateAfterLoad, enabledOf, decide_eq_true_eq]
      cases (s.spot i).state <;> rfl
    · intro vacant off
      rw [values]
      exact stored.unknown vacant (enabledOf.trans (decide_eq_false off))
    · intro j hj
      obtain ⟨rec, ctx, val⟩ := stored.others j hj
      exact ⟨(record j).trans rec, (spot j).trans ctx, (values j).trans val⟩
    · rw [spot, stored.spot]
    · rw [spot, stored.spot]

/-! ## LOAD_METER_CURVE and LOAD_PRODUCT_SEGMENT -/

theorem length_pointsOf (n : Nat) (l : List Byte) (ps : List CurvePoint) (h : pointsOf n l = some ps) : ps.length = n := by
  induction n generalizing l ps with
  | zero =>
    cases l with
    | nil => cases h; rfl
    | cons a l => cases h
  | succ n ih =>
    match l, h with
    | r1 :: r0 :: m1 :: m0 :: rest, h =>
      obtain ⟨ps', hps, rfl⟩ := Option.map_eq_some_iff.mp h
      rw [List.length_cons, ih _ _ hps]

/-- The values from the start index on, the other points as they were (R48). -/
theorem getElem_writePoints (g : Group) (start : Nat) (values : List Nat) (k : Nat) (h : k < 23) :
    (writePoints g start values)[k] =
      if start ≤ k ∧ k < start + values.length then values[k - start]? else g[k] := by
  induction values generalizing g start with
  | nil =>
    rw [if_neg (by simp only [List.length_nil]; omega)]
    rfl
  | cons v rest ih =>
    rw [writePoints, ih]
    rcases Nat.lt_trichotomy k start with before | rfl | behind
    · rw [if_neg (by omega), if_neg (by omega)]
      split
      · exact Vector.getElem_set_ne _ _ (by omega)
      · rfl
    · rw [if_neg (by omega), if_pos (by simp only [List.length_cons]; omega), dif_pos h, Nat.sub_self]
      exact Vector.getElem_set_self _
    · have shift : k - start = (k - (start + 1)) + 1 := by omega
      rw [shift, List.getElem?_cons_succ]
      by_cases inside : k < start + (rest.length + 1)
      · rw [if_pos (by omega), if_pos (by simp only [List.length_cons]; omega)]
      · rw [if_neg (by omega), if_neg (by simp only [List.length_cons]; omega)]
        split
        · exact Vector.getElem_set_ne _ _ (by omega)
        · rfl

/-- Settles O30: what the two loads write, and the order of the curve's checks. -/
theorem curveAndSegmentLoadsWriteTheirPoints : Obligations.CurveAndSegmentLoadsWriteTheirPoints := by
  unfold Obligations.CurveAndSegmentLoadsWriteTheirPoints
  refine ⟨fun s q n count bytes i points r h low high hp hi ok rise hr free => ?curve,
    fun s n i points hi => ⟨fun ok => ?_, fun ok rise => ?_, fun ok rise hr => ?_, fun ok rise hr used => ?_⟩,
    fun s q group start count bytes g values h low high hv hg fits range free => ?group⟩
  case curve =>
    have counts : within 1 8 count.toNat = true := by simp [within, low, high]
    have effect : loadCurve (n :: count :: bytes) s = (s.setRecord i { r with curve := points }, ⟨.done, []⟩) := by
      simp only [loadCurve, counts, hp, loadCurvePoints, onSpot_some s hi, ok, rise, hr, free]
      rfl
    obtain ⟨t, ht, same, rep⟩ := h.effected loadCurve effect (.refl _)
    have record := record_of_table same.table
    refine ⟨t, ht, rep, (record i).trans (record_setRecord_same s i _),
      fun j hj => (record j).trans (record_setRecord_other s _ hj), ?_, length_pointsOf _ _ _ hp⟩
    exact ⟨same.pins, same.powered, same.uptime, same.freeDraws, same.imap, same.conditions, rfl, same.groups,
      same.manifest, same.spots, same.comps, same.waitList, same.sdu, same.standing, same.pending⟩
  case group =>
    have counts : within 1 8 count.toNat = true := by simp [within, low, high]
    have effect : loadSegment (group :: start :: count :: bytes) s =
        ({ s with groups := s.groups.set g.val (writePoints (s.groups.get g) start.toNat values) g.isLt },
          ⟨.done, []⟩) := by
      have fits' : ¬ 23 < start.toNat + values.length := Nat.not_lt.mpr fits
      simp only [loadSegment, counts, hv, loadValues, hg, range, free, fits', decide_false, Bool.not_true,
        Bool.or_self, Bool.false_eq_true, if_false]
      rfl
    obtain ⟨t, ht, same, rep⟩ := h.effected loadSegment effect (.refl _)
    refine ⟨t, ht, rep, fun k hk => ?_, fun g' hg' => ?_, ?_⟩
    · have points : t.groups.get g = writePoints (s.groups.get g) start.toNat values := by
        rw [same.groups]
        exact vectorGet_set_same _ _ _
      simp only [points]
      exact getElem_writePoints _ _ _ _ _
    · rw [same.groups]
      exact vectorGet_set_other _ _ hg'
    · exact ⟨same.pins, same.powered, same.uptime, same.freeDraws, same.imap, same.conditions, same.table, rfl,
        same.manifest, same.spots, same.comps, same.waitList, same.sdu, same.standing, same.pending⟩
  · simp only [loadCurvePoints, onSpot_some s hi, ok]
    rfl
  · simp only [loadCurvePoints, onSpot_some s hi, ok, rise]
    rfl
  · simp only [loadCurvePoints, onSpot_some s hi, ok, rise, hr]
    rfl
  · obtain ⟨r, hr⟩ := Option.isSome_iff_exists.mp hr
    simp only [loadCurvePoints, onSpot_some s hi, ok, rise, hr, used]
    rfl

/-! ## ADD_CAR and REMOVE_CAR -/

theorem shiftLink_eq (p : Nat) (link : Option Nat) : shiftLink p link =
    link.bind (fun l => if l = p then none else if p < l then some (l - 1) else some l) := by
  cases link <;> rfl

theorem spot_removeRecord (s : State) (p : Nat) (i : SpotId) :
    (s.removeRecord p).spot i = { s.spot i with lastHeld := shiftLink p (s.spot i).lastHeld } := by
  simp [State.spot, State.removeRecord, Vector.get_eq_getElem]

theorem toNat_byte_length {l : List Byte} (h : l.length ≤ 10) : (byte l.length).toNat = l.length := by
  rw [byte, BitVec.toNat_ofNat]
  omega

/-- Settles O32: a record joins the tail; a record that leaves takes its links with it. -/
theorem carsJoinAndLeaveTheList : Obligations.CarsJoinAndLeaveTheList := by
  unfold Obligations.CarsJoinAndLeaveTheList
  refine ⟨fun s q chars group r1 r0 d3 d2 d1 d0 p1 p0 t1 t0 g low high h hg => ?add,
    fun s q p chars r low high h hr hc free => ?remove, fun s q p chars r low high h hr hc bound => ?refused⟩
  case add =>
    intro r fields room fresh
    have counts : within 1 10 chars.length = true := by simp [within, low, high]
    have effect : addCarRecord (byte chars.length ::
        (chars ++ [group, r1, r0, d3, d2, d1, d0, p1, p0, t1, t0])) s =
        ({ s with manifest := s.manifest ++ [r] }, ⟨.done, [byte (s.manifest.length + 1)]⟩) := by
      have room' : ¬ Config.manifestCapacity ≤ s.manifest.length := Nat.not_le.mpr room
      simp only [addCarRecord, toNat_byte_length high, counts, List.drop_left, List.take_left]
      change addRecord group.toNat (fun g => { r with group := g }) s = _
      simp only [addRecord, hg]
      change (if (!carFieldsOk r) = true then _ else if Config.manifestCapacity ≤ s.manifest.length then _
        else if carKnown s.manifest chars = true then _ else _) = _
      rw [fields, if_neg (by decide), if_neg room', fresh, if_neg (by decide)]
      rfl
    obtain ⟨t, ht, same, rep⟩ := h.effected addCarRecord effect (.refl _)
    refine ⟨t, ht, same.manifest, rep, ?_⟩
    exact ⟨same.pins, same.powered, same.uptime, same.freeDraws, same.imap, same.conditions, same.table, same.groups,
      rfl, same.spots, same.comps, same.waitList, same.sdu, same.standing, same.pending⟩
  case remove =>
    have counts : within 1 10 chars.length = true := by simp [within, low, high]
    have effect : removeCarRecord (p :: byte chars.length :: chars) s = (s.removeRecord p.toNat, ⟨.done, []⟩) := by
      simp only [removeCarRecord, toNat_byte_length high, counts, hr, hc, free, decide_true, ne_eq, not_true, if_false]
      rfl
    obtain ⟨t, ht, same, rep⟩ := h.effected removeCarRecord effect (.refl _)
    refine ⟨t, ht, rep, same.manifest, fun i => ?_, ?_⟩
    · rw [spot_of_spots same.spots, spot_removeRecord, shiftLink_eq]
    · exact ⟨same.pins, same.powered, same.uptime, same.freeDraws, same.imap, same.conditions, same.table, same.groups,
        rfl, rfl, same.comps, same.waitList, same.sdu, same.standing, same.pending⟩
  case refused =>
    have counts : within 1 10 chars.length = true := by simp [within, low, high]
    refine h.answered removeCarRecord ?_
    simp only [removeCarRecord, toNat_byte_length high, counts, hr, hc, bound, decide_true, ne_eq, not_true, if_false]
    rfl

end Sys2Proof.Machine
end

section
/-! The map and the actuation queue while latches are written: what is free to change, and what stands (R8, R158, R160). -/

namespace Sys2Proof.Machine

/-! ## The queue at an index -/

/-- The queue at an index stands: behind a frame being sent the command queued is the same, and where none is queued none
becomes queued and the actuate sequence stands. -/
structure StillPort (k : Nat) (r r' : Rpu) : Prop where
  behind : ∀ f, r.sending = some f → r'.sending = some f ∧ queuedCommand k r' = queuedCommand k r
  empty  : queuedCommand k r = none → queuedCommand k r' = none ∧ r'.sequenceOf k = r.sequenceOf k

theorem StillPort.refl (k : Nat) (r : Rpu) : StillPort k r r := ⟨fun _ h => ⟨h, rfl⟩, fun h => ⟨h, rfl⟩⟩

theorem StillPort.trans {k : Nat} {x y z : Rpu} (h : StillPort k x y) (g : StillPort k y z) : StillPort k x z := by
  refine ⟨fun f hf => ?_, fun hn => ?_⟩
  · obtain ⟨sent, same⟩ := h.behind f hf
    obtain ⟨sent', same'⟩ := g.behind f sent
    exact ⟨sent', same'.trans same⟩
  · obtain ⟨none, seq⟩ := h.empty hn
    obtain ⟨none', seq'⟩ := g.empty none
    exact ⟨none', seq'.trans seq⟩

theorem queuedCommand_eq_none {k : Nat} {r : Rpu} : queuedCommand k r = none ↔ ∀ a ∈ r.actuates, a.index ≠ k := by
  simp [queuedCommand, List.find?_eq_none]

theorem sequenceOf_setSequence_other (r : Rpu) {j k : Nat} (h : k ≠ j) (b : Byte) :
    (r.setSequence j b).sequenceOf k = r.sequenceOf k := by
  unfold Rpu.setSequence
  split
  · unfold Rpu.sequenceOf
    split
    · exact Vector.getElem_set_ne (hi := by assumption) (hj := by assumption) (h := Ne.symm h) ..
    · rfl
  · rfl

theorem sequenceOf_setSequence_same (r : Rpu) {k : Nat} (h : k < 256) (b : Byte) :
    (r.setSequence k b).sequenceOf k = b := by
  unfold Rpu.setSequence Rpu.sequenceOf
  rw [dif_pos h, dif_pos h]
  exact Vector.getElem_set_self h

theorem sequence_sendOwn {k : Nat} {r : Rpu} (h : queuedCommand k r = none) : (sendOwn r).sequenceOf k = r.sequenceOf k := by
  unfold sendOwn
  split
  · rfl
  · split
    · next a rest hq =>
      have other := queuedCommand_eq_none.mp h a (by rw [hq]; exact List.mem_cons_self ..)
      exact sequenceOf_setSequence_other r (Ne.symm other) _
    · split <;> rfl

theorem sequence_boundary {k : Nat} {r : Rpu} (h : queuedCommand k r = none) : (boundary r).sequenceOf k = r.sequenceOf k := by
  unfold boundary
  split
  · split
    · split
      · rfl
      · exact sequence_sendOwn h
    · rfl
  · exact sequence_sendOwn h

theorem stillPort_kick (k : Nat) (r : Rpu) : StillPort k r (kick r) := by
  refine ⟨fun f hf => ?_, fun hn => ?_⟩
  · rw [kick_of_sending hf]
    exact ⟨hf, rfl⟩
  · refine ⟨queuedCommand_eq_none.mpr fun a ha =>
      queuedCommand_eq_none.mp hn a ((actuates_kick r).subset ha), ?_⟩
    unfold kick
    split
    · rfl
    · exact sequence_boundary hn

theorem stillPort_offerNotice (k : Nat) (b : List Byte) (r : Rpu) : StillPort k r (offerNotice b r) := by
  have aside : ∀ r' : Rpu, r'.sending = r.sending → r'.actuates = r.actuates → r'.actSeq = r.actSeq →
      StillPort k r r' := fun r' sending actuates sequence =>
    ⟨fun f hf => ⟨sending.trans hf, by rw [queuedCommand, queuedCommand, actuates]⟩,
      fun hn => ⟨by rw [queuedCommand, actuates]; exact hn, by rw [Rpu.sequenceOf, Rpu.sequenceOf, sequence]⟩⟩
  unfold offerNotice
  simp only
  split
  · exact aside _ rfl rfl rfl
  · split
    · exact (aside { r with noticeSeq := r.noticeSeq + 1, messages := r.messages ++ [.notice r.noticeSeq b] }
        rfl rfl rfl).trans (stillPort_kick k _)
    · exact aside _ rfl rfl rfl

theorem stillPort_offerActuate {k : Nat} {a : Actuate} (h : k ≠ a.index) (r : Rpu) : StillPort k r (offerActuate a r) := by
  unfold offerActuate
  split
  · exact .refl k r
  · have queued : queuedCommand k { r with actuates := queueActuate a r.actuates } = queuedCommand k r :=
      (find_queueActuate a r.actuates k).trans (if_neg h)
    exact StillPort.trans (y := { r with actuates := queueActuate a r.actuates })
      ⟨fun f hf => ⟨hf, queued⟩, fun hn => ⟨queued.trans hn, rfl⟩⟩ (stillPort_kick k _)

theorem stillPort_dropActuate {k j : Nat} (h : k ≠ j) (r : Rpu) : StillPort k r (dropActuate j r) := by
  have queued : queuedCommand k (dropActuate j r) = queuedCommand k r :=
    (queuedCommand_dropActuate r j k).trans (if_neg h)
  exact ⟨fun f hf => ⟨hf, queued⟩, fun hn => ⟨queued.trans hn, rfl⟩⟩

theorem stillPort_portAfter {k j : Nat} (h : k ≠ j) (e : MapEntry) (before now : Option Command) (r : Rpu) :
    StillPort k r (portAfter j e before now r) := by
  unfold portAfter
  split
  · exact .refl k r
  · split
    · exact stillPort_offerActuate h r
    · exact stillPort_dropActuate h r

/-! ## The map while latches are written -/

/-- Two entries differ at most by a latch where it is free to be written, and by the refresh timer of a driven image. -/
def SameEntry (free : Role → Nat → Prop) (e e' : MapEntry) : Prop :=
  (∀ d, e.body = .input d → e' = e) ∧
  ∀ o, e.body = .output o → ∃ o', e' = e.withImage o' ∧ o'.safe = o.safe ∧ o'.direction = o.direction ∧
    (¬ free e.role e.owner → o'.latch = o.latch) ∧ (o.direction = .monitor → o'.refresh = o.refresh)

/-- No image in DRIVE stands at the index: no write of a latch changes its outgoing command (R160). -/
def Hushed (k : Nat) (s : State) : Prop := ∀ e o, Images s k e o → o.direction = .monitor

/-- The map differs at most by the latches free to be written and the timers of driven images, and the queue stands where no
image in DRIVE does. -/
structure Entries (free : Role → Nat → Prop) (s t : State) : Prop where
  shapes : shapes t.imap = shapes s.imap
  entry  : ∀ k e, entryAt s.imap k = some e → ∃ e', entryAt t.imap k = some e' ∧ SameEntry free e e'
  queue  : ∀ k, Hushed k s → StillPort k s.rpu t.rpu

theorem SameEntry.refl (free : Role → Nat → Prop) (e : MapEntry) : SameEntry free e e :=
  ⟨fun _ _ => rfl, fun o ho => ⟨o, by rw [MapEntry.withImage, ← ho], rfl, rfl, fun _ => rfl, fun _ => rfl⟩⟩

theorem SameEntry.trans {free : Role → Nat → Prop} {x y z : MapEntry} (h : SameEntry free x y) (k : SameEntry free y z) :
    SameEntry free x z := by
  refine ⟨fun d hd => ?_, fun o ho => ?_⟩
  · have first := h.1 d hd
    subst first
    exact k.1 d hd
  · obtain ⟨o', rfl, safe, dir, latch, timer⟩ := h.2 o ho
    obtain ⟨o'', rfl, safe', dir', latch', timer'⟩ := k.2 o' rfl
    exact ⟨o'', rfl, safe'.trans safe, dir'.trans dir, fun hn => (latch' hn).trans (latch hn),
      fun hm => (timer' (dir.trans hm)).trans (timer hm)⟩

theorem SameEntry.mono {free wider : Role → Nat → Prop} (w : ∀ r o, free r o → wider r o) {e e' : MapEntry}
    (h : SameEntry free e e') : SameEntry wider e e' := by
  refine ⟨h.1, fun o ho => ?_⟩
  obtain ⟨o', same, safe, dir, latch, timer⟩ := h.2 o ho
  exact ⟨o', same, safe, dir, fun hn => latch fun hf => hn (w _ _ hf), timer⟩

theorem isSome_entryAt_of_shapes {m n : List (Nat × MapEntry)} (h : shapes n = shapes m) (k : Nat) :
    (entryAt n k).isSome = (entryAt m k).isSome := by
  have keys : ∀ l : List (Nat × MapEntry), (entryAt l k).isSome = (l.map (·.1)).contains k := fun l => by
    induction l with
    | nil => rfl
    | cons p l ih =>
      obtain ⟨j, e⟩ := p
      unfold entryAt
      by_cases hj : j = k
      · simp [hj]
      · simp [hj, ih, Ne.symm hj]
  have indexes : ∀ l : List (Nat × MapEntry), l.map (·.1) = (shapes l).map (·.1) := fun l => by
    simp [shapes, entryShape, Function.comp_def]
  rw [keys, keys, indexes, indexes, h]

theorem Entries.hushed {free : Role → Nat → Prop} {s t : State} (h : Entries free s t) {k : Nat} (q : Hushed k s) :
    Hushed k t := by
  intro e' o' image
  have there := isSome_entryAt_of_shapes h.shapes k
  rw [image.1] at there
  obtain ⟨e, he⟩ := Option.isSome_iff_exists.mp there.symm
  obtain ⟨e'', he'', inputs, outputs⟩ := h.entry k e he
  rw [image.1] at he''
  cases he''
  cases hb : e.body with
  | input d =>
    have same := inputs d hb
    subst same
    rw [image.2] at hb
    cases hb
  | output o =>
    obtain ⟨p, rfl, _, dir, _⟩ := outputs o hb
    cases image.2
    exact dir.trans (q e o ⟨he, hb⟩)

theorem Entries.refl (free : Role → Nat → Prop) (s : State) : Entries free s s :=
  ⟨rfl, fun _ e he => ⟨e, he, .refl _ e⟩, fun k _ => .refl k _⟩

theorem Entries.trans {free : Role → Nat → Prop} {x y z : State} (h : Entries free x y) (k : Entries free y z) :
    Entries free x z := by
  refine ⟨k.shapes.trans h.shapes, fun i e he => ?_, fun i q => (h.queue i q).trans (k.queue i (h.hushed q))⟩
  obtain ⟨e', he', same⟩ := h.entry i e he
  obtain ⟨e'', he'', same'⟩ := k.entry i e' he'
  exact ⟨e'', he'', same.trans same'⟩

theorem Entries.mono {free wider : Role → Nat → Prop} (w : ∀ r o, free r o → wider r o) {s t : State}
    (h : Entries free s t) : Entries wider s t := by
  refine ⟨h.shapes, fun i e he => ?_, h.queue⟩
  obtain ⟨e', he', same⟩ := h.entry i e he
  exact ⟨e', he', same.mono w⟩

/-- The map stands, and the queue at every index. -/
theorem entries_of_imap {free : Role → Nat → Prop} {s t : State} (h : t.imap = s.imap)
    (port : ∀ k, StillPort k s.rpu t.rpu) : Entries free s t := by
  refine ⟨by rw [h], fun i e he => ⟨e, by rw [h]; exact he, .refl _ e⟩, fun k _ => port k⟩

theorem entries_still {free : Role → Nat → Prop} {s t : State} (h : t.imap = s.imap) (port : t.rpu = s.rpu) :
    Entries free s t := entries_of_imap h fun k => by rw [port]; exact .refl k _

theorem outgoing_latch_monitor {o : Output} (h : o.direction = .monitor) (device : Device) (cmd : Command) :
    outgoing device { o with latch := cmd } = outgoing device o := by
  unfold outgoing
  rw [h]
  cases device <;> rfl

/-- A write of a latch frees that latch alone. -/
theorem entries_writeLatch {s : State} (hr : Rising s.imap) (r : Role) (w : Nat) (cmd : Command) :
    Entries (fun r' w' => r' = r ∧ w' = w) s (s.writeLatch r w cmd) := by
  have shapes := (inner_writeLatch s r w cmd).shapes hr
  unfold State.writeLatch at shapes ⊢
  cases hf : findRole s.imap r w with
  | none => exact .refl _ s
  | some p =>
    obtain ⟨j, a⟩ := p
    cases hb : a.body with
    | input d =>
      simp only [hb]
      exact .refl _ s
    | output o =>
      simp only [hf, hb] at shapes ⊢
      split
      · exact .refl _ s
      · next other =>
        rw [if_neg other] at shapes
        have ha := entryAt_of_findRole hr hf
        obtain ⟨entry, others, port⟩ := changeOutput_image (k := j) (e := a) (o := o) ⟨ha, hb⟩
          (fun o => { o with latch := cmd })
        refine ⟨shapes, fun k e he => ?_, fun k q => ?_⟩
        · by_cases hk : k = j
          · subst hk
            rw [ha] at he
            cases he
            refine ⟨_, entry, fun d hd => ?_, fun o' ho' => ?_⟩
            · rw [hb] at hd
              cases hd
            · rw [hb] at ho'
              cases ho'
              refine ⟨_, rfl, rfl, rfl, fun hn => absurd (findRole_role hf) hn, fun hm => ?_⟩
              simp only [outgoing_latch_monitor hm, refreshAfter_same]
          · exact ⟨e, (others k hk).trans he, .refl _ e⟩
        · rw [port]
          by_cases hk : k = j
          · subst hk
            have same := portAfter_same k a (outgoing s.sdu.device o) s.rpu
            rw [← outgoing_latch_monitor (q a o ⟨ha, hb⟩) s.sdu.device cmd] at same ⊢
            rw [same]
            exact .refl _ _
          · exact stillPort_portAfter hk _ _ _ _

/-- The entry of a role is found at its index, and is the same but for what is free. -/
theorem Entries.findRole {free : Role → Nat → Prop} {s t : State} (h : Entries free s t) (hr : Rising s.imap)
    {r : Role} {w k : Nat} {e : MapEntry} (hf : findRole s.imap r w = some (k, e)) :
    ∃ e', Machine.findRole t.imap r w = some (k, e') ∧ SameEntry free e e' := by
  rcases findRole_of_shapes h.shapes r w with ⟨hm, _⟩ | ⟨j, a, b, hm, hn, _⟩
  · rw [hm] at hf
    cases hf
  · rw [hm] at hf
    cases hf
    obtain ⟨e', he', same⟩ := h.entry _ _ (entryAt_of_findRole hr hm)
    have hb := entryAt_of_findRole (rising_of_shapes h.shapes hr) hn
    rw [he'] at hb
    cases hb
    exact ⟨_, hn, same⟩

theorem Entries.findRole_none {free : Role → Nat → Prop} {s t : State} (h : Entries free s t) {r : Role}
    {w : Nat} (hf : Machine.findRole s.imap r w = none) : Machine.findRole t.imap r w = none := by
  rcases findRole_of_shapes h.shapes r w with ⟨_, hn⟩ | ⟨j, a, b, hm, _⟩
  · exact hn
  · rw [hm] at hf
    cases hf

/-- A latch that is not free stands. -/
theorem Entries.latchOf {free : Role → Nat → Prop} {s t : State} (h : Entries free s t) (hr : Rising s.imap)
    {r : Role} {w : Nat} (hn : ¬ free r w) : latchOf t r w = latchOf s r w := by
  cases hf : Machine.findRole s.imap r w with
  | none => rw [latchOf_none hf, latchOf_none (h.findRole_none hf)]
  | some p =>
    obtain ⟨k, e⟩ := p
    obtain ⟨e', hf', inputs, outputs⟩ := h.findRole hr hf
    rw [latchOf_found hf, latchOf_found hf']
    cases hb : e.body with
    | input d => rw [inputs d hb]
    | output o =>
      obtain ⟨o', rfl, _, _, latch, _⟩ := outputs o hb
      obtain ⟨role, owner⟩ := findRole_role hf
      rw [role, owner] at latch
      simp [MapEntry.image, MapEntry.withImage, hb, latch hn]

/-- An entry of an input role is the one it was. -/
theorem Entries.input {free : Role → Nat → Prop} {s t : State} (h : Entries free s t) {k : Nat} {e : MapEntry} {d : Dynamic}
    (he : entryAt s.imap k = some e) (hd : e.body = .input d) : entryAt t.imap k = some e := by
  obtain ⟨e', he', inputs, _⟩ := h.entry k e he
  rw [he', inputs d hd]

theorem Entries.rising {free : Role → Nat → Prop} {s t : State} (h : Entries free s t) (hr : Rising s.imap) : Rising t.imap :=
  rising_of_shapes h.shapes hr

end Sys2Proof.Machine
end

section
/-! What the Coordinator's operations leave as it is: acting on a compressor leaves the others and every place (R141 to R147);
answering a spot leaves the other spots, their places and every UNAVAILABLE compressor. -/

namespace Sys2Proof.Machine

/-! ## Acting on a compressor -/

/-- The latches of a compressor. -/
def CompLatch (c : CompId) (r : Role) (w : Nat) : Prop := (r = .compRun ∨ r = .compDir) ∧ w = compNumber c

/-- What acting on a compressor leaves: the other compressors, who is attached, the wait list, every latch but its own. -/
structure Drives (c : CompId) (s t : State) : Prop where
  others   : ∀ d, d ≠ c → t.comp d = s.comp d
  attached : (t.comp c).attached = (s.comp c).attached
  waitList : t.waitList = s.waitList
  history  : (s.comp c).history <+: (t.comp c).history
  entries  : Rising s.imap → Entries (CompLatch c) s t

theorem Drives.refl (c : CompId) (s : State) : Drives c s s :=
  ⟨fun _ _ => rfl, rfl, rfl, List.prefix_refl _, fun _ => entries_still rfl rfl⟩

theorem Drives.trans {c : CompId} {x y z : State} (h : Drives c x y) (k : Drives c y z) : Drives c x z :=
  ⟨fun d hd => (k.others d hd).trans (h.others d hd), k.attached.trans h.attached, k.waitList.trans h.waitList,
    h.history.trans k.history, fun hr => (h.entries hr).trans (k.entries ((h.entries hr).rising hr))⟩

theorem Drives.places {c : CompId} {s t : State} (h : Drives c s t) (d : CompId) :
    (t.comp d).attached = (s.comp d).attached := by
  by_cases e : d = c
  · subst e; exact h.attached
  · rw [h.others d e]

theorem drives_modComp (s : State) (c : CompId) (f : Compressor → Compressor)
    (h : (f (s.comp c)).attached = (s.comp c).attached)
    (kept : (s.comp c).history <+: (f (s.comp c)).history := by exact List.prefix_refl _) : Drives c s (s.modComp c f) :=
  ⟨fun d hd => comp_modComp_other s f hd, by rw [comp_modComp_same, h], rfl, by rw [comp_modComp_same]; exact kept,
    fun _ => entries_still rfl rfl⟩

theorem drives_writeComp (s : State) (r : Role) (c : CompId) (cmd : Command) (h : r = .compRun ∨ r = .compDir) :
    Drives c s (s.writeComp r c cmd) := by
  have only := onlyMap_writeLatch s r (compNumber c) cmd
  exact ⟨fun d _ => only.comp d, congrArg Compressor.attached (only.comp c), only.waitList,
    by rw [State.writeComp, only.comp c], fun hr => (entries_writeLatch hr r _ cmd).mono fun r' w' e => ⟨e.1 ▸ h, e.2⟩⟩

theorem imap_syncPass (s : State) (i : SpotId) : (s.syncPass i).imap = s.imap := by
  unfold State.syncPass
  simp only
  split
  · split
    · split <;> rfl
    · rfl
  · rfl

theorem rpu_syncPass (s : State) (i : SpotId) : (s.syncPass i).rpu = s.rpu := by
  unfold State.syncPass
  simp only
  split
  · split
    · split <;> rfl
    · rfl
  · rfl

theorem comps_syncPass (s : State) (i : SpotId) : (s.syncPass i).comps = s.comps := by
  unfold State.syncPass
  simp only
  split
  · split
    · split <;> rfl
    · rfl
  · rfl

theorem waitList_syncPass (s : State) (i : SpotId) : (s.syncPass i).waitList = s.waitList := by
  unfold State.syncPass
  simp only
  split
  · split
    · split <;> rfl
    · rfl
  · rfl

theorem imap_foldl_syncPass (l : List SpotId) (s : State) : (l.foldl State.syncPass s).imap = s.imap := by
  induction l generalizing s with
  | nil => rfl
  | cons i l ih => exact (ih _).trans (imap_syncPass s i)

theorem rpu_foldl_syncPass (l : List SpotId) (s : State) : (l.foldl State.syncPass s).rpu = s.rpu := by
  induction l generalizing s with
  | nil => rfl
  | cons i l ih => exact (ih _).trans (rpu_syncPass s i)

theorem comps_foldl_syncPass (l : List SpotId) (s : State) : (l.foldl State.syncPass s).comps = s.comps := by
  induction l generalizing s with
  | nil => rfl
  | cons i l ih => exact (ih _).trans (comps_syncPass s i)

theorem waitList_foldl_syncPass (l : List SpotId) (s : State) : (l.foldl State.syncPass s).waitList = s.waitList := by
  induction l generalizing s with
  | nil => rfl
  | cons i l ih => exact (ih _).trans (waitList_syncPass s i)

/-- A change of level writes the level alone at its compressor. -/
theorem comp_setLevel (s : State) (c d : CompId) (l : Level) :
    (s.setLevel c l).comp d = if d = c then { s.comp c with level := l } else s.comp d := by
  rw [← comp_modComp s c d (fun x => { x with level := l })]
  unfold State.setLevel
  simp only
  split
  · exact comp_of_comps (comps_foldl_syncPass _ _) d
  · rfl

theorem waitList_setLevel (s : State) (c : CompId) (l : Level) : (s.setLevel c l).waitList = s.waitList := by
  unfold State.setLevel
  simp only
  split
  · exact waitList_foldl_syncPass _ _
  · rfl

theorem imap_setLevel (s : State) (c : CompId) (l : Level) : (s.setLevel c l).imap = s.imap := by
  unfold State.setLevel
  simp only
  split
  · exact imap_foldl_syncPass _ _
  · rfl

theorem rpu_setLevel (s : State) (c : CompId) (l : Level) : (s.setLevel c l).rpu = s.rpu := by
  unfold State.setLevel
  simp only
  split
  · exact rpu_foldl_syncPass _ _
  · rfl

theorem drives_setLevel (s : State) (c : CompId) (l : Level) : Drives c s (s.setLevel c l) := by
  refine ⟨fun d hd => ?_, ?_, waitList_setLevel s c l, ?_,
    fun _ => entries_still (imap_setLevel s c l) (rpu_setLevel s c l)⟩
  · rw [comp_setLevel, if_neg hd]
  · rw [comp_setLevel, if_pos rfl]
  · rw [comp_setLevel, if_pos rfl]

theorem drives_startConfirmation (s : State) (c : CompId) (a : CompReading) : Drives c s (s.startConfirmation c a) :=
  drives_modComp s c _ rfl

theorem drives_startPopdown (s : State) (c : CompId) : Drives c s (s.startPopdown c) := drives_modComp s c _ rfl

theorem drives_clearIdle (s : State) (c : CompId) : Drives c s (s.clearIdle c) := drives_modComp s c _ rfl

theorem drives_stopCompressor (s : State) (c : CompId) : Drives c s (s.stopCompressor c) :=
  ((drives_writeComp _ _ _ _ (.inl rfl)).trans (drives_setLevel _ _ _)).trans (drives_startConfirmation _ _ _)

theorem drives_reverseTo (s : State) (c : CompId) (cmd : Command) (a : CompReading) : Drives c s (s.reverseTo c cmd a) :=
  ((drives_writeComp _ _ _ _ (.inr rfl)).trans (drives_setLevel _ _ _)).trans (drives_startConfirmation _ _ _)

theorem drives_followDemand (s : State) (c : CompId) : Drives c s (s.followDemand c) := by
  unfold State.followDemand
  split
  · split
    · exact (drives_clearIdle _ _).trans (drives_setLevel _ _ _)
    · exact (drives_clearIdle _ _).trans (drives_reverseTo _ _ _ _)
  · split
    · exact (drives_clearIdle _ _).trans (drives_setLevel _ _ _)
    · exact (drives_clearIdle _ _).trans (drives_reverseTo _ _ _ _)
  · exact (drives_clearIdle _ _).trans (drives_setLevel _ _ _)
  · exact (drives_setLevel _ _ _).trans (drives_startPopdown _ _)

theorem drives_startDecision (s : State) (c : CompId) : Drives c s (s.startDecision c) := by
  unfold State.startDecision
  split
  · simp only
    refine Drives.trans ?_ (drives_startConfirmation _ _ _)
    refine Drives.trans ?_ (drives_setLevel _ _ _)
    refine Drives.trans ?_ (drives_modComp _ _ _ rfl (List.prefix_append _ _))
    refine Drives.trans ?_ (drives_writeComp _ _ _ _ (.inl rfl))
    split
    · exact drives_writeComp _ _ _ _ (.inr rfl)
    · exact .refl _ s
  · exact drives_modComp s c _ rfl

theorem drives_actOn (s : State) (c : CompId) (old : Demand) : Drives c s (s.actOn c old) := by
  unfold State.actOn
  simp only
  split
  · exact .refl _ s
  · split
    · split
      · exact drives_modComp s c _ rfl
      · split
        · exact drives_startDecision s c
        · exact .refl _ s
    · exact drives_followDemand s c
    · exact drives_followDemand s c
    · exact drives_followDemand s c
    all_goals exact .refl _ s

/-- A compressor does not act while its resolved demand stands. -/
theorem actOn_same {s : State} {c : CompId} {old : Demand} (h : s.resolved c = old) : s.actOn c old = s := by
  rw [State.actOn, if_pos h]

/-- The levels in which a compressor follows no change of its demand (R141). -/
def Level.deaf : Level → Bool
  | .starting | .reversing | .stopping | .unavailable => true
  | .stopped | .idleRun | .push | .recover => false

theorem actOn_deaf {s : State} {c : CompId} (h : (s.comp c).level.deaf = true) (old : Demand) : s.actOn c old = s := by
  unfold State.actOn
  simp only
  split
  · rfl
  · cases level : (s.comp c).level with
    | starting => rfl
    | reversing => rfl
    | stopping => rfl
    | unavailable => rfl
    | stopped => rw [level] at h; cases h
    | idleRun => rw [level] at h; cases h
    | push => rw [level] at h; cases h
    | recover => rw [level] at h; cases h

/-- A compressor that neither runs nor may start: it follows no demand, or stands STOPPED at its start limit (R141, R142). -/
def State.still (s : State) (c : CompId) : Prop :=
  (s.comp c).level.deaf = true ∨ ((s.comp c).level = .stopped ∧ s.historyFull c = true)

theorem historyFull_congr {s t : State} {c : CompId} (record : (t.comp c).record = (s.comp c).record)
    (history : (t.comp c).history = (s.comp c).history) : t.historyFull c = s.historyFull c := by
  rw [State.historyFull, State.historyFull, State.compField, State.compField, record, history]

theorem startDecision_full {s : State} {c : CompId} (full : s.historyFull c = true) :
    s.startDecision c = s.modComp c fun x => { x with deferred := true } := by
  rw [State.startDecision, if_neg (Nat.not_lt.mpr (of_decide_eq_true full))]

/-- A compressor STOPPED at its start limit but marks a deferred start, and drops the mark with its last demand (R142). -/
theorem actOn_full {s : State} {c : CompId} (level : (s.comp c).level = .stopped) (full : s.historyFull c = true)
    (old : Demand) : s.actOn c old = s ∨ ∃ b, (b = false → s.resolved c = .none) ∧
      s.actOn c old = s.modComp c fun x => { x with deferred := b } := by
  unfold State.actOn
  simp only [level]
  split
  · exact .inl rfl
  · split
    · next none => exact .inr ⟨false, fun _ => none, rfl⟩
    · split
      · exact .inr ⟨true, nofun, startDecision_full full⟩
      · exact .inl rfl

/-- An UNAVAILABLE compressor does not act. -/
theorem actOn_unavailable {s : State} {c : CompId} (h : (s.comp c).level = .unavailable) (old : Demand) :
    s.actOn c old = s := by
  simp only [State.actOn, h]
  split <;> rfl

/-! ## Demands -/

theorem Aside.demand {s t : State} (h : Aside s t) (j : SpotId) : (t.spot j).demand = (s.spot j).demand := by
  rw [h.spots j]

/-- The resolved demand rests on who is attached and what they demand. -/
theorem resolved_of {s t : State} {c : CompId} (places : (t.comp c).attached = (s.comp c).attached)
    (demands : ∀ j ∈ (s.comp c).attached, (t.spot j).demand = (s.spot j).demand) : t.resolved c = s.resolved c := by
  unfold State.resolved
  rw [places]
  exact congrArg resolveDemand (List.map_congr_left demands)

theorem Drives.resolved {c : CompId} {s t : State} (h : Drives c s t) (k : Aside s t) (d : CompId) :
    t.resolved d = s.resolved d := resolved_of (h.places d) fun j _ => k.demand j

/-- No compressor acts while every resolved demand stands. -/
theorem foldl_actOn_same (before : State) (l : List CompId) (s : State) (h : ∀ c ∈ l, s.resolved c = before.resolved c) :
    l.foldl (fun t c => t.actOn c (before.resolved c)) s = s := by
  induction l with
  | nil => rfl
  | cons c l ih =>
    rw [List.foldl_cons, actOn_same (h c (List.mem_cons_self ..))]
    exact ih fun d hd => h d (List.mem_cons_of_mem _ hd)

/-- Where one resolved demand alone has changed, its compressor alone acts. -/
theorem actAll_only {s before : State} (c : CompId) (h : ∀ d, d ≠ c → s.resolved d = before.resolved d) :
    s.actAll before = s.actOn c (before.resolved c) := by
  obtain ⟨l, r, split, hl, hr⟩ : ∃ l r, allComps = l ++ c :: r ∧ c ∉ l ∧ c ∉ r := by
    obtain ⟨l, r, e⟩ := List.append_of_mem (mem_allComps c)
    have nodup : (l ++ c :: r).Nodup := e ▸ (by decide)
    have parts := List.nodup_middle.mp nodup
    obtain ⟨hc, _⟩ := List.nodup_cons.mp parts
    exact ⟨l, r, e, fun m => hc (List.mem_append_left _ m), fun m => hc (List.mem_append_right _ m)⟩
  have acted := (drives_actOn s c (before.resolved c)).resolved (aside_actOn s c _)
  rw [State.actAll, split, List.foldl_append, List.foldl_cons,
    foldl_actOn_same before l s fun d hd => h d fun e => hl (e ▸ hd)]
  exact foldl_actOn_same before r _ fun d hd => (acted d).trans (h d fun e => hr (e ▸ hd))

/-! ## Answering a spot -/

/-- The latches that answering a spot may write: its LIQ_CMD, and those of a compressor that runs or may start. -/
def FreeLatch (i : SpotId) (s : State) (r : Role) (w : Nat) : Prop :=
  (r = .liqCmd ∧ w = spotNumber i) ∨ ∃ c, CompLatch c r w ∧ ¬ s.still c

/-- What the units do for one spot leaves the condition sets, the manifest, every other spot but for its pass timer, the
places of the others and the order of the wait list, an UNAVAILABLE compressor but for a spot that leaves it, one that follows
no demand but for its spots, one at its start limit but for its spots and the mark of a deferred start, which stays while another
spot asks for it, the starts counted, and the map but for timers and the latches it may write. -/
structure Beside (i : SpotId) (s t : State) : Prop where
  conditions : t.conditions = s.conditions
  manifest   : t.manifest = s.manifest
  spots      : ∀ j, j ≠ i → t.spot j = { s.spot j with pass := (t.spot j).pass }
  pass       : ∀ j, j ≠ i → ¬ (s.spot j).inPass → (t.spot j).pass = (s.spot j).pass
  homes      : ∀ c j, j ≠ i → (j ∈ (t.comp c).attached ↔ j ∈ (s.comp c).attached)
  list       : t.waitList.filter (fun j => j != i) = s.waitList.filter (fun j => j != i)
  down       : ∀ c, (s.comp c).level = .unavailable →
    ∃ l, l.Sublist (s.comp c).attached ∧ t.comp c = { s.comp c with attached := l }
  deaf       : ∀ c, (s.comp c).level.deaf = true → t.comp c = { s.comp c with attached := (t.comp c).attached }
  full       : ∀ c, (s.comp c).level = .stopped → s.historyFull c = true →
    t.comp c = { s.comp c with attached := (t.comp c).attached, deferred := (t.comp c).deferred }
  defers     : ∀ c j, j ≠ i → j ∈ (s.comp c).attached → (s.spot j).demand ≠ .none → (s.comp c).level = .stopped →
    s.historyFull c = true → (s.comp c).deferred = true → (t.comp c).deferred = true
  history    : ∀ c, (s.comp c).history <+: (t.comp c).history
  entries    : Rising s.imap → Entries (FreeLatch i s) s t

theorem Beside.refl (i : SpotId) (s : State) : Beside i s s :=
  ⟨rfl, rfl, fun _ _ => rfl, fun _ _ _ => rfl, fun _ _ _ => Iff.rfl, rfl, fun _ _ => ⟨_, List.Sublist.refl _, rfl⟩,
    fun _ _ => rfl, fun _ _ _ => rfl, fun _ _ _ _ _ _ _ deferred => deferred, fun _ => List.prefix_refl _,
    fun _ => entries_still rfl rfl⟩

theorem Beside.still {i : SpotId} {s t : State} (h : Beside i s t) {c : CompId} (k : s.still c) : t.still c := by
  rcases k with deaf | ⟨level, full⟩
  · refine .inl ?_
    rw [h.deaf c deaf]
    exact deaf
  · have same := h.full c level full
    refine .inr ⟨by rw [same]; exact level, ?_⟩
    rw [historyFull_congr (s := s) (by rw [same]) (by rw [same])]
    exact full

theorem Beside.free {i : SpotId} {s t : State} (h : Beside i s t) {r : Role} {w : Nat} (hf : FreeLatch i t r w) :
    FreeLatch i s r w := by
  rcases hf with mine | ⟨c, latch, up⟩
  · exact .inl mine
  · exact .inr ⟨c, latch, fun k => up (h.still k)⟩

theorem Beside.trans {i : SpotId} {x y z : State} (h : Beside i x y) (k : Beside i y z) : Beside i x z := by
  refine ⟨k.conditions.trans h.conditions, k.manifest.trans h.manifest, fun j hj => ?_, fun j hj hn => ?_,
    fun c j hj => (k.homes c j hj).trans (h.homes c j hj), k.list.trans h.list, fun c hc => ?_,
    fun c hc => ?_, fun c level full => ?_, fun c j hj attached asks level full deferred => ?_,
    fun c => (h.history c).trans (k.history c),
    fun hr => (h.entries hr).trans ((k.entries ((h.entries hr).rising hr)).mono fun _ _ => h.free)⟩
  · rw [k.spots j hj, h.spots j hj]
  · have hn' : ¬ (y.spot j).inPass := by
      rw [h.spots j hj]
      exact hn
    rw [k.pass j hj hn', h.pass j hj hn]
  · obtain ⟨l, sub, first⟩ := h.down c hc
    obtain ⟨m, sub', second⟩ := k.down c (by rw [first]; exact hc)
    refine ⟨m, ?_, ?_⟩
    · rw [first] at sub'
      exact sub'.trans sub
    · rw [second, first]
  · have first := h.deaf c hc
    rw [k.deaf c (by rw [first]; exact hc), first]
  · have first := h.full c level full
    have full' : y.historyFull c = true := (historyFull_congr (by rw [first]) (by rw [first])).trans full
    rw [k.full c (by rw [first]; exact level) full', first]
  · have first := h.full c level full
    have full' : y.historyFull c = true := (historyFull_congr (by rw [first]) (by rw [first])).trans full
    exact k.defers c j hj ((h.homes c j hj).mpr attached) (by rw [h.spots j hj]; exact asks) (by rw [first]; exact level)
      full' (h.defers c j hj attached asks level full deferred)

theorem Beside.foldl {α : Type} {i : SpotId} (f : State → α → State) (h : ∀ s a, Beside i s (f s a)) (l : List α)
    (s : State) : Beside i s (l.foldl f s) := by
  induction l generalizing s with
  | nil => exact .refl i s
  | cons a l ih => exact (h s a).trans (ih _)

theorem Aside.beside {i : SpotId} {s t : State} (a : Aside s t) (places : ∀ c, (t.comp c).attached = (s.comp c).attached)
    (list : t.waitList = s.waitList) (still : ∀ c, s.still c → t.comp c = s.comp c)
    (history : ∀ c, (s.comp c).history <+: (t.comp c).history)
    (entries : Rising s.imap → Entries (FreeLatch i s) s t) : Beside i s t := by
  refine ⟨a.conditions, a.manifest, fun j _ => a.spots j, fun j _ => a.pass j, fun _ j _ => by rw [places], by rw [list],
    fun c hc => ⟨_, List.Sublist.refl _, ?_⟩, fun c deaf => by rw [still c (.inl deaf)],
    fun c level full => by rw [still c (.inr ⟨level, full⟩)],
    fun c _ _ _ _ level full deferred => by rw [still c (.inr ⟨level, full⟩)]; exact deferred, history, entries⟩
  rw [still c (.inl (by rw [hc]; rfl))]

theorem OnlyMap.beside {i : SpotId} {s t : State} (h : OnlyMap s t)
    (entries : Rising s.imap → Entries (FreeLatch i s) s t) : Beside i s t :=
  (aside_of_parts h.conditions h.manifest h.spots).beside (fun c => congrArg Compressor.attached (h.comp c)) h.waitList
    (fun c _ => h.comp c) (fun c => by rw [h.comp c]) entries

theorem beside_writeLiquid (s : State) (i : SpotId) (cmd : Command) : Beside i s (s.writeValve .liqCmd i cmd) :=
  (onlyMap_writeLatch _ _ _ _).beside fun hr => (entries_writeLatch hr _ _ cmd).mono fun _ _ => .inl

theorem entries_announce {free : Role → Nat → Prop} (s : State) (i : SpotId) : Entries free s (s.announce i) := by
  refine entries_of_imap (onlyPort_announce s i).imap fun k => ?_
  unfold State.announce State.standingReport
  simp only
  split
  · exact (stillPort_offerNotice k _ _).trans (stillPort_offerNotice k _ _)
  · exact stillPort_offerNotice k _ _

theorem beside_announce {i : SpotId} (s : State) (j : SpotId) : Beside i s (s.announce j) :=
  (onlyPort_announce s j).onlyMap.beside fun _ => entries_announce s j

theorem beside_modSpot (s : State) (i : SpotId) (f : SpotContext → SpotContext) : Beside i s (s.modSpot i f) :=
  ⟨rfl, rfl, fun j hj => by rw [spot_modSpot_other s f hj], fun j hj _ => by rw [spot_modSpot_other s f hj],
    fun _ _ _ => Iff.rfl, rfl, fun _ _ => ⟨_, List.Sublist.refl _, rfl⟩, fun _ _ => rfl, fun _ _ _ => rfl,
    fun _ _ _ _ _ _ _ deferred => deferred, fun _ => List.prefix_refl _, fun _ => entries_still rfl rfl⟩

theorem resolveDemand_ne_none {l : List Demand} {d : Demand} (h : d ∈ l) (asks : d ≠ .none) : resolveDemand l ≠ .none := by
  unfold resolveDemand
  split
  · nofun
  · next push =>
    split
    · nofun
    · next recover =>
      split
      · nofun
      · next hold =>
        rw [List.contains_iff_mem] at push recover hold
        cases d
        exacts [absurd rfl asks, absurd h hold, absurd h push, absurd h recover]

/-- A compressor that a spot asks for resolves a demand (R141). -/
theorem resolved_ne_none {s : State} {c : CompId} {j : SpotId} (attached : j ∈ (s.comp c).attached)
    (asks : (s.spot j).demand ≠ .none) : s.resolved c ≠ .none :=
  resolveDemand_ne_none (List.mem_map_of_mem attached) asks

/-- The mark of a deferred start, set or kept while a spot asks, stands beside every spot (R142). -/
theorem beside_deferred {i : SpotId} (s : State) (c : CompId) (b : Bool) (level : (s.comp c).level = .stopped)
    (kept : b = false → s.resolved c = .none) : Beside i s (s.modComp c fun x => { x with deferred := b }) := by
  have comp := fun d => comp_modComp s c d fun x => { x with deferred := b }
  have still : ∀ d, (s.comp d).level.deaf = true → d ≠ c := fun d deaf e => by
    rw [e, level] at deaf
    cases deaf
  refine ⟨rfl, rfl, fun _ _ => rfl, fun _ _ _ => rfl, fun d j _ => ?_, rfl, fun d down => ⟨_, List.Sublist.refl _, ?_⟩,
    fun d deaf => ?_, fun d _ _ => ?_, fun d j _ attached asks _ _ deferred => ?_, fun d => ?_, fun _ => entries_still rfl rfl⟩
  · rw [comp]
    split
    · next e => rw [e]
    · rfl
  · rw [comp, if_neg (still d (by rw [down]; rfl))]
  · rw [comp, if_neg (still d deaf)]
  · rw [comp]
    split
    · next e => rw [e]
    · rfl
  · rw [comp]
    split
    · next e =>
      cases b with
      | true => rfl
      | false => exact absurd (kept rfl) (resolved_ne_none (e ▸ attached) asks)
    · exact deferred
  · rw [comp]
    split
    · next e => rw [e]
    · exact List.prefix_refl _

theorem beside_actOn {i : SpotId} (s : State) (c : CompId) (old : Demand) : Beside i s (s.actOn c old) := by
  by_cases still : s.still c
  · rcases still with deaf | ⟨level, full⟩
    · rw [actOn_deaf deaf]
      exact .refl i s
    · rcases actOn_full level full old with same | ⟨b, kept, same⟩
      · rw [same]
        exact .refl i s
      · rw [same]
        exact beside_deferred s c b level kept
  · have drives := drives_actOn s c old
    refine (aside_actOn s c old).beside drives.places drives.waitList
      (fun d hd => drives.others d fun e => still (e ▸ hd)) (fun d => ?_)
      fun hr => (drives.entries hr).mono fun r w latch => .inr ⟨c, latch, still⟩
    by_cases e : d = c
    · rw [e]
      exact drives.history
    · rw [drives.others d e]

theorem beside_actAll {i : SpotId} (s before : State) : Beside i s (s.actAll before) :=
  Beside.foldl _ (fun _ _ => beside_actOn _ _ _) _ _

theorem beside_syncPass (i : SpotId) (s : State) : Beside i s (s.syncPass i) :=
  (aside_syncPass s i).beside (fun c => by rw [comp_of_comps (comps_syncPass s i)]) (waitList_syncPass s i)
    (fun c _ => comp_of_comps (comps_syncPass s i) c) (fun c => by rw [comp_of_comps (comps_syncPass s i)]) fun _ => entries_still (imap_syncPass s i) (rpu_syncPass s i)

/-! ## Places -/

theorem mem_insertSpot (i j : SpotId) (l : List SpotId) : j ∈ insertSpot i l ↔ j = i ∨ j ∈ l := by
  induction l with
  | nil => simp [insertSpot]
  | cons k l ih =>
    unfold insertSpot
    split
    · simp
    · split
      · next e =>
        subst e
        simp
      · rw [List.mem_cons, ih, List.mem_cons]
        tauto

theorem attached_attach (s : State) (c d : CompId) (i : SpotId) :
    ((s.attach c i).comp d).attached = if d = c then insertSpot i (s.comp c).attached else (s.comp d).attached := by
  rw [State.attach, comp_modComp]
  split <;> rfl

theorem attached_detach (s : State) (c d : CompId) (i : SpotId) :
    ((s.detach c i).comp d).attached =
      if d = c then (s.comp c).attached.filter (fun j => j != i) else (s.comp d).attached := by
  rw [State.detach, comp_modComp]
  split <;> rfl

/-- Another list of the spots of one compressor, with the same spots beside one. -/
theorem beside_places {i : SpotId} (s : State) (c : CompId) (f : List SpotId → List SpotId)
    (homes : ∀ l j, j ≠ i → (j ∈ f l ↔ j ∈ l)) (down : (s.comp c).level = .unavailable → (f (s.comp c).attached).Sublist
      (s.comp c).attached) : Beside i s (s.modComp c fun x => { x with attached := f x.attached }) := by
  have comp : ∀ d, ∃ l, (d = c → l = f (s.comp c).attached) ∧ (d ≠ c → l = (s.comp d).attached) ∧
      (s.modComp c fun x => { x with attached := f x.attached }).comp d = { s.comp d with attached := l } := fun d => by
    by_cases e : d = c
    · subst e
      exact ⟨_, fun _ => rfl, fun n => absurd rfl n, comp_modComp_same s d _⟩
    · exact ⟨_, fun h => absurd h e, fun _ => rfl, comp_modComp_other s _ e⟩
  refine ⟨rfl, rfl, fun _ _ => rfl, fun _ _ _ => rfl, fun d j hj => ?_, rfl, fun d hd => ?_, fun d _ => ?_,
    fun d _ _ => ?_, fun d _ _ _ _ _ _ deferred => ?_, fun d => ?_, fun _ => entries_still rfl rfl⟩
  all_goals obtain ⟨l, same, other, e⟩ := comp d
  all_goals rw [e]
  · by_cases h : d = c
    · rw [same h, ← h]
      exact homes _ j hj
    · rw [other h]
  · refine ⟨l, ?_, rfl⟩
    by_cases h : d = c
    · rw [same h, ← h]
      exact h ▸ down (h ▸ hd)
    · rw [other h]
  · exact deferred

theorem beside_attach (s : State) (c : CompId) (i : SpotId) (h : (s.comp c).level ≠ .unavailable) :
    Beside i s (s.attach c i) :=
  beside_places s c (insertSpot i) (fun l j hj => (mem_insertSpot i j l).trans (or_iff_right hj)) fun down => absurd down h

theorem beside_detach (s : State) (c : CompId) (i : SpotId) : Beside i s (s.detach c i) :=
  beside_places s c (List.filter fun j => j != i)
    (fun _ _ hj => List.mem_filter.trans (and_iff_left (bne_iff_ne.mpr hj))) fun _ => List.filter_sublist

theorem beside_leaveList (s : State) (i : SpotId) : Beside i s (s.leaveList i) := by
  refine ⟨rfl, rfl, fun _ _ => rfl, fun _ _ _ => rfl, fun _ _ _ => Iff.rfl, ?_, fun _ _ => ⟨_, List.Sublist.refl _, rfl⟩,
    fun _ _ => rfl, fun _ _ _ => rfl, fun _ _ _ _ _ _ _ deferred => deferred, fun _ => List.prefix_refl _,
    fun _ => entries_still rfl rfl⟩
  simp [State.leaveList]

theorem comps_joinList (s : State) (i : SpotId) : (s.joinList i).comps = s.comps := by
  unfold State.joinList
  split <;> rfl

theorem beside_joinList (s : State) (i : SpotId) : Beside i s (s.joinList i) := by
  unfold State.joinList
  split
  · exact .refl i s
  · refine ⟨rfl, rfl, fun _ _ => rfl, fun _ _ _ => rfl, fun _ _ _ => Iff.rfl, ?_,
      fun _ _ => ⟨_, List.Sublist.refl _, rfl⟩, fun _ _ => rfl, fun _ _ _ => rfl,
      fun _ _ _ _ _ _ _ deferred => deferred, fun _ => List.prefix_refl _, fun _ => entries_still rfl rfl⟩
    simp

/-- A compressor that can take a spot is not UNAVAILABLE (R145). -/
theorem level_of_canTake {s : State} {c : CompId} {i : SpotId} (h : s.canTake c i = true) :
    (s.comp c).level ≠ .unavailable := by
  unfold State.canTake at h
  simp only [Bool.and_eq_true, decide_eq_true_eq] at h
  exact h.1.1

theorem canTake_of_taker {s : State} {i : SpotId} {c : CompId} (h : s.taker i = some c) : s.canTake c i = true := by
  unfold State.taker at h
  split at h
  · next r hr =>
    split at h
    · next takes => cases h; exact takes
    · split at h
      · split at h
        · next takes => cases h; exact takes
        · cases h
      · cases h
  · cases h

theorem beside_applySpot (s : State) (i : SpotId) : Beside i s (s.applySpot i) := by
  unfold State.applySpot
  split
  · next c hc => exact beside_attach s c i (level_of_canTake (canTake_of_taker hc))
  · exact beside_joinList s i

theorem beside_place (s : State) (i : SpotId) : Beside i s (s.place i) := by
  unfold State.place
  simp only
  split
  · split
    · exact beside_detach _ _ _
    · exact .refl i s
    · split
      · exact (beside_detach _ _ _).trans (beside_applySpot _ _)
      · exact .refl i s
    · split
      · exact (beside_detach _ _ _).trans (beside_applySpot _ _)
      · exact .refl i s
  · split
    · split
      · exact .refl i s
      · exact beside_leaveList _ _
    · split
      · exact beside_applySpot _ _
      · exact .refl i s

/-! ## Demands handed and answers made -/

theorem beside_takeGrant (s : State) (i : SpotId) : Beside i s (s.takeGrant i) :=
  (beside_modSpot s i _).trans (beside_syncPass i _)

theorem beside_handDemand (s : State) (i : SpotId) (d : Demand) : Beside i s (s.handDemand i d) := by
  unfold State.handDemand
  split
  · exact .refl i s
  · exact (((beside_modSpot s i _).trans (beside_place _ i)).trans (beside_actAll _ _)).trans (beside_takeGrant _ i)

theorem beside_handHold (s : State) (i : SpotId) : Beside i s (s.handHold i) := by
  unfold State.handHold
  simp only
  split
  · exact beside_handDemand _ _ _
  · exact (beside_handDemand _ _ _).trans (beside_handDemand _ _ _)
  · exact (beside_handDemand _ _ _).trans (beside_handDemand _ _ _)

theorem beside_followGrant (s : State) (i : SpotId) (v : Saved) : Beside i s (s.followGrant i v) := by
  unfold State.followGrant
  split
  · exact beside_handHold _ _
  · exact beside_handDemand _ _ _
  · exact beside_handDemand _ _ _

theorem beside_holdOrNone (s : State) (i : SpotId) : Beside i s (s.holdOrNone i) := by
  unfold State.holdOrNone
  split
  · exact beside_handHold _ _
  · exact beside_handDemand _ _ _
  · exact beside_handDemand _ _ _

theorem beside_enterSuspended (s : State) (i : SpotId) (v : Saved) : Beside i s (s.enterSuspended i v) := by
  unfold State.enterSuspended
  simp only
  refine Beside.trans ?_ (beside_announce _ _)
  refine Beside.trans ?_ (beside_modSpot _ i _)
  refine Beside.trans ?_ (beside_followGrant _ _ _)
  refine Beside.trans ?_ (beside_modSpot _ i _)
  exact (beside_modSpot s i _).trans (beside_writeLiquid _ _ _)

theorem beside_completeReturn (s : State) (i : SpotId) (v : Saved) : Beside i s (s.completeReturn i v) := by
  unfold State.completeReturn
  simp only
  refine Beside.trans ?_ (beside_announce _ _)
  refine (beside_modSpot s i (fun x =>
    { x with suspendTimer := none, saved := none, state := v.state, sub := v.sub })).trans ?_
  split
  · exact beside_modSpot _ i _
  · exact ((beside_writeLiquid _ _ _).trans (beside_modSpot _ i _)).trans (beside_modSpot _ i _)
  · exact beside_syncPass i _
  · exact beside_modSpot _ i _

theorem beside_setNoCompressor (s : State) (i : SpotId) (b : Bool) : Beside i s (s.setNoCompressor i b) :=
  beside_modSpot s i _

theorem beside_returnAttempt (s : State) (i : SpotId) : Beside i s (s.returnAttempt i) := by
  unfold State.returnAttempt
  split
  · exact .refl i s
  · split
    · exact beside_completeReturn _ _ _
    · simp only
      split
      · exact ((beside_handDemand _ _ _).trans (beside_setNoCompressor _ _ _)).trans (beside_completeReturn _ _ _)
      · exact (beside_handDemand _ _ _).trans (beside_setNoCompressor _ _ _)
      · exact (beside_handDemand _ _ _).trans (beside_setNoCompressor _ _ _)

theorem beside_causeTest (s : State) (i : SpotId) : Beside i s (s.causeTest i) := by
  unfold State.causeTest
  simp only
  split
  · split
    · exact beside_enterSuspended _ _ _
    · exact .refl i s
  · split
    · exact beside_returnAttempt _ _
    · exact .refl i s

theorem beside_changeCauses (s : State) (i : SpotId) (f : Causes → Causes) : Beside i s (s.changeCauses i f) := by
  unfold State.changeCauses
  split
  · simp only
    split
    · exact .refl i s
    · exact (beside_modSpot s i _).trans (beside_causeTest _ _)
  · exact .refl i s

theorem beside_takeReport (s : State) (i : SpotId) : Beside i s (s.takeReport i) := by
  unfold State.takeReport
  simp only
  have grant := beside_takeGrant s i
  split
  · split
    · have cleared := grant.trans (beside_setNoCompressor (s.takeGrant i) i false)
      split
      · split
        · exact cleared.trans (beside_handHold _ _)
        · exact cleared.trans (beside_returnAttempt _ _)
      · exact cleared
    · split
      · exact (grant.trans (beside_setNoCompressor _ _ _)).trans (beside_causeTest _ _)
      · exact (grant.trans (beside_setNoCompressor _ _ _)).trans (beside_causeTest _ _)
      · exact grant.trans (beside_handDemand _ _ _)
      · exact grant
    · split
      · exact grant
      · exact grant
      · exact grant.trans (beside_handDemand _ _ _)
      · exact grant.trans (beside_setNoCompressor _ _ _)
  · exact grant

theorem beside_grantSpot (s : State) (i : SpotId) (c : CompId) (h : (s.comp c).level ≠ .unavailable) :
    Beside i s (s.grantSpot i c) :=
  (((beside_leaveList s i).trans (beside_attach _ c i h)).trans (beside_actAll _ _)).trans (beside_takeReport _ i)

/-! ## The grant scan -/

theorem firstTakeable_eq_some {s : State} {l : List SpotId} {i : SpotId} {c : CompId}
    (h : s.firstTakeable l = some (i, c)) : i ∈ l ∧ s.taker i = some c := by
  induction l with
  | nil => cases h
  | cons j l ih =>
    unfold State.firstTakeable at h
    split at h
    · next d hd =>
      cases h
      exact ⟨List.mem_cons_self .., hd⟩
    · obtain ⟨m, taken⟩ := ih h
      exact ⟨List.mem_cons_of_mem _ m, taken⟩

/-- What every grant to a spot of the list keeps, the scan keeps. -/
theorem endScan_keeps {P : State → Prop}
    (h : ∀ s i c, i ∈ s.waitList → s.taker i = some c → P s → P (s.grantSpot i c)) {s : State} (hp : P s) : P s.endScan := by
  unfold State.endScan
  generalize s.waitList.length = n
  induction n generalizing s with
  | zero => exact hp
  | succ n ih =>
    unfold grantScan
    split
    · exact hp
    · next i c found =>
      obtain ⟨m, taken⟩ := firstTakeable_eq_some found
      exact ih (h s i c m taken hp)

theorem beside_grant {s : State} {i : SpotId} {c : CompId} (h : s.taker i = some c) : Beside i s (s.grantSpot i c) :=
  beside_grantSpot s i c (level_of_canTake (canTake_of_taker h))

theorem Beside.mem_waitList {i j : SpotId} {s t : State} (h : Beside i s t) (hj : j ≠ i) :
    j ∈ t.waitList ↔ j ∈ s.waitList := by
  have both := congrArg (j ∈ ·) h.list
  simpa [hj] using both

/-- The scan leaves the condition sets and the manifest. -/
theorem endScan_aside (s : State) : s.endScan.conditions = s.conditions ∧ s.endScan.manifest = s.manifest :=
  endScan_keeps (P := fun t => t.conditions = s.conditions ∧ t.manifest = s.manifest)
    (fun _ _ _ _ taken ⟨conditions, manifest⟩ =>
      ⟨(beside_grant taken).conditions.trans conditions, (beside_grant taken).manifest.trans manifest⟩) ⟨rfl, rfl⟩

/-- The scan puts no spot on the wait list. -/
theorem mem_waitList_endScan {s : State} {j : SpotId} (h : j ∈ s.endScan.waitList) : j ∈ s.waitList := by
  refine endScan_keeps (P := fun t => j ∈ t.waitList → j ∈ s.waitList) (fun u i c m taken ih hj => ?_) id h
  by_cases e : j = i
  · exact ih (e ▸ m)
  · exact ih (((beside_grant taken).mem_waitList e).mp hj)

/-- The scan leaves an UNAVAILABLE compressor but for the spots that leave it. -/
theorem down_endScan (s : State) (c : CompId) (h : (s.comp c).level = .unavailable) :
    ∃ l, l.Sublist (s.comp c).attached ∧ s.endScan.comp c = { s.comp c with attached := l } := by
  refine endScan_keeps (P := fun t => ∃ l, l.Sublist (s.comp c).attached ∧ t.comp c = { s.comp c with attached := l })
    (fun u i d _ taken ⟨l, sub, same⟩ => ?_) ⟨_, List.Sublist.refl _, rfl⟩
  obtain ⟨m, sub', same'⟩ := (beside_grant taken).down c (by rw [same]; exact h)
  rw [same] at sub' same'
  exact ⟨m, sub'.trans sub, same'⟩

/-- A spot outside a recovery pass that does not wait is as it was after the scan. -/
theorem spot_endScan_of_not_waiting {s : State} {j : SpotId} (absent : j ∉ s.waitList) (h : ¬ (s.spot j).inPass) :
    s.endScan.spot j = s.spot j := by
  refine (endScan_keeps (P := fun t => j ∉ t.waitList ∧ t.spot j = s.spot j) (fun u i c m taken ⟨out, same⟩ => ?_)
    ⟨absent, rfl⟩).2
  have e : j ≠ i := fun e => out (e ▸ m)
  have beside := beside_grant taken
  refine ⟨fun hj => out ((beside.mem_waitList e).mp hj), ?_⟩
  rw [beside.spots j e, beside.pass j e (by rw [same]; exact h), same]

theorem attached_actAll (s before : State) (c : CompId) : ((s.actAll before).comp c).attached = (s.comp c).attached := by
  unfold State.actAll
  generalize allComps = l
  induction l generalizing s with
  | nil => rfl
  | cons d l ih => exact (ih _).trans ((drives_actOn s d _).places c)

/-- A spot that has been granted is not answered detached (R147). -/
theorem standingAnswer_grant (s before : State) (c : CompId) (i : SpotId) :
    ((s.attach c i).actAll before).standingAnswer i ≠ .detached := by
  have there : (((s.attach c i).actAll before).attachedTo i).isSome = true := by
    rw [State.attachedTo, List.find?_isSome]
    refine ⟨c, mem_allComps c, ?_⟩
    rw [attached_actAll, attached_attach, if_pos rfl, List.contains_iff_mem, mem_insertSpot]
    exact .inl rfl
  obtain ⟨d, hd⟩ := Option.isSome_iff_exists.mp there
  rw [State.standingAnswer, hd]
  simp only
  split <;> nofun

/-- What an answer to the spot, which the scan never answers detached, and a change of its pass timer keep at its context,
the scan keeps. -/
theorem spot_endScan_keeps {P : SpotContext → Prop} {j : SpotId} (pass : ∀ x p, x.inPass → P x → P { x with pass := p })
    (answer : ∀ s : State, s.standingAnswer j ≠ .detached → P (s.spot j) → P ((s.takeReport j).spot j)) {s : State} (h : P (s.spot j)) :
    P (s.endScan.spot j) := by
  have aside : ∀ (x y : State), (y.spot j = { x.spot j with pass := (y.spot j).pass }) →
      (¬ (x.spot j).inPass → (y.spot j).pass = (x.spot j).pass) → P (x.spot j) → P (y.spot j) := by
    intro x y spots same hp
    by_cases running : (x.spot j).inPass
    · rw [spots]
      exact pass _ _ running hp
    · rw [spots, same running]
      exact hp
  refine endScan_keeps (P := fun t => P (t.spot j)) (fun u i c _ taken hp => ?_) h
  by_cases e : j = i
  · subst e
    refine answer _ (standingAnswer_grant (u.leaveList j) u c j) (aside (u.leaveList j) _ ?_ ?_ hp)
    · exact ((aside_attach (u.leaveList j) c j).trans (aside_actAll _ _)).spots j
    · exact ((aside_attach (u.leaveList j) c j).trans (aside_actAll _ _)).pass j
  · exact aside u _ ((beside_grant taken).spots j e) ((beside_grant taken).pass j e) hp

end Sys2Proof.Machine
end

section
/-! What an answer of the Coordinator makes of a spot's own context (R94, R97, R98, R100), and the spots the grant scan leaves where
they stand. -/

namespace Sys2Proof.Machine

/-! ## Handing a demand -/

/-- A context with another demand and grant, and its pass timer as an answer leaves it. -/
def SpotContext.handed (x : SpotContext) (d : Demand) (g : Grant) (p : Option Nat) : SpotContext :=
  { x with demand := d, grant := g, pass := p }

theorem spot_takeGrant (s : State) (i : SpotId) : ∃ p, (¬ (s.spot i).inPass → p = (s.spot i).pass) ∧
    (s.takeGrant i).spot i =
      (s.spot i).handed (s.spot i).demand (grantOf (s.standingAnswer i) (s.spot i).demand) p := by
  unfold State.takeGrant
  have aside := aside_syncPass (s.modSpot i (fun x => { x with grant := grantOf (s.standingAnswer i) x.demand })) i
  generalize State.syncPass _ i = t at *
  refine ⟨(t.spot i).pass, fun h => ?_, ?_⟩
  · rw [aside.pass i (by rw [spot_modSpot_same]; exact h), spot_modSpot_same]
  · rw [aside.spots i, spot_modSpot_same]
    rfl

theorem spot_handDemand (s : State) (i : SpotId) (d : Demand) : ∃ g p, (¬ (s.spot i).inPass → p = (s.spot i).pass) ∧
    (s.handDemand i d).spot i = (s.spot i).handed d g p ∧
    ((s.spot i).demand = d → g = (s.spot i).grant ∧ p = (s.spot i).pass) ∧
    ((s.spot i).demand ≠ d → ∃ a, g = grantOf a d) := by
  by_cases same : (s.spot i).demand = d
  · refine ⟨(s.spot i).grant, (s.spot i).pass, fun _ => rfl, ?_, fun _ => ⟨rfl, rfl⟩, fun h => absurd same h⟩
    rw [State.handDemand, if_pos same, SpotContext.handed, ← same]
  · have handed := handed_handDemand s i d
    refine ⟨((s.handDemand i d).spot i).grant, ((s.handDemand i d).spot i).pass, handed.pass i, handed.self,
      fun h => absurd h same, fun _ => ?_⟩
    have demand : ((((s.modSpot i (fun x => { x with demand := d })).place i).actAll s).spot i).demand = d := by
      rw [(aside_actAll _ _).demand, (aside_place _ _).demand, spot_modSpot_same]
    rw [State.handDemand, if_neg same]
    simp only
    generalize ((s.modSpot i (fun x => { x with demand := d })).place i).actAll s = u at *
    obtain ⟨p, _, e⟩ := spot_takeGrant u i
    rw [e, SpotContext.handed, demand]
    exact ⟨_, rfl⟩

theorem inPass_of_suspended {x : SpotContext} (h : x.state = .suspended) : ¬ x.inPass := fun hp => by
  rw [hp.1] at h
  cases h

/-- HOLD where the answer names a compressor, NONE otherwise (R94). -/
theorem spot_handHold (s : State) (i : SpotId) : ∃ d g p, (d = .hold ∨ d = .none) ∧
    (¬ (s.spot i).inPass → p = (s.spot i).pass) ∧ (s.handHold i).spot i = (s.spot i).handed d g p := by
  obtain ⟨g, p, hp, first, _⟩ := spot_handDemand s i .hold
  have again : ∃ d g p, (d = .hold ∨ d = .none) ∧ (¬ (s.spot i).inPass → p = (s.spot i).pass) ∧
      ((s.handDemand i .hold).handDemand i .none).spot i = (s.spot i).handed d g p := by
    obtain ⟨g', p', hp', second, _⟩ := spot_handDemand (s.handDemand i .hold) i .none
    rw [first] at hp' second
    exact ⟨_, g', p', .inr rfl, fun h => (hp' h).trans (hp h), second⟩
  unfold State.handHold
  simp only
  split
  · exact ⟨_, g, p, .inl rfl, hp, first⟩
  · exact again
  · exact again

theorem spot_followGrant (s : State) (i : SpotId) (v : Saved) (h : ¬ (s.spot i).inPass) :
    ∃ d g, (s.followGrant i v).spot i = (s.spot i).handed d g (s.spot i).pass := by
  have hand : ∀ d, ∃ d' g, (s.handDemand i d).spot i = (s.spot i).handed d' g (s.spot i).pass := fun d => by
    obtain ⟨g, p, hp, e, _⟩ := spot_handDemand s i d
    exact ⟨_, g, by rw [e, hp h]⟩
  unfold State.followGrant
  split
  · obtain ⟨d, g, p, _, hp, e⟩ := spot_handHold s i
    exact ⟨d, g, by rw [e, hp h]⟩
  · exact hand _
  · exact hand _

/-! ## Suspension and return -/

/-- A context that has entered SUSPENDED with a state saved (R97). -/
def SpotContext.suspendedAs (x : SpotContext) (v : Saved) (d : Demand) (g : Grant) (timer : Nat) : SpotContext :=
  { x with
    state := .suspended, saved := some v, travel := none, pressurise := none, pass := none, settle := none,
    liquidConfirmed := false, demand := d, grant := g, suspendTimer := some timer }

theorem spot_writeValve (s : State) (r : Role) (i j : SpotId) (cmd : Command) :
    (s.writeValve r i cmd).spot j = s.spot j := (onlyMap_writeLatch s r (spotNumber i) cmd).spot j

theorem spot_announce (s : State) (i j : SpotId) : (s.announce i).spot j = s.spot j :=
  (onlyPort_announce s i).onlyMap.spot j

theorem spot_enterSuspended (s : State) (i : SpotId) (v : Saved) : ∃ d g, (s.enterSuspended i v).spot i =
    (s.spot i).suspendedAs v d g (s.uptime + s.recordField i (·.suspendLimit)) := by
  unfold State.enterSuspended
  simp only
  generalize hu : ((s.modSpot i (fun x =>
    { x with saved := some v, travel := none, pressurise := none, pass := none, settle := none,
             liquidConfirmed := false })).writeValve .liqCmd i .closed).setState i .suspended = u
  have self : u.spot i =
      { s.spot i with saved := some v, travel := none, pressurise := none, pass := none, settle := none,
                      liquidConfirmed := false, state := .suspended } := by
    rw [← hu, State.setState, spot_modSpot_same, spot_writeValve, spot_modSpot_same]
  have inner := inner_followGrant u i v
  have uptime : u.uptime = s.uptime := by
    rw [← hu, uptime_setState, State.writeValve, (onlyMap_writeLatch _ _ _ _).uptime, uptime_modSpot]
  have table : u.table = s.table := by
    rw [← hu, table_setState, State.writeValve, (onlyMap_writeLatch _ _ _ _).table, table_modSpot]
  obtain ⟨d, g, e⟩ := spot_followGrant u i v (inPass_of_suspended (by rw [self]))
  refine ⟨d, g, ?_⟩
  rw [spot_announce, State.startSuspend, spot_modSpot_same, e, self, inner.uptime, uptime,
    recordField_of_table (inner.table.trans table)]
  rfl

/-- A context that has returned to a saved state: its timers and window as that state starts them (R100 to R102). -/
def Returned (x y : SpotContext) (v : Saved) : Prop :=
  y = { x with
    suspendTimer := none, saved := none, state := v.state, sub := v.sub, pressurise := y.pressurise,
    liquidConfirmed := y.liquidConfirmed, window := y.window, travel := y.travel, pass := y.pass, settle := y.settle } ∧
  (v.demand ≠ .none → y.settle = x.settle)

theorem returned_completeReturn (s : State) (i : SpotId) (v : Saved) :
    Returned (s.spot i) ((s.completeReturn i v).spot i) v := by
  unfold State.completeReturn Returned
  simp only
  rw [spot_announce]
  generalize hu : s.modSpot i (fun x =>
    { x with suspendTimer := none, saved := none, state := v.state, sub := v.sub }) = u
  have self : u.spot i = { s.spot i with suspendTimer := none, saved := none, state := v.state, sub := v.sub } := by
    rw [← hu, spot_modSpot_same]
  split
  · rw [State.startPressurise, spot_modSpot_same, self]
    exact ⟨rfl, fun _ => rfl⟩
  · rw [State.startTravel, spot_modSpot_same, spot_modSpot_same, spot_writeValve, self]
    exact ⟨rfl, fun _ => rfl⟩
  · rw [(aside_syncPass u i).spots i, self]
    exact ⟨rfl, fun _ => rfl⟩
  · rw [State.startSettle, spot_modSpot_same, self]
    exact ⟨rfl, fun asks => absurd rfl asks⟩

/-- The causes with NO_COMPRESSOR as given. -/
def Causes.withCompressor (c : Causes) (b : Bool) : Causes := { c with noCompressor := b }

/-- A context with NO_COMPRESSOR as given. -/
def SpotContext.marked (x : SpotContext) (b : Bool) : SpotContext := { x with causes := x.causes.withCompressor b }

theorem spot_setNoCompressor (s : State) (i : SpotId) (b : Bool) :
    (s.setNoCompressor i b).spot i = (s.spot i).marked b := spot_modSpot_same _ _ _

/-- What a return attempt with `v` saved makes of a context (R100). -/
inductive Attempted (x y : SpotContext) (v : Saved) : Prop
  | free (none : v.demand = .none) (back : Returned x y v)
  | back (c : CompId) (back : Returned ((x.handed v.demand (.compressor c) x.pass).marked false) y v)
  | waits (g : Grant) (without : ∀ c, g ≠ .compressor c) (same : y = (x.handed v.demand g x.pass).marked true)

theorem attempted_returnAttempt (s : State) (i : SpotId) (v : Saved) (saved : (s.spot i).saved = some v)
    (h : (s.spot i).state = .suspended) : Attempted (s.spot i) ((s.returnAttempt i).spot i) v := by
  unfold State.returnAttempt
  simp only [saved]
  split
  · next none => exact .free none (returned_completeReturn s i v)
  · obtain ⟨g, p, hp, e, _⟩ := spot_handDemand s i v.demand
    rw [hp (inPass_of_suspended h)] at e
    have grant : ((s.handDemand i v.demand).spot i).grant = g := by rw [e]; rfl
    split
    · next c hc =>
      have back := returned_completeReturn ((s.handDemand i v.demand).setNoCompressor i false) i v
      rw [spot_setNoCompressor, e] at back
      rw [grant] at hc
      subst hc
      exact .back c back
    · next hg =>
      rw [grant] at hg
      subst hg
      exact .waits .waiting (fun c => by simp) (by rw [spot_setNoCompressor, e])
    · next hg =>
      rw [grant] at hg
      subst hg
      exact .waits .none (fun c => by simp) (by rw [spot_setNoCompressor, e])

/-! ## Answers -/

/-- The causes beside NO_COMPRESSOR. -/
def Causes.others (c : Causes) : Bool := (c.withCompressor false).any

/-- What an answer makes of a context whose grant has been taken (R94). -/
inductive Told (a : Answer) (x y : SpotContext) : Prop
  | stands (same : y = x)
  | clears (runs : x.state ≠ .suspended ∨ x.saved = none ∨ x.demand = .none ∧ a = .detached) (same : y = x.marked false)
  | holds (held : x.state = .suspended) (kept : x.causes.others = true) (d : Demand) (g : Grant)
      (demand : d = .hold ∨ d = .none) (same : y = (x.handed d g x.pass).marked false)
  | attempts (held : x.state = .suspended) (free : x.causes.others = false) (v : Saved) (saved : x.saved = some v)
      (attempt : Attempted (x.marked false) y v)
  | waits (asks : x.demand.flows = true) (stays : savedOf x.state x.sub = none) (same : y = x.marked true)
  | suspends (asks : x.demand.flows = true) (v : Saved) (saves : savedOf x.state x.sub = some v) (d : Demand) (g : Grant)
      (timer : Nat) (same : y = (x.marked true).suspendedAs v d g timer)
  | drops (held : x.demand = .hold) (p : Option Nat) (pass : ¬ x.inPass → p = x.pass) (same : y = x.handed .none .none p)

theorem grantOf_none (a : Answer) : grantOf a .none = .none := by
  cases a <;> rfl

theorem any_marked_true (x : SpotContext) : (x.marked true).causes.any = true := by
  simp [SpotContext.marked, Causes.withCompressor, Causes.any]

theorem any_marked_false (x : SpotContext) : (x.marked false).causes.any = x.causes.others := rfl

theorem told_suspicion {a : Answer} (u : State) (i : SpotId) (asks : (u.spot i).demand.flows = true) :
    Told a (u.spot i) (((u.setNoCompressor i true).causeTest i).spot i) := by
  have marked := spot_setNoCompressor u i true
  generalize u.setNoCompressor i true = w at *
  unfold State.causeTest
  simp only [marked, any_marked_true, if_true]
  cases hs : savedOf (u.spot i).state (u.spot i).sub with
  | some v =>
    have hs' : savedOf ((u.spot i).marked true).state ((u.spot i).marked true).sub = some v := hs
    simp only [hs']
    obtain ⟨d, g, e⟩ := spot_enterSuspended w i v
    exact .suspends asks v hs d g _ (by rw [e, marked])
  | none =>
    have hs' : savedOf ((u.spot i).marked true).state ((u.spot i).marked true).sub = none := hs
    simp only [hs']
    exact .waits asks hs marked

theorem told_drop {a : Answer} (u : State) (i : SpotId) (held : (u.spot i).demand = .hold) :
    Told a (u.spot i) ((u.handDemand i .none).spot i) := by
  obtain ⟨g, p, hp, e, _, granted⟩ := spot_handDemand u i .none
  obtain ⟨a, rfl⟩ := granted (by rw [held]; decide)
  rw [grantOf_none] at e
  exact .drops held p hp e

theorem told_attached {a : Answer} (u : State) (i : SpotId) (state : (u.spot i).state = .suspended) :
    Told a (u.spot i) ((if ((u.setNoCompressor i false).spot i).causes.any then (u.setNoCompressor i false).handHold i
      else (u.setNoCompressor i false).returnAttempt i).spot i) := by
  have marked := spot_setNoCompressor u i false
  generalize u.setNoCompressor i false = w at *
  have held : (w.spot i).state = .suspended := by rw [marked]; exact state
  split
  · next kept =>
    rw [marked, any_marked_false] at kept
    obtain ⟨d, g, p, demand, hp, e⟩ := spot_handHold w i
    rw [hp (inPass_of_suspended held), marked] at e
    exact .holds state kept d g demand e
  · next free =>
    rw [marked, any_marked_false, Bool.not_eq_true] at free
    cases saved : (u.spot i).saved with
    | none =>
      have none' : (w.spot i).saved = none := by rw [marked]; exact saved
      rw [State.returnAttempt, none']
      exact .clears (.inr (.inl saved)) marked
    | some v =>
      have attempt := attempted_returnAttempt w i v (by rw [marked]; exact saved) held
      rw [marked] at attempt
      exact .attempts state free v saved attempt

/-- An answer first takes the grant, then does one of a few things (R94). -/
theorem told_takeReport (s : State) (i : SpotId) : ∃ p, (¬ (s.spot i).inPass → p = (s.spot i).pass) ∧
    Told (s.standingAnswer i) ((s.spot i).handed (s.spot i).demand (grantOf (s.standingAnswer i) (s.spot i).demand) p)
      ((s.takeReport i).spot i) := by
  obtain ⟨p, hp, granted⟩ := spot_takeGrant s i
  refine ⟨p, hp, ?_⟩
  rw [← granted]
  have demand : ((s.takeGrant i).spot i).demand = (s.spot i).demand := by rw [granted]; rfl
  have state : ((s.takeGrant i).spot i).state = (s.spot i).state := by rw [granted]; rfl
  unfold State.takeReport
  simp only
  generalize s.takeGrant i = u at *
  split
  · split
    · next c answered =>
      split
      · next held => exact told_attached u i (state.trans held)
      · next runs => exact .clears (.inl (by rw [state]; exact runs)) (spot_setNoCompressor u i false)
    · split
      · next d => exact told_suspicion u i (by rw [demand, d]; rfl)
      · next d => exact told_suspicion u i (by rw [demand, d]; rfl)
      · next d => exact told_drop u i (demand.trans d)
      · exact .stands rfl
    · next answered =>
      split
      · exact .stands rfl
      · exact .stands rfl
      · next d => exact told_drop u i (demand.trans d)
      · next d => exact .clears (.inr (.inr ⟨demand.trans d, answered⟩)) (spot_setNoCompressor u i false)
  · exact .stands rfl

/-- What holds of a context with another grant and pass timer, and is kept by what an answer does, the scan keeps. -/
theorem spot_endScan_of_told {P : SpotContext → Prop} {j : SpotId}
    (pass : ∀ x p, x.inPass → P x → P { x with pass := p })
    (grant : ∀ x a p, (¬ x.inPass → p = x.pass) → P x → P (x.handed x.demand (grantOf a x.demand) p))
    (told : ∀ a x y, a ≠ .detached → Told a x y → P x → P y) {s : State} (h : P (s.spot j)) : P (s.endScan.spot j) := by
  refine spot_endScan_keeps pass (fun u answered hu => ?_) h
  obtain ⟨p, hp, t⟩ := told_takeReport u j
  exact told _ _ _ answered t (grant _ _ p hp hu)

/-! ## What no answer touches -/

/-- The parts of a context that no answer of the Coordinator touches. -/
def SpotContext.figures (x : SpotContext) : SpotContext :=
  { x with
    state := .disabled, saved := none, causes := x.causes.withCompressor false, demand := .none, grant := .none,
    travel := none, pressurise := none, suspendTimer := none, pass := none, settle := none, liquidConfirmed := false,
    window := .empty, sub := none }

theorem figures_handed (x : SpotContext) (d : Demand) (g : Grant) (p : Option Nat) : (x.handed d g p).figures = x.figures :=
  rfl

theorem figures_marked (x : SpotContext) (b : Bool) : (x.marked b).figures = x.figures := rfl

theorem Returned.figures {x y : SpotContext} {v : Saved} (h : Returned x y v) : y.figures = x.figures := by
  rw [h.1]
  rfl

theorem Attempted.figures {x y : SpotContext} {v : Saved} (h : Attempted x y v) : y.figures = x.figures := by
  cases h with
  | free _ back => exact back.figures
  | back c back => exact back.figures
  | waits g _ same =>
    rw [same]
    rfl

theorem Told.figures {a : Answer} {x y : SpotContext} (h : Told a x y) : y.figures = x.figures := by
  cases h with
  | stands same => rw [same]
  | clears _ same => rw [same]; rfl
  | holds _ _ d g _ same => rw [same]; rfl
  | attempts _ _ v _ attempt => exact attempt.figures
  | waits _ _ same => rw [same]; rfl
  | suspends _ v _ d g timer same => rw [same]; rfl
  | drops _ p _ same => rw [same]; rfl

theorem figures_endScan (s : State) (j : SpotId) : (s.endScan.spot j).figures = (s.spot j).figures :=
  spot_endScan_of_told (P := fun x => x.figures = (s.spot j).figures) (fun _ _ _ h => h) (fun _ _ _ _ h => h)
    (fun _ _ _ _ t h => t.figures.trans h) rfl

/-! ## Spots the scan leaves where they stand -/

/-- A spot SUSPENDED by a cause beside NO_COMPRESSOR stays so: its demand, grant and NO_COMPRESSOR alone may change. -/
theorem heldBack_endScan {s : State} {j : SpotId} (held : (s.spot j).state = .suspended)
    (kept : (s.spot j).causes.others = true) : ∃ d g b, s.endScan.spot j =
      ((s.spot j).handed d g (s.spot j).pass).marked b := by
  refine spot_endScan_of_told (P := fun x => ∃ d g b, x = ((s.spot j).handed d g (s.spot j).pass).marked b)
    (fun x p hp ⟨d, g, b, e⟩ => ?_) (fun x a p hp ⟨d, g, b, e⟩ => ?_) (fun a x y _ t ⟨d, g, b, e⟩ => ?_)
    ⟨(s.spot j).demand, (s.spot j).grant, (s.spot j).causes.noCompressor, rfl⟩
  · exact absurd hp (inPass_of_suspended (by rw [e]; exact held))
  · rw [hp (inPass_of_suspended (by rw [e]; exact held)), e]
    exact ⟨d, grantOf a d, b, rfl⟩
  · cases t with
    | stands same => exact ⟨d, g, b, by rw [same, e]⟩
    | clears _ same => exact ⟨d, g, false, by rw [same, e]; rfl⟩
    | holds _ _ d' g' _ same => exact ⟨d', g', false, by rw [same, e]; rfl⟩
    | attempts _ free v _ _ =>
      rw [e] at free
      exact absurd (kept.symm.trans free) (by decide)
    | waits _ _ same => exact ⟨d, g, true, by rw [same, e]; rfl⟩
    | suspends _ v saves =>
      rw [e] at saves
      have none_saved : savedOf .suspended ((s.spot j).sub) = none := rfl
      have held' : savedOf (s.spot j).state (s.spot j).sub = some v := saves
      rw [held, none_saved] at held'
      cases held'
    | drops _ p pass same =>
      refine ⟨.none, .none, b, ?_⟩
      rw [same, pass (inPass_of_suspended (by rw [e]; exact held)), e]
      rfl

/-- A spot that is not SUSPENDED and asks for no flow keeps its state: its grant, its pass timer in a recovery pass, a HOLD that
finds no compressor, and a NO_COMPRESSOR that goes are all that may change. -/
theorem quiet_endScan {s : State} {j : SpotId} (runs : (s.spot j).state ≠ .suspended)
    (quiet : (s.spot j).demand.flows = false) : ∃ d g b p, (d = (s.spot j).demand ∨ d = .none) ∧
      (¬ (s.spot j).inPass → p = (s.spot j).pass) ∧ (b = (s.spot j).causes.noCompressor ∨ b = false) ∧
      ((s.spot j).demand = .none → (s.spot j).grant = .none → g = .none) ∧
      s.endScan.spot j = ((s.spot j).handed d g p).marked b := by
  generalize hx : s.spot j = x at *
  have asks : ∀ d, d = x.demand ∨ d = .none → d.flows = false := fun d hd => by
    rcases hd with rfl | rfl
    · exact quiet
    · rfl
  refine spot_endScan_of_told (P := fun y => ∃ d g b p, (d = x.demand ∨ d = .none) ∧ (¬ x.inPass → p = x.pass) ∧
    (b = x.causes.noCompressor ∨ b = false) ∧ (x.demand = .none → x.grant = .none → g = .none) ∧
      y = (x.handed d g p).marked b)
    (fun y p hp ⟨d, g, b, q, hd, hq, hb, hg, e⟩ => ?_) (fun y a p hp ⟨d, g, b, q, hd, hq, hb, hg, e⟩ => ?_)
    (fun a y z _ t ⟨d, g, b, q, hd, hq, hb, hg, e⟩ => ?_)
    ⟨x.demand, x.grant, x.causes.noCompressor, x.pass, .inl rfl, fun _ => rfl, .inl rfl, fun _ h => h, by rw [hx]; rfl⟩
  · rw [e] at hp
    exact ⟨d, g, b, p, hd, fun hn => absurd hp hn, hb, hg, by rw [e]; rfl⟩
  · refine ⟨d, grantOf a d, b, p, hd, fun hn => ?_, hb, fun hz _ => ?_, by rw [e]; rfl⟩
    · have hn' : ¬ y.inPass := by rw [e]; exact hn
      rw [hp hn', e]
      exact hq hn
    · have none : d = .none := hd.elim (fun h => h.trans hz) id
      rw [none]
      exact grantOf_none a
  · have runs' : y.state ≠ .suspended := by rw [e]; exact runs
    have asks' : y.demand.flows = false := by rw [e]; exact asks d hd
    cases t with
    | stands same => exact ⟨d, g, b, q, hd, hq, hb, hg, by rw [same, e]⟩
    | clears _ same => exact ⟨d, g, false, q, hd, hq, .inr rfl, hg, by rw [same, e]; rfl⟩
    | holds held => exact absurd held runs'
    | attempts held => exact absurd held runs'
    | waits flows => exact absurd (flows.symm.trans asks') (by decide)
    | suspends flows => exact absurd (flows.symm.trans asks') (by decide)
    | drops _ p pass same =>
      refine ⟨.none, .none, b, p, .inr rfl, fun hn => ?_, hb, fun _ _ => rfl, by rw [same, e]; rfl⟩
      have hn' : ¬ y.inPass := by rw [e]; exact hn
      rw [pass hn', e]
      exact hq hn

/-! ## UNAVAILABLE -/

/-- A compressor that has entered UNAVAILABLE (R139). -/
def Compressor.downed (x : Compressor) : Compressor :=
  { x with level := .unavailable, attached := [], confirm := none, popdown := none, deferred := false, held := false }

/-- R139 up to the answers: the compressor is down, and its spots join the list. -/
def State.downMark (s : State) (c : CompId) : State :=
  (s.comp c).attached.foldl State.joinList
    (((((s.modComp c (fun x => { x with confirm := none, popdown := none, deferred := false, held := false })).writeComp
      .compRun c .stop).modComp c (fun x => { x with level := .unavailable })).compressorNotice c).modComp c
        (fun x => { x with attached := [] }))

theorem enterUnavailable_eq (s : State) (c : CompId) :
    s.enterUnavailable c = (s.comp c).attached.foldl State.takeReport (s.downMark c) := rfl

theorem comps_foldl_joinList (l : List SpotId) (s : State) : (l.foldl State.joinList s).comps = s.comps := by
  induction l generalizing s with
  | nil => rfl
  | cons i l ih => exact (ih _).trans (comps_joinList s i)

theorem comp_downMark (s : State) (c d : CompId) :
    (s.downMark c).comp d = if d = c then (s.comp c).downed else s.comp d := by
  have write : ∀ (u : State) (k : CompId), (u.writeComp .compRun c .stop).comp k = u.comp k := fun u k =>
    (onlyMap_writeLatch u .compRun (compNumber c) .stop).comp k
  have note : ∀ (u : State) (k : CompId), (u.compressorNotice c).comp k = u.comp k := fun _ _ => rfl
  rw [State.downMark, comp_of_comps (comps_foldl_joinList _ _), comp_modComp, note, note, comp_modComp, comp_modComp, write,
    write, comp_modComp, comp_modComp, if_pos rfl, if_pos rfl]
  split
  · rfl
  · rfl

/-- Answers leave a compressor that is down without spots as it is. -/
theorem comp_foldl_takeReport {c : CompId} {s : State} (level : (s.comp c).level = .unavailable)
    (empty : (s.comp c).attached = []) (l : List SpotId) : (l.foldl State.takeReport s).comp c = s.comp c := by
  induction l generalizing s with
  | nil => rfl
  | cons i l ih =>
    obtain ⟨m, sub, same⟩ := (beside_takeReport s i).down c level
    rw [empty, List.sublist_nil] at sub
    rw [sub, ← empty] at same
    have same' : (s.takeReport i).comp c = s.comp c := same
    rw [List.foldl_cons, ih (by rw [same']; exact level) (by rw [same']; exact empty), same']

theorem comp_enterUnavailable (s : State) (c : CompId) : (s.enterUnavailable c).comp c = (s.comp c).downed := by
  have down := comp_downMark s c c
  rw [if_pos rfl] at down
  rw [enterUnavailable_eq, comp_foldl_takeReport (by rw [down]; rfl) (by rw [down]; rfl), down]

theorem down_of_unusable {s : State} {c : CompId} (h : unusable s c = true) :
    (s.checkUsable c).comp c = if (s.comp c).level = .unavailable then s.comp c else (s.comp c).downed := by
  unfold State.checkUsable
  split
  · next run =>
    rw [comp_enterUnavailable, if_neg run.1]
  · next down =>
    rw [if_pos (not_not.mp fun e => down ⟨e, h⟩)]

/-- The scan leaves a compressor that is down without spots as it is. -/
theorem comp_endScan_down {s : State} {c : CompId} (level : (s.comp c).level = .unavailable)
    (empty : (s.comp c).attached = []) : s.endScan.comp c = s.comp c := by
  obtain ⟨m, sub, same⟩ := down_endScan s c level
  rw [empty, List.sublist_nil] at sub
  rw [sub, ← empty] at same
  exact same

end Sys2Proof.Machine
end

section
/-! The latches and the queue through the grant scan and an entry to UNAVAILABLE; LOAD_COMPRESSOR's removal (R45) and the removal of
a map entry (R23). -/

namespace Sys2Proof.Machine

/-! ## The map through the scan -/

/-- The latches the grant scan may write: the LIQ_CMD of an active spot, and those of a compressor that is not UNAVAILABLE. -/
def ScanLatch (s : State) (r : Role) (w : Nat) : Prop :=
  (∃ i, s.isActive i = true ∧ r = .liqCmd ∧ w = spotNumber i) ∨ ∃ c, CompLatch c r w ∧ (s.comp c).level ≠ .unavailable

theorem entries_actAll {s before : State} (hr : Rising s.imap) : Entries (ScanLatch s) s (s.actAll before) := by
  suffices h : ∀ (l : List CompId) (u : State), Beside 0 s u → Entries (ScanLatch s) s u →
      Entries (ScanLatch s) s (l.foldl (fun t c => t.actOn c (before.resolved c)) u) by
    exact h allComps s (.refl 0 s) (.refl _ s)
  intro l
  induction l with
  | nil => exact fun u _ e => e
  | cons c l ih =>
    intro u b e
    refine ih _ (b.trans (beside_actOn u c _)) ?_
    by_cases down : (u.comp c).level = .unavailable
    · change Entries (ScanLatch s) s (u.actOn c (before.resolved c))
      rw [actOn_unavailable down]
      exact e
    · refine e.trans (((drives_actOn u c (before.resolved c)).entries (e.rising hr)).mono fun r w latch => .inr ⟨c, latch, ?_⟩)
      intro hd
      obtain ⟨_, _, same⟩ := b.down c hd
      exact down (by rw [same]; exact hd)

theorem takeReport_quiet {s : State} {i : SpotId} (h : s.isActive i = false) : s.takeReport i = s.takeGrant i := by
  rw [State.takeReport, if_neg (by rw [h]; decide)]

theorem entries_takeGrant {free : Role → Nat → Prop} (s : State) (i : SpotId) : Entries free s (s.takeGrant i) :=
  entries_still (imap_syncPass _ i) (rpu_syncPass _ i)

theorem entries_grant {s : State} {i : SpotId} {c : CompId} (hr : Rising s.imap) (taken : s.taker i = some c) :
    Entries (ScanLatch s) s (s.grantSpot i c) := by
  by_cases active : s.isActive i = true
  · refine ((beside_grant taken).entries hr).mono fun r w free => ?_
    rcases free with ⟨role, owner⟩ | ⟨d, latch, up⟩
    · exact .inl ⟨i, active, role, owner⟩
    · exact .inr ⟨d, latch, fun down => up (.inl (by rw [down]; rfl))⟩
  · rw [Bool.not_eq_true] at active
    have up : (s.comp c).level ≠ .unavailable := level_of_canTake (canTake_of_taker taken)
    generalize hv : (s.leaveList i).attach c i = v
    have vComp : ∀ d, (v.comp d).level = (s.comp d).level := fun d => by
      rw [← hv, State.attach, comp_modComp]
      split
      · next e => rw [e]; rfl
      · rfl
    have vSpots : v.spots = s.spots := by rw [← hv]; rfl
    have quiet : (v.actAll s).isActive i = false := by
      rw [(aside_actAll v s).isActive, State.isActive, spot_of_spots vSpots]
      exact active
    have acted : Entries (ScanLatch s) v (v.actAll s) := by
      refine (entries_actAll (by rw [← hv]; exact hr)).mono fun r w free => ?_
      rcases free with ⟨j, active, role, owner⟩ | ⟨d, latch, up⟩
      · refine .inl ⟨j, ?_, role, owner⟩
        rw [State.isActive, spot_of_spots vSpots] at active
        exact active
      · exact .inr ⟨d, latch, by rw [← vComp]; exact up⟩
    rw [State.grantSpot, hv, takeReport_quiet quiet]
    have same : Entries (ScanLatch s) s v := by
      rw [← hv]
      exact entries_still rfl rfl
    exact same.trans (acted.trans (entries_takeGrant _ i))

theorem ScanLatch.back {s t : State} (active : ∀ i, t.isActive i = true → s.isActive i = true)
    (down : ∀ c, (s.comp c).level = .unavailable → (t.comp c).level = .unavailable) {r : Role} {w : Nat}
    (h : ScanLatch t r w) : ScanLatch s r w := by
  rcases h with ⟨i, a, role, owner⟩ | ⟨c, latch, up⟩
  · exact .inl ⟨i, active i a, role, owner⟩
  · exact .inr ⟨c, latch, fun hd => up (down c hd)⟩

theorem level_of_down {s t : State} {c : CompId}
    (h : ∃ l, l.Sublist (s.comp c).attached ∧ t.comp c = { s.comp c with attached := l })
    (hd : (s.comp c).level = .unavailable) : (t.comp c).level = .unavailable := by
  obtain ⟨_, _, same⟩ := h
  rw [same]
  exact hd

theorem entries_endScan {s : State} (hr : Rising s.imap) : Entries (ScanLatch s) s s.endScan := by
  refine (endScan_keeps (P := fun t => Entries (ScanLatch s) s t ∧ (∀ i, t.isActive i = true → s.isActive i = true) ∧
    ∀ c, (s.comp c).level = .unavailable → (t.comp c).level = .unavailable)
    (fun t i c _ taken ⟨entries, active, down⟩ => ?_) ⟨.refl _ s, fun _ h => h, fun _ h => h⟩).1
  refine ⟨entries.trans ((entries_grant (entries.rising hr) taken).mono fun _ _ => .back active down),
    fun j a => active j ((inner_grantSpot t i c).active j a), fun d hd => ?_⟩
  exact level_of_down ((beside_grant taken).down d (down d hd)) (down d hd)

/-! ## The map through an entry to UNAVAILABLE -/

theorem entries_joinList {free : Role → Nat → Prop} (s : State) (i : SpotId) : Entries free s (s.joinList i) := by
  unfold State.joinList
  split
  · exact .refl _ s
  · exact entries_still rfl rfl

theorem entries_notice {free : Role → Nat → Prop} (s : State) (b : List Byte) : Entries free s (s.notice b) :=
  entries_of_imap rfl fun k => stillPort_offerNotice k b s.rpu

theorem entries_foldl {α : Type} {free : Role → Nat → Prop} (f : State → α → State)
    (h : ∀ s a, Rising s.imap → Entries free s (f s a)) (l : List α) {s : State} (hr : Rising s.imap) :
    Entries free s (l.foldl f s) := by
  induction l generalizing s with
  | nil => exact .refl _ s
  | cons a l ih => exact (h s a hr).trans (ih ((h s a hr).rising hr))

/-- Any latch may be written. -/
def AnyLatch (_ : Role) (_ : Nat) : Prop := True

theorem Entries.any {free : Role → Nat → Prop} {s t : State} (h : Entries free s t) : Entries AnyLatch s t :=
  h.mono fun _ _ _ => trivial

/-- The compressor is down and its spots join the list: its COMP_RUN alone is written (R139). -/
theorem entries_downMark {s : State} (hr : Rising s.imap) (c : CompId) :
    Entries (fun r w => r = .compRun ∧ w = compNumber c) s (s.downMark c) := by
  unfold State.downMark
  generalize hu : s.modComp c _ = u
  have first : Entries (fun r w => r = .compRun ∧ w = compNumber c) s u := by
    rw [← hu]
    exact entries_still rfl rfl
  have second := entries_writeLatch (first.rising hr) .compRun (compNumber c) .stop
  refine first.trans (second.trans ?_)
  change Entries _ (u.writeComp .compRun c .stop) _
  have risen : Rising (u.writeComp .compRun c .stop).imap := second.rising (first.rising hr)
  generalize u.writeComp .compRun c .stop = v at *
  generalize hw : v.modComp c (fun x => { x with level := .unavailable }) = w
  have third : Entries (fun r w => r = .compRun ∧ w = compNumber c) v w := by
    rw [← hw]
    exact entries_still rfl rfl
  have fourth : Entries (fun r w => r = .compRun ∧ w = compNumber c) w (w.compressorNotice c) := entries_notice w _
  generalize w.compressorNotice c = x at *
  have fifth : Entries (fun r w => r = .compRun ∧ w = compNumber c) x (x.modComp c fun x => { x with attached := [] }) :=
    entries_still rfl rfl
  have third := third.trans (fourth.trans fifth)
  exact third.trans (entries_foldl State.joinList (fun s i _ => entries_joinList s i) _ (third.rising risen))

theorem entries_takeReport {s : State} (i : SpotId) (hr : Rising s.imap) : Entries AnyLatch s (s.takeReport i) :=
  ((beside_takeReport s i).entries hr).any

theorem entries_enterUnavailable {s : State} (hr : Rising s.imap) (c : CompId) :
    Entries AnyLatch s (s.enterUnavailable c) := by
  have mark := (entries_downMark hr c).any
  exact mark.trans (entries_foldl State.takeReport (fun _ i h => entries_takeReport i h) _ (mark.rising hr))

theorem entries_checkUsable {s : State} (hr : Rising s.imap) (c : CompId) : Entries AnyLatch s (s.checkUsable c) := by
  unfold State.checkUsable
  split
  · exact entries_enterUnavailable hr c
  · exact .refl _ s

theorem entries_checkOwner {s : State} (hr : Rising s.imap) (r : Role) (o : Nat) : Entries AnyLatch s (s.checkOwner r o) := by
  unfold State.checkOwner
  split
  · split
    · exact entries_checkUsable hr _
    · exact .refl _ s
  · exact .refl _ s

theorem entries_storeConditions {free : Role → Nat → Prop} (s : State) (i : SpotId) (now : Conditions) :
    Entries free s (s.storeConditions i now) := by
  refine entries_of_imap (onlyConditions_storeConditions s i now).imap fun k => ?_
  rw [rpu_storeConditions]
  split
  · exact stillPort_offerNotice k _ _
  · exact .refl k _

theorem entries_reevaluateAll {free : Role → Nat → Prop} {s : State} (hr : Rising s.imap) (l : List SpotId) :
    Entries free s (s.reevaluateAll l) :=
  entries_foldl State.reevaluate (fun s i _ => entries_storeConditions s i _) l hr

theorem onlyConditions_reevaluateAll (s : State) (l : List SpotId) : OnlyConditions s (s.reevaluateAll l) := by
  unfold State.reevaluateAll
  induction l generalizing s with
  | nil => exact .refl s
  | cons i l ih => exact (onlyConditions_storeConditions s i _).trans (ih _)

/-! ## A compressor that is not in use -/

theorem compInUse_eq_false {s : State} {c : CompId} (h : s.compInUse c = false) :
    (s.comp c).attached = [] ∧ ((s.comp c).level = .stopped ∨ (s.comp c).level = .unavailable) := by
  simpa [State.compInUse, or_iff_not_imp_left] using h

/-- The ring port, the latches and the compressors alone may differ. -/
def OnlyComps (s t : State) : Prop := t = { s with rpu := t.rpu, imap := t.imap, comps := t.comps }

namespace OnlyComps

theorem refl (s : State) : OnlyComps s s := rfl

theorem trans {s t u : State} (h : OnlyComps s t) (h' : OnlyComps t u) : OnlyComps s u :=
  Eq.trans h' (by rw [h])

section
variable {s t : State} (h : OnlyComps s t)
include h
theorem manifest : t.manifest = s.manifest := by rw [h]
theorem sdu : t.sdu = s.sdu := by rw [h]
theorem spots : t.spots = s.spots := by rw [h]
theorem conditions : t.conditions = s.conditions := by rw [h]
end

end OnlyComps

theorem onlyComps_of_onlyMap {s t : State} (h : OnlyMap s t) : OnlyComps s t :=
  Eq.trans h.eq (by rw [h.eq])

theorem onlyComps_modComp (s : State) (c : CompId) (f : Compressor → Compressor) : OnlyComps s (s.modComp c f) := rfl

theorem onlyComps_compressorNotice (s : State) (c : CompId) : OnlyComps s (s.compressorNotice c) := rfl

theorem onlyComps_downMark {s : State} {c : CompId} (empty : (s.comp c).attached = []) : OnlyComps s (s.downMark c) := by
  unfold State.downMark
  rw [empty]
  simp only [List.foldl_nil]
  exact (onlyComps_modComp s c _).trans ((onlyComps_of_onlyMap (onlyMap_writeLatch _ .compRun (compNumber c) .stop)).trans
    ((onlyComps_modComp _ c _).trans ((onlyComps_compressorNotice _ c).trans (onlyComps_modComp _ c _))))

/-- A compressor without spots that is tested for use: the ring port, its latch and its context alone may change. -/
theorem onlyComps_checkUsable {s : State} {c : CompId} (empty : (s.comp c).attached = []) :
    OnlyComps s (s.checkUsable c) := by
  unfold State.checkUsable
  split
  · rw [enterUnavailable_eq, empty, List.foldl_nil]
    exact onlyComps_downMark empty
  · exact .refl s

theorem ownerInUse_comp {s : State} {r : Role} {o : Nat} {c : CompId} (h : s.ownerInUse r o = false)
    (kind : r.ownerKind = .compressor) (hc : compId o = some c) : s.compInUse c = false := by
  simpa [State.ownerInUse, kind, hc, concernedSpots] using h

theorem ownerInUse_spot {s : State} {r : Role} {o : Nat} (h : s.ownerInUse r o = false) :
    ∀ i ∈ concernedSpots s r o, s.spotInUse i = false := by
  simp only [State.ownerInUse, Bool.or_eq_false_iff, List.any_eq_false] at h
  exact fun i hi => Bool.eq_false_iff.mpr (h.1 i hi)

theorem onlyComps_checkOwner {s : State} {r : Role} {o : Nat} (h : s.ownerInUse r o = false) :
    OnlyComps s (s.checkOwner r o) := by
  unfold State.checkOwner
  split
  · next kind =>
    split
    · next c hc => exact onlyComps_checkUsable (compInUse_eq_false (ownerInUse_comp h kind hc)).1
    · exact .refl s
  · exact .refl s

/-- A compressor tested for use: down where it is unusable, and as it was where it was UNAVAILABLE. -/
theorem comp_checkUsable (s : State) (c : CompId) :
    (s.checkUsable c).comp c =
      if (s.comp c).level ≠ .unavailable ∧ unusable s c = true then (s.comp c).downed else s.comp c := by
  unfold State.checkUsable
  split
  · exact comp_enterUnavailable s c
  · rfl

/-! ## LOAD_COMPRESSOR -/

theorem compRecordOf_eq_some {p l t : Nat} {r : CompRecord} (h : compRecordOf p l t = some r) :
    r = ⟨default2 120 p, default1 6 l, default1 30 t⟩ := by
  unfold compRecordOf at h
  simp only at h
  split at h
  · cases h; rfl
  · cases h

/-- Settles O31: a write replaces the record; a removal takes the compressor down. -/
theorem compressorLoadsKeepTheContext : Obligations.CompressorLoadsKeepTheContext := by
  unfold Obligations.CompressorLoadsKeepTheContext
  refine ⟨fun s q n p1 p0 limit timeout c r h hc hr free => ?_, fun s q n c h hc present free => ?_⟩
  · have effect : loadCompRecord [n, p1, p0, limit, timeout] s = (s.storeCompRecord c r, ⟨.done, []⟩) := by
      simp only [loadCompRecord, hc, hr, free]
      rfl
    obtain ⟨t, ht, same, rep⟩ := h.effected loadCompRecord effect (.refl _)
    have comp := comp_of_comps same.comps
    have fields := compRecordOf_eq_some hr
    refine ⟨t, ht, rep, (comp c).trans (comp_modComp_same s c _), by rw [fields]; rfl, by rw [fields]; rfl,
      by rw [fields]; rfl, fun d hd => (comp d).trans (comp_modComp_other s _ hd), ?_⟩
    exact ⟨same.pins, same.powered, same.uptime, same.freeDraws, same.imap, same.conditions, same.table, same.groups,
      same.manifest, same.spots, rfl, same.waitList, same.sdu, same.standing, same.pending⟩
  · obtain ⟨empty, rest⟩ := compInUse_eq_false free
    have effect : loadCompRecord [n, 255] s = (s.removeCompRecord c, ⟨.done, []⟩) := by
      have some : (s.comp c).record.isNone = false := by simpa using present
      simp only [loadCompRecord, hc, some, free, if_true]
      rfl
    have port : PortStep s.rpu (s.removeCompRecord c).rpu :=
      ((inner_modComp s c _).trans ((inner_checkUsable _ _).trans (inner_endScan _))).port
    obtain ⟨t, ht, same, rep⟩ := h.effected loadCompRecord effect port
    have removed : ((s.removeCompRecord c).comp c).record = none ∧ ((s.removeCompRecord c).comp c).level = .unavailable ∧
        ((s.removeCompRecord c).comp c).history = (s.comp c).history ∧
        ((s.removeCompRecord c).comp c).residency = (s.comp c).residency := by
      unfold State.removeCompRecord
      generalize hu : s.modComp c (fun x => { x with record := none }) = u
      have self : u.comp c = { s.comp c with record := none } := by rw [← hu, comp_modComp_same]
      have useless : unusable u c = true := by simp [unusable, unavailability, self]
      have checked := comp_checkUsable u c
      rw [useless, self] at checked
      by_cases level : (s.comp c).level = .unavailable
      · rw [if_neg fun down => down.1 level] at checked
        rw [comp_endScan_down (by rw [checked]; exact level) (by rw [checked]; exact empty), checked]
        exact ⟨rfl, level, rfl, rfl⟩
      · rw [if_pos ⟨level, rfl⟩] at checked
        rw [comp_endScan_down (by rw [checked]; rfl) (by rw [checked]; rfl), checked]
        exact ⟨rfl, rfl, rfl, rfl⟩
    obtain ⟨record, level, history, residency⟩ := removed
    have comp := comp_of_comps same.comps c
    exact ⟨t, ht, rep, by rw [comp, record], by rw [comp, level], by rw [comp, history], by rw [comp, residency]⟩

/-! ## The removal of a map entry -/

/-- What a load alone changes stands at an index (R17, R19). -/
def SameShape (s t : State) (m : Nat) : Prop :=
  (entryAt t.imap m).map (fun e => entryShape (m, e)) = (entryAt s.imap m).map (fun e => entryShape (m, e))

theorem shapeAt_of_shapes {m n : List (Nat × MapEntry)} (h : shapes n = shapes m) (k : Nat) :
    (entryAt n k).map (fun e => entryShape (k, e)) = (entryAt m k).map (fun e => entryShape (k, e)) := by
  induction m generalizing n with
  | nil =>
    cases n with
    | nil => rfl
    | cons q n => simp [shapes] at h
  | cons p m ih =>
    cases n with
    | nil => simp [shapes] at h
    | cons q n =>
      simp only [shapes, List.map_cons, List.cons.injEq] at h
      obtain ⟨hshape, hrest⟩ := h
      obtain ⟨j, e⟩ := p
      obtain ⟨j', e'⟩ := q
      have hj : j' = j := by
        simp only [entryShape, Prod.mk.injEq] at hshape
        exact hshape.1
      subst hj
      unfold entryAt
      split
      · next hk =>
        subst hk
        exact congrArg some hshape
      · exact ih hrest

theorem unusable_of_missing {s : State} {c : CompId} {r : Role} (kind : r.ownerKind = .compressor)
    (missing : s.compEntry r c = none) : unusable s c = true := by
  have role : r = .compState ∨ r = .compRun ∨ r = .compDir := by
    cases r <;> simp [Role.ownerKind] at kind ⊢
  rcases role with rfl | rfl | rfl <;> simp [unusable, unavailability, missing, notDriven]

theorem hushed_of_none {s : State} {k : Nat} (h : entryAt s.imap k = none) : Hushed k s := fun e o image => by
  rw [image.1] at h
  cases h

theorem queuedCommand_clearIndex (s : State) {k : Nat} (h : k < 256) :
    queuedCommand k (s.clearIndex k).rpu = none ∧ (s.clearIndex k).rpu.sequenceOf k = 0 := by
  refine ⟨?_, sequenceOf_setSequence_same _ h 0⟩
  have dropped : (s.clearIndex k).rpu.actuates = (dropActuate k s.rpu).actuates := actuates_setSequence _ _ _
  rw [queuedCommand, dropped]
  exact (queuedCommand_dropActuate s.rpu k k).trans (if_pos rfl)

/-- A removal: the index is absent and silent, the other entries keep their shapes, a compressor left without the entry is
down (R23). -/
structure EntryRemoved (s t : State) (k : Nat) (e : MapEntry) : Prop where
  gone     : entryAt t.imap k = none
  queue    : queuedCommand k t.rpu = none ∧ t.rpu.sequenceOf k = 0
  others   : ∀ m, m ≠ k → SameShape s t m
  rising   : Rising t.imap
  manifest : t.manifest = s.manifest
  sdu      : t.sdu = s.sdu
  down     : ∀ c, e.role.ownerKind = .compressor → compId e.owner = some c →
    findRole (dropEntry s.imap k) e.role e.owner = none → (t.comp c).level = .unavailable

theorem entryRemoved_removeEntry {s : State} {k : Nat} {e : MapEntry} (hr : Rising s.imap) (index : k < 256)
    (free : s.ownerInUse e.role e.owner = false) : EntryRemoved s (s.removeEntry k e) k e := by
  unfold State.removeEntry State.withdraw
  generalize hu : ({ s.clearIndex k with imap := dropEntry (s.clearIndex k).imap k } : State) = u
  have uMap : u.imap = dropEntry s.imap k := by rw [← hu]; rfl
  have uRising : Rising u.imap := by rw [uMap]; exact rising_dropEntry hr k
  have uNone : entryAt u.imap k = none := by
    rw [uMap, entryAt_dropEntry, if_pos rfl]
  have uFree : u.ownerInUse e.role e.owner = false := by
    rw [← hu]
    exact free
  have uQueue : queuedCommand k u.rpu = none ∧ u.rpu.sequenceOf k = 0 := by
    rw [← hu]
    exact queuedCommand_clearIndex s index
  have uManifest : u.manifest = s.manifest := by rw [← hu]; rfl
  have uSdu : u.sdu = s.sdu := by rw [← hu]; rfl
  have vOnly := onlyComps_checkOwner uFree
  have vEntries := entries_checkOwner uRising e.role e.owner
  have vDown : ∀ c, e.role.ownerKind = .compressor → compId e.owner = some c →
      findRole (dropEntry s.imap k) e.role e.owner = none →
      ((u.checkOwner e.role e.owner).comp c).level = .unavailable ∧
        ((u.checkOwner e.role e.owner).comp c).attached = [] := by
    intro c kind hc missing
    obtain ⟨empty, _⟩ := compInUse_eq_false (ownerInUse_comp uFree kind hc)
    have useless : unusable u c = true :=
      unusable_of_missing kind (by rw [State.compEntry, ← compId_eq_some hc, uMap]; exact missing)
    have same := down_of_unusable useless
    rw [State.checkOwner, if_pos kind, hc]
    simp only
    rw [same]
    split
    · next level => exact ⟨level, empty⟩
    · exact ⟨rfl, rfl⟩
  generalize u.checkOwner e.role e.owner = v at *
  have wOnly := onlyConditions_reevaluateAll v (concernedSpots s e.role e.owner)
  have wEntries : Entries AnyLatch v (v.reevaluateAll (concernedSpots s e.role e.owner)) :=
    entries_reevaluateAll (vEntries.rising uRising) _
  change EntryRemoved s (v.reevaluateAll (concernedSpots s e.role e.owner)).endScan k e
  generalize v.reevaluateAll (concernedSpots s e.role e.owner) = w at *
  have entries : Entries AnyLatch u w.endScan :=
    vEntries.trans (wEntries.trans (entries_endScan (wEntries.rising (vEntries.rising uRising))).any)
  have still := entries.queue k (hushed_of_none uNone)
  refine ⟨?_, ?_, fun m hm => ?_, entries.rising uRising, ?_, ?_, fun c kind hc missing => ?_⟩
  · have there := isSome_entryAt_of_shapes entries.shapes k
    rw [uNone] at there
    exact Option.isNone_iff_eq_none.mp (by simpa using there)
  · obtain ⟨none, sequence⟩ := still.empty uQueue.1
    exact ⟨none, sequence.trans uQueue.2⟩
  · refine (shapeAt_of_shapes entries.shapes m).trans ?_
    rw [uMap, entryAt_dropEntry, if_neg hm]
  · rw [(endScan_aside w).2, wOnly.manifest, vOnly.manifest, uManifest]
  · rw [(inner_endScan w).sdu, wOnly.sdu, vOnly.sdu, uSdu]
  · obtain ⟨level, empty⟩ := vDown c kind hc missing
    have comp : w.comp c = v.comp c := comp_of_comps wOnly.comps c
    rw [comp_endScan_down (by rw [comp]; exact level) (by rw [comp]; exact empty), comp]
    exact level

theorem stillPort_answer {k : Nat} (s : State) (q : Request) (p : Reply) : StillPort k s.rpu (s.answer q p).rpu := by
  unfold State.answer
  generalize hu : ({ s with
    mgu := { s.mgu with held := none }
    rpu := kick { s.rpu with messages := fillReservation (replyMessage q p) s.rpu.messages } } : State) = u
  obtain ⟨m, a, b, taken⟩ := takeRequest_eq u
  rw [taken]
  have first : StillPort k s.rpu u.rpu := by
    rw [← hu]
    exact StillPort.trans (y := { s.rpu with messages := fillReservation (replyMessage q p) s.rpu.messages })
      ⟨fun f hf => ⟨hf, rfl⟩, fun hn => ⟨hn, rfl⟩⟩ (stillPort_kick k _)
  exact first.trans ⟨fun f hf => ⟨hf, rfl⟩, fun hn => ⟨hn, rfl⟩⟩

/-- Settles O28: the removal leaves nothing at the index. -/
theorem mapRemovalsClearTheIndex : Obligations.MapRemovalsClearTheIndex := by
  unfold Obligations.MapRemovalsClearTheIndex
  refine ⟨fun s q k e h hr he free => ?_, fun s q k h he => ?_⟩
  · have effect : loadMap [k] s = (s.removeEntry k.toNat e, ⟨.done, []⟩) := by
      simp only [loadMap, unloadEntry, he, free]
      rfl
    have removed := entryRemoved_removeEntry hr k.isLt free
    have port : PortStep s.rpu (s.removeEntry k.toNat e).rpu :=
      ((around_clearIndex s _).trans ((around_withdraw _ _ _).trans
        ((does_reevaluateAll (c := false) _ _).trans (does_endScan _)).around)).calm.toPortStep
    have still := stillPort_answer (k := k.toNat) (s.removeEntry k.toNat e) q ⟨.done, []⟩
    have same := answer_same (s.removeEntry k.toNat e) q ⟨.done, []⟩
    have rep := h.replied port ⟨.done, []⟩
    have ht : exec .loadMapEntry s = .next ((s.removeEntry k.toNat e).answer q ⟨.done, []⟩) := by
      refine (h.request loadMap).trans ?_
      rw [effect]
    generalize (s.removeEntry k.toNat e).answer q ⟨.done, []⟩ = t at *
    generalize s.removeEntry k.toNat e = u at *
    obtain ⟨none, sequence⟩ := still.empty removed.queue.1
    refine ⟨t, ht, rep, by rw [same.imap]; exact removed.gone, none, sequence.trans removed.queue.2, fun m hm => ?_,
      by rw [same.imap]; exact removed.rising, same.manifest.trans removed.manifest, same.sdu.trans removed.sdu,
      fun c kind hc missing => ?_⟩
    · rw [same.imap]
      exact removed.others m hm
    · rw [comp_of_comps same.comps]
      exact removed.down c kind hc missing
  · refine h.answered loadMap ?_
    simp only [loadMap, unloadEntry, he]
    rfl

end Sys2Proof.Machine
end

section
/-! The map through the end of a transfer and through trip entry, and the write of a map entry (R19 to R22, R157). -/

namespace Sys2Proof.Machine

/-! ## The map through a trip -/

theorem entries_modSpot {free : Role → Nat → Prop} (s : State) (i : SpotId) (f : SpotContext → SpotContext) :
    Entries free s (s.modSpot i f) := entries_still rfl rfl

theorem entries_writeValve {s : State} (hr : Rising s.imap) (r : Role) (i : SpotId) (cmd : Command) :
    Entries AnyLatch s (s.writeValve r i cmd) := (entries_writeLatch hr r (spotNumber i) cmd).any

theorem entries_closeValves {s : State} (hr : Rising s.imap) (i : SpotId) : Entries AnyLatch s (s.closeValves i) := by
  have liquid := entries_writeValve hr .liqCmd i .closed
  exact liquid.trans (entries_writeValve (liquid.rising hr) .vapCmd i .closed)

theorem entries_handDemand {s : State} (hr : Rising s.imap) (i : SpotId) (d : Demand) :
    Entries AnyLatch s (s.handDemand i d) := ((beside_handDemand s i d).entries hr).any

theorem entries_finishTransfer {s : State} (hr : Rising s.imap) (i : SpotId) (o : Ending) (st : SpotState) (b : Bool) :
    Entries AnyLatch s (s.finishTransfer i o st b) := by
  have timers : Entries AnyLatch s (s.stopTimers i) := entries_modSpot s i _
  have valves := timers.trans (entries_closeValves (timers.rising hr) i)
  have placed := valves.trans (entries_handDemand (valves.rising hr) i .none)
  unfold State.finishTransfer
  generalize ((s.stopTimers i).closeValves i).handDemand i .none = u at placed ⊢
  have emptied := placed.trans (entries_modSpot u i fun x =>
    { x with grant := .none, causes := .empty, saved := none, sub := none })
  simp only
  generalize u.modSpot i _ = v at emptied ⊢
  exact emptied.trans (entries_still rfl rfl)

theorem entries_endTransfer {s : State} (hr : Rising s.imap) (i : SpotId) (o : Ending) (st : SpotState) (b : Bool) :
    Entries AnyLatch s (s.endTransfer i o st b) := by
  have told := (entries_finishTransfer hr i o st b).trans (entries_announce _ i)
  unfold State.endTransfer
  split
  · exact told.trans (entries_notice _ _)
  · exact told

theorem entries_faultSpot {s : State} (hr : Rising s.imap) (i : SpotId) (o : Ending) :
    Entries AnyLatch s (s.faultSpot i o) := by
  unfold State.faultSpot
  split
  · exact entries_endTransfer hr i o .faulted true
  · exact .refl _ s

theorem entries_tripSpots {s : State} (hr : Rising s.imap) : Entries AnyLatch s s.tripSpots :=
  entries_foldl (fun s i => s.faultSpot i .tripped) (fun _ i h => entries_faultSpot h i .tripped) _ hr

theorem entries_stopCompressor {s : State} (hr : Rising s.imap) (c : CompId) : Entries AnyLatch s (s.stopCompressor c) :=
  ((drives_stopCompressor s c).entries hr).any

theorem entries_tripComp {s : State} (hr : Rising s.imap) (c : CompId) : Entries AnyLatch s (s.tripComp c) := by
  unfold State.tripComp
  generalize hu : s.modComp c _ = u
  have first : Entries AnyLatch s u := by
    rw [← hu]
    exact entries_still rfl rfl
  have told := first.trans (entries_foldl State.takeReport (fun _ i h => entries_takeReport i h) (s.comp c).attached
    (first.rising hr))
  simp only
  split
  · exact told.trans (entries_stopCompressor (told.rising hr) c)
  · exact told

theorem entries_tripComps {s : State} (hr : Rising s.imap) : Entries AnyLatch s s.tripComps := by
  have comps := entries_foldl State.tripComp (fun _ c h => entries_tripComp h c) allComps hr
  unfold State.tripComps
  generalize allComps.foldl State.tripComp s = u at comps ⊢
  have emptied : Entries AnyLatch s { u with waitList := [] } := comps.trans (entries_still rfl rfl)
  exact emptied.trans (entries_foldl State.takeReport (fun _ i h => entries_takeReport i h) _ (emptied.rising hr))

theorem entries_tripHandOffs {s : State} (hr : Rising s.imap) (added : TripCauses) :
    Entries AnyLatch (s.tripMark added) ((s.tripMark added).tripNotice added).tripSpots.tripComps := by
  have told : Entries AnyLatch (s.tripMark added) ((s.tripMark added).tripNotice added) := entries_notice _ _
  have spots := told.trans (entries_tripSpots (told.rising hr))
  exact spots.trans (entries_tripComps (spots.rising hr))

/-- A trip cause leaves the input entries as they were. -/
theorem input_addTripCause {s : State} (hr : Rising s.imap) (added : TripCauses) {k : Nat} {e : MapEntry} {d : Dynamic}
    (he : entryAt s.imap k = some e) (hd : e.body = .input d) : entryAt (s.addTripCause added).imap k = some e := by
  unfold State.addTripCause
  split
  · rw [tripEntry_eq]
    have handed := entries_tripHandOffs hr added
    rw [entryAt_forceAllSafe (handed.rising hr), handed.input he hd, Option.map_some, mapImage_of_input hd]
  · exact he

theorem sdu_addTripCause (s : State) (added : TripCauses) : (s.addTripCause added).sdu.device = .tripped ∧
    (s.addTripCause added).sdu.causes = s.sdu.causes.union added := by
  cases hd : s.sdu.device with
  | run =>
    rw [addTripCause_of_run hd]
    obtain ⟨u, hu, before, device, after⟩ := tripEntry_forced s added
    rw [hu, after.sdu, before.sdu]
    exact ⟨rfl, rfl⟩
  | tripped =>
    rw [addTripCause_of_tripped hd]
    exact ⟨hd, rfl⟩

/-! ## The owners of a write are at rest -/

theorem compInUse_of_comp {s t : State} {c : CompId} (h : t.comp c = s.comp c) : t.compInUse c = s.compInUse c := by
  rw [State.compInUse, State.compInUse, h]

theorem compInUse_checkUsable {s : State} {c d : CompId} (free : s.compInUse c = false) (rest : s.compInUse d = false) :
    (s.checkUsable d).compInUse c = false := by
  unfold State.checkUsable
  split
  · rw [enterUnavailable_eq, (compInUse_eq_false rest).1, List.foldl_nil, State.compInUse, comp_downMark]
    split
    · rfl
    · exact free
  · exact free

theorem concernedSpots_of_table {s t : State} (h : t.table = s.table) (r : Role) (w : Nat) :
    concernedSpots t r w = concernedSpots s r w := by
  unfold concernedSpots State.recordField State.record
  rw [h]

theorem OnlyComps.table {s t : State} (h : OnlyComps s t) : t.table = s.table := by rw [h]

/-- The owner of the old entry is tested for use; the owner of the new one stays at rest. -/
theorem ownerInUse_checkOwner {s : State} {r r' : Role} {w w' : Nat} (free : s.ownerInUse r w = false)
    (rest : s.ownerInUse r' w' = false) : (s.checkOwner r' w').ownerInUse r w = false := by
  have only := onlyComps_checkOwner rest
  have comps : r.ownerKind = .compressor → ∀ c, compId w = some c → (s.checkOwner r' w').compInUse c = false := by
    intro kind c hc
    have atRest := ownerInUse_comp free kind hc
    unfold State.checkOwner
    split
    · next kind' =>
      split
      · next d hd => exact compInUse_checkUsable atRest (ownerInUse_comp rest kind' hd)
      · exact atRest
    · exact atRest
  have spots : ∀ i, (s.checkOwner r' w').spotInUse i = s.spotInUse i := fun i => by
    rw [State.spotInUse, State.spotInUse, spot_of_spots only.spots]
  have concerned := ownerInUse_spot free
  rw [State.ownerInUse, concernedSpots_of_table only.table, Bool.or_eq_false_iff]
  refine ⟨List.any_eq_false.mpr fun i hi => by rw [spots, concerned i hi]; decide, ?_⟩
  by_cases kind : r.ownerKind = .compressor
  · cases hc : compId w with
    | none => simp
    | some c => simp [comps kind c hc]
  · simp [kind]

theorem active_of_notInUse {st : SpotState} (h : st.inUse = false) : st.active = false := by
  cases st <;> simp [SpotState.inUse, SpotState.active] at h ⊢

/-- What is told of a stale entry has no effect on owners at rest, but that a compressor without its report is tested and a
GAS entry trips (R22, R30). -/
theorem tellStale_atRest {s : State} {r : Role} {w : Nat} (gas : r ≠ .gas) (free : s.ownerInUse r w = false) :
    s.tellStale r w (concernedSpots s r w) = if r = .compState then s.checkOwner r w else s := by
  have rest := ownerInUse_spot free
  generalize concernedSpots s r w = l at rest
  have still : ∀ f : State → SpotId → State, (∀ i, s.spotInUse i = false → f s i = s) → l.foldl f s = s := by
    intro f h
    clear free
    induction l with
    | nil => rfl
    | cons i l ih =>
      rw [List.foldl_cons, h i (rest i List.mem_cons_self)]
      exact ih fun j hj => rest j (List.mem_cons_of_mem i hj)
  have idle : ∀ i, s.spotInUse i = false → s.isActive i = false ∧ (s.spot i).state ≠ .ready := fun i hi => by
    refine ⟨active_of_notInUse hi, fun ready => ?_⟩
    rw [State.spotInUse, ready] at hi
    cases hi
  have lost : ∀ o i, s.spotInUse i = false → s.connectionLost i o = s := fun o i hi => by
    obtain ⟨quiet, ready⟩ := idle i hi
    rw [State.connectionLost, if_neg (by rw [quiet]; decide), if_neg ready]
  have caused : ∀ f i, s.spotInUse i = false → s.changeCauses i f = s := fun f i hi => by
    rw [State.changeCauses, if_neg (by rw [(idle i hi).1]; decide)]
  unfold State.tellStale
  cases r with
  | gas => exact absurd rfl gas
  | compState => rfl
  | bond => exact still _ (lost .faultBond)
  | armLiq => exact still _ (lost .faultArm)
  | armVap => exact still _ (lost .faultArm)
  | tankHigh => exact still _ (caused _)
  | meter => exact still _ (caused _)
  | tempLiq => exact still _ (caused _)
  | pCar => exact still _ (caused _)
  | pTank => exact still _ (caused _)
  | liqPos => rfl
  | vapPos => rfl
  | tag => rfl
  | liqCmd => rfl
  | vapCmd => rfl
  | compRun => rfl
  | compDir => rfl

end Sys2Proof.Machine
end

section
/-! The write of a map entry (R19 to R22, R157). -/

namespace Sys2Proof.Machine

/-! ## The new entry -/

theorem findRole_putEntry {m : List (Nat × MapEntry)} (hr : Rising m) {k : Nat} {e : MapEntry}
    (single : ∀ p ∈ m, p.1 ≠ k → ¬ (p.2.role = e.role ∧ p.2.owner = e.owner)) :
    findRole (putEntry m k e) e.role e.owner = some (k, e) := by
  have new : (k, e) ∈ putEntry m k e := mem_of_entryAt (by rw [entryAt_putEntry, if_pos rfl])
  cases hf : findRole (putEntry m k e) e.role e.owner with
  | none =>
    have missing := List.find?_eq_none.mp hf (k, e) new
    simp at missing
  | some p =>
    rcases mem_putEntry hr (List.mem_of_find?_eq_some hf) with rfl | ⟨old, other⟩
    · rfl
    · exact absurd (findRole_role (k := p.1) (e := p.2) hf) (single p old other)

theorem limit_of_writeInRange {adr : Option Byte} {w : MapWrite} (h : writeInRange adr w = true) (tag : w.role ≠ .tag) :
    w.limit ≠ 0 := by
  unfold writeInRange at h
  simp only [Bool.and_eq_true] at h
  obtain ⟨⟨_, limit⟩, _⟩ := h
  simp only [limitOk, Bool.and_eq_true, Bool.or_eq_true, decide_eq_true_eq] at limit
  exact limit.2.resolve_right tag

/-- The output of a new entry in MONITOR (R157). -/
def newOutput (c : Command) : Output := ⟨c, .monitor, c, none⟩

theorem newBody_isOutput {w : MapWrite} (h : w.role.isOutput = true) (range : safeOk w.role w.safe = true) :
    ∃ c, commandOf w.safe = some c ∧ newBody w = .output (newOutput c) := by
  cases hc : commandOf w.safe with
  | none => simp [safeOk, h, hc] at range
  | some c => exact ⟨c, rfl, by simp [newBody, h, hc, newOutput]⟩

theorem newBody_isInput {w : MapWrite} (h : w.role.isOutput = false) :
    newBody w = .input ⟨none, false, none, none, none, decide (w.limit ≠ 0)⟩ := by
  simp [newBody, h]

/-- The state in which a new entry has just been put, as the write finds it (R22 steps 2 and 3). -/
structure EntryPut (s b : State) (k : Nat) (w : MapWrite) : Prop where
  entry    : entryAt b.imap k = some (newEntry w)
  found    : w.role ≠ .gas → findRole b.imap w.role w.owner = some (k, newEntry w)
  others   : ∀ m, m ≠ k → (entryAt b.imap m).map (fun e => entryShape (m, e)) =
    (entryAt s.imap m).map (fun e => entryShape (m, e))
  rising   : Rising b.imap
  atRest   : b.ownerInUse w.role w.owner = false
  manifest : b.manifest = s.manifest
  sdu      : b.sdu = s.sdu

theorem entryPut_of {s a : State} {k : Nat} {w : MapWrite} (rising : Rising a.imap) (duplicate : duplicates a.imap k w = false)
    (others : ∀ m, m ≠ k → (entryAt a.imap m).map (fun e => entryShape (m, e)) =
      (entryAt s.imap m).map (fun e => entryShape (m, e)))
    (atRest : a.ownerInUse w.role w.owner = false) (manifest : a.manifest = s.manifest) (sdu : a.sdu = s.sdu) :
    EntryPut s { a with imap := putEntry a.imap k (newEntry w) } k w where
  entry := by rw [entryAt_putEntry, if_pos rfl]
  found gas := findRole_putEntry rising fun _ hp hk ⟨role, owner⟩ => (duplicates_eq_false duplicate hp hk).2 ⟨gas, role, owner⟩
  others m hm := by
    rw [← others m hm, entryAt_putEntry, if_neg hm]
  rising := rising_putEntry rising k _
  atRest := atRest
  manifest := manifest
  sdu := sdu

theorem entryPut_writeEntry {s : State} (hr : Rising s.imap) {k : Nat} {w : MapWrite}
    (old : s.entryInUse (entryAt s.imap k) = false) (free : s.ownerInUse w.role w.owner = false)
    (duplicate : duplicates s.imap k w = false) :
    ∃ b, EntryPut s b k w ∧ s.writeEntry k w =
      ((b.takeEntry k w).reevaluateAll (bothSpots (s.oldSpots (entryAt s.imap k)) (concernedSpots s w.role w.owner))).endScan := by
  refine ⟨_, ?_, rfl⟩
  unfold State.withdrawOld
  have same : EntryPut s { s.clearIndex k with imap := putEntry (s.clearIndex k).imap k (newEntry w) } k w :=
    entryPut_of (a := s.clearIndex k) hr duplicate (fun _ _ => rfl) free rfl rfl
  split
  · next e he =>
    split
    · exact same
    · unfold State.withdraw
      generalize hx : ({ s.clearIndex k with imap := dropEntry (s.clearIndex k).imap k } : State) = x
      have xMap : x.imap = dropEntry s.imap k := by rw [← hx]; rfl
      have dropped : Rising x.imap := by rw [xMap]; exact rising_dropEntry hr k
      have rest : x.ownerInUse e.role e.owner = false := by
        rw [he] at old
        rw [← hx]
        exact old
      have xFree : x.ownerInUse w.role w.owner = false := by rw [← hx]; exact free
      have only := onlyComps_checkOwner rest
      have entries := entries_checkOwner dropped e.role e.owner
      refine entryPut_of (entries.rising dropped) ?_ (fun m hm => ?_) (ownerInUse_checkOwner xFree rest)
        (only.manifest.trans (by rw [← hx]; rfl)) (only.sdu.trans (by rw [← hx]; rfl))
      · rw [duplicates_of_shapes entries.shapes, xMap]
        exact duplicates_dropEntry duplicate
      · refine (shapeAt_of_shapes entries.shapes m).trans ?_
        rw [xMap, entryAt_dropEntry, if_neg hm]
  · exact same

/-! ## What is told of the new entry -/

/-- The rest of a write: the conditions of its spots, and the grant scan (R22 step 5). -/
theorem entries_writeRest {s : State} (hr : Rising s.imap) (l : List SpotId) :
    Entries AnyLatch s (s.reevaluateAll l).endScan := by
  have conditions : Entries AnyLatch s (s.reevaluateAll l) := entries_reevaluateAll hr l
  exact conditions.trans (entries_endScan (conditions.rising hr)).any

theorem parts_writeRest (s : State) (l : List SpotId) :
    (s.reevaluateAll l).endScan.manifest = s.manifest ∧ (s.reevaluateAll l).endScan.sdu = s.sdu := by
  have only := onlyConditions_reevaluateAll s l
  exact ⟨(endScan_aside _).2.trans only.manifest, (inner_endScan _).sdu.trans only.sdu⟩

/-- A new input entry stands as it was put, whatever its owner makes of it. -/
theorem input_takeEntry {s b : State} {k : Nat} {w : MapWrite} {d : Dynamic} (put : EntryPut s b k w)
    (input : newBody w = .input d) :
    entryAt (b.takeEntry k w).imap k = some (newEntry w) ∧ shapes (b.takeEntry k w).imap = shapes b.imap ∧
      (w.role ≠ .gas → (b.takeEntry k w).manifest = b.manifest ∧ (b.takeEntry k w).sdu = b.sdu) ∧
      (w.role = .gas → d.stale = true →
        (b.takeEntry k w).sdu.device = .tripped ∧ (b.takeEntry k w).sdu.causes.gas = true) := by
  have told := (takeEntry_input (s := b) (k := k) input).shapes put.rising
  unfold State.takeEntry at told ⊢
  simp only [input] at told ⊢
  split
  · next stale =>
    rw [if_pos stale] at told
    refine ⟨?_, told, ?_, ?_⟩
    · by_cases gas : w.role = .gas
      · rw [gas]
        exact input_addTripCause put.rising causeGas put.entry input
      · rw [tellStale_atRest gas put.atRest]
        split
        · exact (entries_checkOwner put.rising _ _).input put.entry input
        · exact put.entry
    · intro gas
      rw [tellStale_atRest gas put.atRest]
      split
      · have only := onlyComps_checkOwner put.atRest
        exact ⟨only.manifest, only.sdu⟩
      · exact ⟨rfl, rfl⟩
    · intro gas _
      rw [gas]
      obtain ⟨device, causes⟩ := sdu_addTripCause b causeGas
      exact ⟨device, by
        change (b.addTripCause causeGas).sdu.causes.gas = true
        rw [causes]
        simp [TripCauses.union, causeGas]⟩
  · next fresh =>
    exact ⟨put.entry, rfl, fun _ => ⟨rfl, rfl⟩, fun _ stale => absurd stale fresh⟩

/-- The latch of a new output entry after the write of a LIQ_CMD and the test of a compressor (R22, R139). -/
def NewLatch (r : Role) (c x : Command) : Prop :=
  (r = .liqCmd → x = .closed) ∧ (r = .vapCmd ∨ r = .compDir → x = c) ∧ (r = .compRun → x = c ∨ x = .stop)

theorem role_of_isOutput {r : Role} (h : r.isOutput = true) : r = .liqCmd ∨ r = .vapCmd ∨ r = .compRun ∨ r = .compDir := by
  cases r <;> simp [Role.isOutput, Role.kind] at h ⊢

theorem imap_foldl_joinList (l : List SpotId) (s : State) : (l.foldl State.joinList s).imap = s.imap := by
  induction l generalizing s with
  | nil => rfl
  | cons i l ih =>
    rw [List.foldl_cons, ih]
    unfold State.joinList
    split <;> rfl

/-- A compressor marked UNAVAILABLE holds STOP in its COMP_RUN latch (R139). -/
theorem latchOf_downMark {s : State} (hr : Rising s.imap) (c : CompId) :
    latchOf (s.downMark c) .compRun (compNumber c) = (latchOf s .compRun (compNumber c)).map fun _ => .stop := by
  have map : (s.downMark c).imap = ((s.modComp c fun x =>
      { x with confirm := none, popdown := none, deferred := false, held := false }).writeComp .compRun c .stop).imap :=
    imap_foldl_joinList _ _
  rw [latchOf, map]
  exact latchOf_writeLatch_same (s.modComp c _) hr .compRun (compNumber c) .stop

theorem latchOf_checkOwner {s : State} (hr : Rising s.imap) {r : Role} {w : Nat} {x : Command}
    (rest : s.ownerInUse r w = false) (latch : latchOf s r w = some x) :
    latchOf (s.checkOwner r w) r w = some x ∨ r = .compRun ∧ latchOf (s.checkOwner r w) r w = some .stop := by
  unfold State.checkOwner
  split
  · next kind =>
    split
    · next c hc =>
      unfold State.checkUsable
      split
      · rw [enterUnavailable_eq, (compInUse_eq_false (ownerInUse_comp rest kind hc)).1, List.foldl_nil]
        by_cases run : r = .compRun
        · subst run
          rw [compId_eq_some hc] at latch ⊢
          exact .inr ⟨rfl, by rw [latchOf_downMark hr, latch]; rfl⟩
        · left
          rw [(entries_downMark hr c).latchOf hr fun free => run free.1, latch]
      · exact .inl latch
    · exact .inl latch
  · exact .inl latch

theorem down_checkOwner {s : State} {r : Role} {w : Nat} {c : CompId} (kind : r.ownerKind = .compressor)
    (hc : compId w = some c) (useless : unusable s c = true) (empty : (s.comp c).attached = []) :
    ((s.checkOwner r w).comp c).level = .unavailable ∧ ((s.checkOwner r w).comp c).attached = [] := by
  rw [State.checkOwner, if_pos kind, hc]
  simp only
  rw [down_of_unusable useless]
  split
  · next level => exact ⟨level, empty⟩
  · exact ⟨rfl, rfl⟩

theorem unusable_of_monitor {s : State} {c : CompId} {r : Role} {k : Nat} {e : MapEntry} {o : Output}
    (role : r = .compRun ∨ r = .compDir) (found : s.compEntry r c = some (k, e)) (image : e.body = .output o)
    (monitor : o.direction = .monitor) : unusable s c = true := by
  have stopped : notDriven (s.compEntry r c) = true := by simp [notDriven, found, MapEntry.image, image, monitor]
  rcases role with rfl | rfl <;> simp [unusable, unavailability, stopped]

/-- A new output entry: it stands in MONITOR, its latch as the write and its compressor's test set it, and its compressor is
down. -/
structure OutputTaken (b t : State) (k : Nat) (w : MapWrite) (c : Command) : Prop where
  found    : ∃ o, findRole t.imap w.role w.owner = some (k, (newEntry w).withImage o) ∧ o.safe = c ∧ o.direction = .monitor ∧
    NewLatch w.role c o.latch
  shapes   : shapes t.imap = shapes b.imap
  manifest : t.manifest = b.manifest
  sdu      : t.sdu = b.sdu
  quiet    : ∀ i, w.owner = spotNumber i → w.role = .liqCmd → t.isActive i = false
  down     : ∀ d, w.role = .compRun ∨ w.role = .compDir → w.owner = compNumber d → (t.comp d).level = .unavailable

theorem latch_of_found {s : State} {r : Role} {w k : Nat} {e : MapEntry} {o : Output} {x : Command}
    (found : findRole s.imap r w = some (k, e.withImage o)) (latch : latchOf s r w = some x) : o.latch = x := by
  rw [latchOf_found found] at latch
  simpa [MapEntry.image, MapEntry.withImage] using latch

theorem outputTaken_takeEntry {s b : State} {k : Nat} {w : MapWrite} {c : Command} (put : EntryPut s b k w)
    (output : newBody w = .output (newOutput c)) (role : w.role.isOutput = true) :
    OutputTaken b (b.takeEntry k w) k w c := by
  have gas : w.role ≠ .gas := fun h => by rw [h] at role; cases role
  have image : Images b k (newEntry w) (newOutput c) := ⟨put.entry, output⟩
  unfold State.takeEntry
  simp only [output]
  have settled := (inner_settleOutput b k none).shapes put.rising
  have settledOnly := onlyMap_settleOutput b k none
  have settledImage := (settleOutput_image image none).1
  generalize b.settleOutput k none = u at *
  have uRising := rising_of_shapes settled put.rising
  have uFound : ∃ t, findRole u.imap w.role w.owner = some (k, (newEntry w).withImage { newOutput c with refresh := t }) := by
    rcases findRole_of_shapes settled w.role w.owner with ⟨missing, _⟩ | ⟨j, x, y, hx, hy, _⟩
    · rw [put.found gas] at missing
      cases missing
    · rw [put.found gas] at hx
      cases hx
      have entry := entryAt_of_findRole uRising hy
      rw [settledImage] at entry
      cases entry
      exact ⟨_, hy⟩
  obtain ⟨timer, uFound⟩ := uFound
  have uLatch : latchOf u w.role w.owner = some c := by
    rw [latchOf_found uFound]
    rfl
  have written : ∃ v x, v = (if w.role = .liqCmd then u.writeLatch .liqCmd w.owner .closed else u) ∧ OnlyMap u v ∧
      Entries AnyLatch u v ∧ latchOf v w.role w.owner = some x ∧ (w.role = .liqCmd → x = .closed) ∧
      (w.role ≠ .liqCmd → x = c) := by
    by_cases liquid : w.role = .liqCmd
    · refine ⟨_, .closed, rfl, ?_, ?_, ?_, fun _ => rfl, fun h => absurd liquid h⟩
      · rw [if_pos liquid]
        exact onlyMap_writeLatch u .liqCmd w.owner .closed
      · rw [if_pos liquid]
        exact (entries_writeLatch uRising .liqCmd w.owner .closed).any
      · rw [liquid] at uLatch ⊢
        rw [if_pos rfl, latchOf_writeLatch_same u uRising, uLatch]
        rfl
    · exact ⟨_, c, rfl, by rw [if_neg liquid]; exact .refl u, by rw [if_neg liquid]; exact .refl _ u,
        by rw [if_neg liquid]; exact uLatch, fun h => absurd h liquid, fun _ => rfl⟩
  obtain ⟨v, x, hv, vOnly, vEntries, vLatch, closed, kept⟩ := written
  rw [← hv]
  have only := settledOnly.trans vOnly
  have vRest : v.ownerInUse w.role w.owner = false := by
    have same : v.ownerInUse w.role w.owner = b.ownerInUse w.role w.owner := by rw [only.eq]; rfl
    exact same.trans put.atRest
  have vRising := vEntries.rising uRising
  have tOnly := onlyComps_checkOwner vRest
  have tLatch := latchOf_checkOwner vRising vRest vLatch
  have tEntries := vEntries.trans (entries_checkOwner vRising w.role w.owner)
  have tDown : ∀ d, w.role = .compRun ∨ w.role = .compDir → w.owner = compNumber d →
      ((v.checkOwner w.role w.owner).comp d).level = .unavailable := by
    intro d role owner
    have kind : w.role.ownerKind = .compressor := by rcases role with h | h <;> rw [h] <;> rfl
    have hd : compId w.owner = some d := by rw [owner, compId_compNumber]
    obtain ⟨e', found, _, outputs⟩ := vEntries.findRole uRising uFound
    obtain ⟨o', rfl, _, direction, _⟩ := outputs _ rfl
    have useless : unusable v d = true :=
      unusable_of_monitor role (by rw [State.compEntry, ← owner]; exact found) rfl direction
    exact (down_checkOwner kind hd useless (compInUse_eq_false (ownerInUse_comp vRest kind hd)).1).1
  obtain ⟨e', found, _, outputs⟩ := tEntries.findRole uRising uFound
  obtain ⟨o', rfl, safe, direction, _⟩ := outputs _ rfl
  refine ⟨⟨o', found, safe, direction, ?_⟩, tEntries.shapes.trans settled, tOnly.manifest.trans only.manifest,
    tOnly.sdu.trans only.sdu, fun i owner liquid => ?_, tDown⟩
  · rcases tLatch with same | ⟨run, stop⟩
    · have latch := latch_of_found found same
      exact ⟨fun h => latch.trans (closed h), fun h => latch.trans (kept (by rcases h with h | h <;> rw [h] <;> decide)),
        fun h => .inl (latch.trans (kept (by rw [h]; decide)))⟩
    · have latch := latch_of_found found stop
      rw [run]
      exact ⟨fun h => (by cases h), fun h => (by rcases h with h | h <;> cases h), fun _ => .inr latch⟩
  · have idle : v.spotInUse i = false := by
      refine ownerInUse_spot vRest i ?_
      rw [liquid, owner]
      simp [concernedSpots, Role.ownerKind, mem_allSpots]
    rw [State.spotInUse] at idle
    rw [State.isActive, spot_of_spots tOnly.spots]
    exact active_of_notInUse idle

/-! ## LOAD_MAP_ENTRY -/

theorem output_writeRest {b t : State} {k : Nat} {w : MapWrite} {c : Command} (hr : Rising b.imap)
    (taken : OutputTaken b t k w c) (l : List SpotId) :
    ∃ o, entryAt (t.reevaluateAll l).endScan.imap k = some ((newEntry w).withImage o) ∧ o.safe = c ∧
      o.direction = .monitor ∧ NewLatch w.role c o.latch := by
  obtain ⟨o, found, safe, direction, latch⟩ := taken.found
  have tRising := rising_of_shapes taken.shapes hr
  have only := onlyConditions_reevaluateAll t l
  have conditions : Entries (ScanLatch (t.reevaluateAll l)) t (t.reevaluateAll l) := entries_reevaluateAll tRising l
  have entries := conditions.trans (entries_endScan (conditions.rising tRising))
  obtain ⟨e', found', _, outputs⟩ := entries.findRole tRising found
  obtain ⟨o', rfl, safe', direction', latch', _⟩ := outputs o rfl
  refine ⟨o', entryAt_of_findRole (entries.rising tRising) found', safe'.trans safe, direction'.trans direction, ?_⟩
  rw [latch']
  · exact latch
  · rintro (⟨i, active, role, owner⟩ | ⟨d, ⟨role, owner⟩, up⟩)
    · have quiet := taken.quiet i owner role
      rw [State.isActive, only.spot, ← State.isActive, quiet] at active
      cases active
    · rw [comp_of_comps only.comps] at up
      exact up (taken.down d role owner)

/-- Settles O27: what a write puts at the index stands, told to an owner at rest and carried through the grant scan. -/
theorem mapWritesStoreTheEntry : Obligations.MapWritesStoreTheEntry := by
  unfold Obligations.MapWritesStoreTheEntry
  intro s q k node channel role owner l1 l0 safe r h hrole hr w range old free duplicate
  have effect : loadMap [k, node, channel, role, owner, l1, l0, safe] s = (s.writeEntry k.toNat w, ⟨.done, []⟩) := by
    simp only [loadMap, hrole, loadEntry, w] at range duplicate ⊢
    simp [range, old, free, duplicate, State.done]
  obtain ⟨t, ht, same, rep⟩ := h.effected loadMap effect (around_writeEntry s k.toNat w).calm.toPortStep
  obtain ⟨b, put, written⟩ := entryPut_writeEntry hr old free duplicate
  generalize bothSpots (s.oldSpots (entryAt s.imap k.toNat)) (concernedSpots s w.role w.owner) = l at written
  have map := same.imap
  have manifest := same.manifest
  have sdu := same.sdu
  rw [written] at map manifest sdu
  obtain ⟨restManifest, restSdu⟩ := parts_writeRest (b.takeEntry k.toNat w) l
  have suits := (writeInRange_suits range).2
  have finish : shapes (b.takeEntry k.toNat w).imap = shapes b.imap →
      (∀ m, m ≠ k.toNat → (entryAt t.imap m).map (fun e => entryShape (m, e)) =
        (entryAt s.imap m).map (fun e => entryShape (m, e))) ∧ Rising t.imap := by
    intro told
    have tRising := rising_of_shapes told put.rising
    have rest := entries_writeRest tRising l
    refine ⟨fun m hm => ?_, by rw [map]; exact rest.rising tRising⟩
    rw [map]
    exact (shapeAt_of_shapes (rest.shapes.trans told) m).trans (put.others m hm)
  cases out : r.isOutput with
  | false =>
    have input := newBody_isInput (w := w) out
    obtain ⟨entry, told, parts, gas⟩ := input_takeEntry put input
    have stored : entryAt t.imap k.toNat = some (newEntry w) := by
      rw [map]
      exact (entries_writeRest (rising_of_shapes told put.rising) l).input entry input
    obtain ⟨others, rising⟩ := finish told
    refine ⟨t, newBody w, ht, rep, stored, fun _ => input, fun h => (by cases h), others, rising, fun hg => ?_, fun hg => ?_⟩
    · obtain ⟨m, d⟩ := parts hg
      exact ⟨manifest.trans (restManifest.trans (m.trans put.manifest)), sdu.trans (restSdu.trans (d.trans put.sdu))⟩
    · have stale : decide (w.limit ≠ 0) = true := by
        exact decide_eq_true (limit_of_writeInRange range fun tag => absurd (hg.symm.trans tag) (by decide))
      rw [sdu, restSdu]
      exact gas hg stale
  | true =>
    obtain ⟨c, hc, output⟩ := newBody_isOutput (w := w) out suits
    have taken := outputTaken_takeEntry put output out
    obtain ⟨o, entry, safe', direction, latch⟩ := output_writeRest put.rising taken l
    rw [← map] at entry
    obtain ⟨others, rising⟩ := finish taken.shapes
    obtain ⟨liquid, same', run⟩ := latch
    refine ⟨t, .output o, ht, rep, entry, fun h => (by cases h), fun _ => ⟨o, c, rfl, hc, safe', direction, liquid, same', run⟩,
      others, rising, fun _ => ?_, fun hg => ?_⟩
    · exact ⟨manifest.trans (restManifest.trans (taken.manifest.trans put.manifest)),
        sdu.trans (restSdu.trans (taken.sdu.trans put.sdu))⟩
    · rw [hg] at out
      cases out

end Sys2Proof.Machine
end

section
/-! SET_CHANNEL_MODE (R160, R165 to R168). -/

namespace Sys2Proof.Machine

/-! ## The reply behind a sent frame -/

/-- An answer behind a sent frame changes the queues of messages and requests alone. -/
theorem rpu_answer_of_sending {s : State} {f : Frame} (h : s.rpu.sending = some f) (q : Request) (p : Reply) :
    ∃ m r, (s.answer q p).rpu = { s.rpu with messages := m, requests := r } := by
  unfold State.answer
  have behind : kick { s.rpu with messages := fillReservation (replyMessage q p) s.rpu.messages } = _ :=
    kick_of_sending (f := f) h
  rw [behind]
  obtain ⟨_, a, b, taken⟩ := takeRequest_eq { s with
    mgu := { s.mgu with held := none }
    rpu := { s.rpu with messages := fillReservation (replyMessage q p) s.rpu.messages } }
  rw [taken]
  exact ⟨b, a, rfl⟩

theorem channelBytes_of {s t : State} {m : List Message} {r : List Request} (same : SameParts s t)
    (rpu : t.rpu = { s.rpu with messages := m, requests := r }) (k : Nat) (e : MapEntry) :
    channelBytes t k e = channelBytes s k e := by
  have queued : queuedCommand k t.rpu = queuedCommand k s.rpu := by rw [rpu]; rfl
  have sequence : t.rpu.sequenceOf k = s.rpu.sequenceOf k := by rw [rpu]; rfl
  have observed : t.observed e.role e.owner = s.observed e.role e.owner := by
    unfold State.observed State.reading State.compEntry
    rw [same.imap]
  unfold channelBytes outputBytes
  simp only [queued, sequence, observed, State.left, same.uptime, same.sdu]

theorem imageReply_eq {s : State} {k : Nat} {e : MapEntry} (h : entryAt s.imap k = some e) :
    s.imageReply k = channelBytes s k e := by
  rw [State.imageReply, h]

theorem outputAt_eq {s : State} {k : Nat} {e : MapEntry} {o : Output} (h : Images s k e o) : s.outputAt k = some e := by
  simp [State.outputAt, h.1, h.2]

/-! ## DRIVE -/

theorem outgoing_drive (d : Device) (o : Output) (cmd : Command) (u : Nat) :
    refreshAfter u (outgoing d o) (outgoing d { o with latch := cmd, direction := .drive }) o.refresh =
      if d = .run ∧ (o.direction = .monitor ∨ o.latch ≠ cmd) then some (u + 2) else o.refresh := by
  unfold refreshAfter outgoing
  cases d with
  | tripped => simp
  | run =>
    cases o.direction with
    | monitor => simp
    | drive => by_cases h : cmd = o.latch <;> simp [h, eq_comm]

theorem outgoing_drive_changes (d : Device) (o : Output) (cmd : Command) :
    outgoing d { o with latch := cmd, direction := .drive } ≠ outgoing d o ↔
      d = .run ∧ (o.direction = .monitor ∨ o.latch ≠ cmd) := by
  unfold outgoing
  cases d with
  | tripped => simp
  | run => cases o.direction <;> simp [eq_comm]

theorem outgoing_drive_run (o : Output) (cmd : Command) :
    outgoing .run { o with latch := cmd, direction := .drive } = some cmd := rfl

/-! ## MONITOR -/

theorem entries_checkUsable_empty {s : State} (hr : Rising s.imap) {c : CompId} (empty : (s.comp c).attached = []) :
    Entries (fun r w => r = .compRun ∧ w = compNumber c) s (s.checkUsable c) := by
  unfold State.checkUsable
  split
  · rw [enterUnavailable_eq, empty, List.foldl_nil]
    exact entries_downMark hr c
  · exact .refl _ s

/-- The entry at an index is not the one its role and owner name. -/
def Unnamed (s : State) (k : Nat) (e : MapEntry) : Prop := (findRole s.imap e.role e.owner).map (·.1) ≠ some k

theorem unnamed_of_shapes {s t : State} (h : shapes t.imap = shapes s.imap) {k : Nat} {e : MapEntry} (n : Unnamed s k e) :
    Unnamed t k e := by
  unfold Unnamed at n ⊢
  rcases findRole_of_shapes h e.role e.owner with ⟨_, missing⟩ | ⟨j, x, y, hx, hy, _⟩
  · rw [missing]
    exact nofun
  · rw [hx] at n
    rw [hy]
    exact n

theorem found_of_named {s : State} (hr : Rising s.imap) {k : Nat} {e x : MapEntry} (n : ¬ Unnamed s k e)
    (entry : entryAt s.imap k = some x) : findRole s.imap e.role e.owner = some (k, x) := by
  obtain ⟨⟨j, a⟩, found, hj⟩ := Option.map_eq_some_iff.mp (not_not.mp n)
  subst hj
  have same := entryAt_of_findRole hr found
  rw [entry] at same
  cases same
  exact found

/-- A latch stands in the image at an index. -/
def HoldsLatch (s : State) (k : Nat) (e : MapEntry) (x : Command) : Prop :=
  ∃ o, entryAt s.imap k = some (e.withImage o) ∧ o.latch = x

theorem holdsLatch_of_imap {s t : State} {k : Nat} {e : MapEntry} {x : Command} (h : HoldsLatch s k e x)
    (map : t.imap = s.imap) : HoldsLatch t k e x := by
  rw [HoldsLatch, map]
  exact h

theorem holdsLatch_changeOutput {s : State} {j k : Nat} {e : MapEntry} {x : Command} {f : Output → Output}
    (h : HoldsLatch s k e x) (keeps : j = k → ∀ o, (f o).latch = o.latch) : HoldsLatch (s.changeOutput j f) k e x := by
  obtain ⟨o, entry, latch⟩ := h
  by_cases image : ∃ e' o', Images s j e' o'
  · obtain ⟨e', o', image⟩ := image
    obtain ⟨changed, others, _⟩ := changeOutput_image image f
    by_cases hj : j = k
    · subst hj
      have same := image.1
      rw [entry] at same
      cases same
      have body := image.2
      cases body
      exact ⟨_, changed, (keeps rfl o).trans latch⟩
    · exact ⟨o, (others k (Ne.symm hj)).trans entry, latch⟩
  · rw [changeOutput_none fun e' o' i => image ⟨e', o', i⟩]
    exact ⟨o, entry, latch⟩

theorem holdsLatch_writeLatch {s : State} (hr : Rising s.imap) {k : Nat} {e : MapEntry} {x : Command}
    (h : HoldsLatch s k e x) (n : Unnamed s k e) (r : Role) (w : Nat) (cmd : Command) :
    HoldsLatch (s.writeLatch r w cmd) k e x := by
  unfold State.writeLatch
  split
  · next j a found =>
    split
    · split
      · exact h
      · refine holdsLatch_changeOutput h fun hj => ?_
        subst hj
        obtain ⟨o, entry, _⟩ := h
        have named := entryAt_of_findRole hr found
        rw [entry] at named
        cases named
        obtain ⟨role, owner⟩ := findRole_role found
        refine absurd ?_ n
        rw [show e.role = r from role, show e.owner = w from owner, found]
        rfl
    · exact h
  · exact h

theorem Move.holdsLatch {m : Leave} {s t : State} (move : Move m s t) (hr : Rising s.imap) {k : Nat} {e : MapEntry}
    {x : Command} (h : HoldsLatch s k e x) (n : Unnamed s k e) : HoldsLatch t k e x := by
  cases move with
  | notice b => exact h
  | conditions i now => exact holdsLatch_of_imap h (onlyConditions_storeConditions s i now).imap
  | context i f => exact h
  | credit i f => exact h
  | opening i f => exact holdsLatch_writeLatch hr h n .liqCmd (spotNumber i) .opened
  | compressor c f => exact h
  | lists l cars => exact h
  | latch r owner cmd => exact holdsLatch_writeLatch hr h n r owner cmd
  | monitor j => exact holdsLatch_changeOutput h fun _ _ => rfl
  | offer j a o cmd image =>
    obtain ⟨o', entry, latch⟩ := h
    obtain ⟨offered, others, _⟩ := offerCommand_image image cmd
    by_cases hj : k = j
    · subst hj
      have same := image.1
      rw [entry] at same
      cases same
      have body := image.2
      cases body
      exact ⟨_, offered, latch⟩
    · exact ⟨o', (others k hj).trans entry, latch⟩
  | sample j a d d' entry input =>
    obtain ⟨o, image, latch⟩ := h
    by_cases hj : k = j
    · subst hj
      have same := entry hr
      rw [image] at same
      cases same
      cases input
    · exact ⟨o, (entryAt_setBody_other s hj _).trans image, latch⟩

/-- No write of a latch reaches an image that its role and owner do not name. -/
theorem Does.holdsLatch {o c : Bool} {s t : State} (h : Does o c s t) (hr : Rising s.imap) {k : Nat} {e : MapEntry}
    {x : Command} (latch : HoldsLatch s k e x) (n : Unnamed s k e) : HoldsLatch t k e x :=
  (h.keeps (P := fun u => Rising u.imap ∧ Unnamed u k e ∧ HoldsLatch u k e x) (fun _ _ move ⟨hr, n, latch⟩ =>
    ⟨rising_of_shapes (move.shapes hr) hr, unnamed_of_shapes (move.shapes hr) n, move.holdsLatch hr latch n⟩)
    ⟨hr, n, latch⟩).2.2

/-- The change of an image to MONITOR (R160, R167). -/
def State.toMonitor (s : State) (k : Nat) : State := s.changeOutput k fun o => { o with direction := .monitor }

/-- The image as its direction becomes MONITOR. -/
def Output.toMonitor (o : Output) (device : Device) (uptime : Nat) : Output :=
  { o with
    direction := .monitor
    refresh := refreshAfter uptime (outgoing device o) (outgoing device { o with direction := .monitor }) o.refresh }

theorem toMonitor_image {s : State} {k : Nat} {e : MapEntry} {o : Output} (image : Images s k e o) :
    entryAt (s.toMonitor k).imap k = some (e.withImage (o.toMonitor s.sdu.device s.uptime)) :=
  (changeOutput_image image _).1

/-- What a change to MONITOR means for the timer and the queue: in RUN a driven image falls silent, else nothing changes
(R160, R161). -/
theorem toMonitor_silences {s : State} {k : Nat} {e : MapEntry} {o : Output} (image : Images s k e o)
    (device : s.sdu.device = .run) (drive : o.direction = .drive) :
    (o.toMonitor s.sdu.device s.uptime).refresh = none ∧ queuedCommand k (s.toMonitor k).rpu = none := by
  have now : outgoing s.sdu.device { o with direction := .monitor } = none := by rw [device]; rfl
  have before : outgoing s.sdu.device o = some o.latch := by simp only [device, outgoing, drive]
  have port := (changeOutput_image image fun o => { o with direction := .monitor }).2.2
  rw [now, before, portAfter_none (Option.some_ne_none _).symm] at port
  refine ⟨?_, ?_⟩
  · rw [Output.toMonitor, now, before]
    rfl
  · rw [State.toMonitor, port, queuedCommand_dropActuate, if_pos rfl]

theorem toMonitor_keeps {s : State} {k : Nat} {e : MapEntry} {o : Output} (image : Images s k e o)
    (silent : s.sdu.device = .tripped ∨ o.direction = .monitor) :
    (o.toMonitor s.sdu.device s.uptime).refresh = o.refresh ∧ (s.toMonitor k).rpu = s.rpu := by
  have same : outgoing s.sdu.device { o with direction := .monitor } = outgoing s.sdu.device o := by
    rcases silent with device | monitor
    · rw [device]
      rfl
    · rw [← monitor]
  have port := (changeOutput_image image fun o => { o with direction := .monitor }).2.2
  rw [same, portAfter_same] at port
  exact ⟨by rw [Output.toMonitor, same, refreshAfter_same], port⟩

/-- The part after a change to MONITOR (R167): the image in MONITOR, its latch kept but by the STOP of a compressor that went
down, its compressor down. -/
structure Monitored (s t : State) (k : Nat) (e : MapEntry) (o o' : Output) : Prop where
  image     : entryAt t.imap k = some (e.withImage o')
  direction : o'.direction = .monitor
  safe      : o'.safe = o.safe
  timer     : o'.refresh = (o.toMonitor s.sdu.device s.uptime).refresh
  port      : StillPort k (s.toMonitor k).rpu t.rpu
  latch     : e.role ≠ .compRun → o'.latch = o.latch
  run       : ∀ c, e.role = .compRun → s.compEntry .compRun c = some (k, e) →
    o'.latch = if (s.comp c).level = .unavailable then o.latch else .stop
  down      : ∀ c, e.role = .compRun ∨ e.role = .compDir → s.compEntry e.role c = some (k, e) →
    (t.comp c).level = .unavailable
  manifest  : t.manifest = s.manifest
  sdu       : t.sdu = s.sdu

theorem channelInUse_comp {s : State} {e : MapEntry} {c : CompId} (h : s.channelInUse e = false)
    (kind : e.role.ownerKind = .compressor) (hc : compId e.owner = some c) : (s.comp c).attached = [] := by
  simpa [State.channelInUse, kind, hc] using h

theorem channelInUse_spot {s : State} {e : MapEntry} {i : SpotId} (h : s.channelInUse e = false) (role : e.role = .liqCmd)
    (owner : e.owner = spotNumber i) : s.isActive i = false := by
  simpa [State.channelInUse, role, Role.ownerKind, owner, spotId_spotNumber] using h

/-- An image in MONITOR whose owner forbids nothing is tested: the entries but a named COMP_RUN stand, and the compressor it
serves goes down. -/
theorem entries_checkOwner_free {s : State} (hr : Rising s.imap) {e : MapEntry} (free : s.channelInUse e = false) :
    Entries (fun r w => r = .compRun ∧ ∃ c, w = compNumber c ∧ compId e.owner = some c ∧ e.role.ownerKind = .compressor) s
      (s.checkOwner e.role e.owner) := by
  unfold State.checkOwner
  split
  · next kind =>
    split
    · next c hc =>
      exact (entries_checkUsable_empty hr (channelInUse_comp free kind hc)).mono fun r w ⟨role, owner⟩ =>
        ⟨role, c, owner, hc, kind⟩
    · exact .refl _ s
  · exact .refl _ s

theorem onlyComps_checkOwner_free {s : State} {e : MapEntry} (free : s.channelInUse e = false) :
    OnlyComps s (s.checkOwner e.role e.owner) := by
  unfold State.checkOwner
  split
  · next kind =>
    split
    · next c hc => exact onlyComps_checkUsable (channelInUse_comp free kind hc)
    · exact .refl s
  · exact .refl s

theorem monitored_of {s : State} (hr : Rising s.imap) {k : Nat} {e : MapEntry} {o : Output} (image : Images s k e o)
    (free : s.channelInUse e = false) :
    ∃ o', Monitored s ((s.toMonitor k).checkOwner e.role e.owner).endScan k e o o' := by
  have changed := toMonitor_image image
  have shapes := (inner_changeOutput s k (fun o => { o with direction := .monitor }) fun _ => rfl).shapes hr
  have only : OnlyMap s (s.toMonitor k) := onlyMap_changeOutput s k _
  change Machine.shapes (s.toMonitor k).imap = _ at shapes
  generalize hu : s.toMonitor k = u at changed shapes only
  have uRising := rising_of_shapes shapes hr
  have uFree : u.channelInUse e = false := by
    have same : u.channelInUse e = s.channelInUse e := by rw [only.eq]; rfl
    exact same.trans free
  have tested := entries_checkOwner_free uRising uFree
  have vOnly := onlyComps_checkOwner_free uFree
  generalize hv : u.checkOwner e.role e.owner = v at tested vOnly
  have vRising := tested.rising uRising
  have scanned := entries_endScan vRising
  have named : ∀ c, e.role = .compRun ∨ e.role = .compDir → e.owner = compNumber c → ¬ Unnamed u k e →
      (v.comp c).level = .unavailable ∧ (v.comp c).attached = [] := by
    intro c role owner n
    have kind : e.role.ownerKind = .compressor := by rcases role with h | h <;> rw [h] <;> rfl
    have hc : compId e.owner = some c := by rw [owner, compId_compNumber]
    have found := found_of_named uRising n changed
    have useless := unusable_of_monitor role (by rw [State.compEntry, ← owner]; exact found) rfl
      (show (o.toMonitor s.sdu.device s.uptime).direction = .monitor from rfl)
    rw [← hv]
    exact down_checkOwner kind hc useless (channelInUse_comp uFree kind hc)
  have shapesV := tested.shapes
  have kept : ∀ x, HoldsLatch v k e x → HoldsLatch v.endScan k e x := by
    rintro x ⟨a, entry, latch⟩
    by_cases n : Unnamed v k e
    · exact (does_endScan (c := true) v).holdsLatch vRising ⟨a, entry, latch⟩ n
    · obtain ⟨e', entry', _, outputs⟩ := scanned.entry k _ entry
      obtain ⟨b, rfl, _, _, same, _⟩ := outputs a rfl
      refine ⟨b, entry', (same ?_).trans latch⟩
      rintro (⟨i, active, role, owner⟩ | ⟨c, ⟨role, owner⟩, up⟩)
      · have quiet := channelInUse_spot uFree role owner
        rw [State.isActive, spot_of_spots vOnly.spots, ← State.isActive] at active
        rw [quiet] at active
        cases active
      · exact up (named c role owner fun h => n (unnamed_of_shapes tested.shapes h)).1
  obtain ⟨e', entry', _, outputs⟩ := tested.entry k _ changed
  obtain ⟨b, rfl, _, _, same, _⟩ := outputs _ rfl
  obtain ⟨o', image', latch⟩ := kept b.latch ⟨b, entry', rfl⟩
  have whole := tested.any.trans scanned.any
  obtain ⟨e'', entry'', _, outputs⟩ := whole.entry k _ changed
  rw [image'] at entry''
  cases entry''
  obtain ⟨o'', agrees, safe, direction, _, timer⟩ := outputs _ rfl
  cases agrees
  have hushed : Hushed k u := by
    rintro a y ⟨entry, body⟩
    rw [changed] at entry
    cases entry
    cases body
    rfl
  have found : ∀ c, s.compEntry e.role c = some (k, e) → e.owner = compNumber c ∧ ¬ Unnamed u k e := by
    intro c hc
    have owner := (findRole_role hc).2
    refine ⟨owner, fun n => unnamed_of_shapes shapes.symm n ?_⟩
    rw [owner, show findRole s.imap e.role (compNumber c) = some (k, e) from hc]
    rfl
  refine ⟨o', image', direction, safe, timer rfl, hu ▸ whole.queue k hushed, fun role => ?_, fun c role hc => ?_,
    fun c role hc => ?_, ?_, ?_⟩
  · exact latch.trans (same fun free => role free.1)
  · obtain ⟨owner, n⟩ := found c (role.symm ▸ hc)
    have tested : v = u.checkUsable c := by
      rw [← hv, State.checkOwner, if_pos (by rw [role]; rfl), owner, compId_compNumber]
    rw [latch, ← only.comp c]
    split
    · next level =>
      rw [tested, State.checkUsable, if_neg (fun h => h.1 level)] at entry'
      rw [changed, Option.some.injEq] at entry'
      have body := congrArg MapEntry.body entry'
      cases body
      rfl
    · next level =>
      have down : v = u.downMark c := by
        rw [tested, State.checkUsable]
        split
        · rw [enterUnavailable_eq, channelInUse_comp uFree (by rw [role]; rfl) (by rw [owner, compId_compNumber])]
          rfl
        · next usable =>
          have same : v = u := by rw [tested, State.checkUsable, if_neg usable]
          exact absurd (same ▸ (named c (.inl role) owner n).1) level
      have vFound := found_of_named vRising (fun h => n (unnamed_of_shapes shapesV.symm h)) entry'
      have uFound := found_of_named uRising n changed
      rw [role, owner] at uFound vFound
      refine latch_of_found vFound ?_
      rw [down, latchOf_downMark uRising, latchOf_found uFound]
      rfl
  · obtain ⟨owner, n⟩ := found c hc
    obtain ⟨level, empty⟩ := named c role owner n
    rw [comp_endScan_down level empty]
    exact level
  · rw [(endScan_aside v).2, vOnly.manifest, only.manifest]
  · rw [(inner_endScan v).sdu, vOnly.sdu, only.sdu]

/-! ## SET_CHANNEL_MODE -/

/-- A request answered with an effect: the answer of the state the effect leaves (R183). -/
theorem Holds.answers {s u : State} {q : Request} {code : Byte} {args : List Byte} {p : Reply}
    (h : Holds s q code args) (f : List Byte → State → State × Reply) (hf : f args s = (u, p)) :
    s.request code f = .next (u.answer q p) := by
  refine (h.request f).trans ?_
  rw [hf]

/-- Settles O49: one change of the image, and in MONITOR the test of the compressor it serves. -/
theorem channelModesChangeTheImage : Obligations.ChannelModesChangeTheImage := by
  unfold Obligations.ChannelModesChangeTheImage
  refine ⟨fun s q k initial e o cmd h hr he ho hcmd free => ?_, fun s q k e o h hr he ho free => ?_⟩
  · have image : Images s k.toNat e o := ⟨he, ho⟩
    obtain ⟨changed, others, port⟩ := changeOutput_image image fun o => { o with latch := cmd, direction := .drive }
    have only := onlyMap_changeOutput s k.toNat fun o => { o with latch := cmd, direction := .drive }
    have effect : setMode [k, 2, initial] s = (s.changeOutput k.toNat (fun o => { o with latch := cmd, direction := .drive }),
        ⟨.done, (s.changeOutput k.toNat (fun o => { o with latch := cmd, direction := .drive })).imageReply k.toNat⟩) := by
      simp only [setMode, if_true, outputAt_eq image, hcmd, driveChannel, free]
      rfl
    generalize s.changeOutput k.toNat _ = u at changed others port only effect
    have step : PortStep s.rpu u.rpu := by
      rw [port]
      exact (portAfter_calm _ _ _ _ _).toPortStep
    have ht := h.answers setMode effect
    have rep := h.replied step ⟨.done, u.imageReply k.toNat⟩
    have same := answer_same u q ⟨.done, u.imageReply k.toNat⟩
    have behind := fun f (hf : s.rpu.sending = some f) =>
      rpu_answer_of_sending (step.sending f hf) q ⟨.done, u.imageReply k.toNat⟩
    rw [outgoing_drive] at changed
    rw [imageReply_eq changed] at *
    generalize u.answer q _ = t at ht rep same behind
    refine ⟨t, _, ht, rep, by rw [same.imap]; exact changed, fun a f ha hf => ?_, fun f x hf hx => ?_, fun m hm => ?_, ?_⟩
    · obtain ⟨_, _, rpu⟩ := behind f hf
      have queue : queuedCommand k.toNat t.rpu = queuedCommand k.toNat u.rpu := by rw [rpu]; rfl
      rw [queue, port, queuedCommand_portAfter ha hf]
      simp only [true_and, outgoing_drive_changes]
      split
      · next run => rw [run.1]; rfl
      · rfl
    · obtain ⟨_, _, rpu⟩ := behind f hf
      rw [same.imap, changed] at hx
      cases hx
      dsimp only
      exact (channelBytes_of same rpu _ _).symm
    · rw [same.imap]
      exact others m hm
    · exact ⟨same.pins.trans only.pins, same.powered.trans only.powered, same.uptime.trans only.uptime,
        same.freeDraws.trans only.freeDraws, rfl, same.conditions.trans only.conditions, same.table.trans only.table,
        same.groups.trans only.groups, same.manifest.trans only.manifest, same.spots.trans only.spots,
        same.comps.trans only.comps, same.waitList.trans only.waitList, same.sdu.trans only.sdu,
        same.standing.trans (by rw [only.mgu]), same.pending.trans only.pending⟩
  · have image : Images s k.toNat e o := ⟨he, ho⟩
    obtain ⟨o', m⟩ := monitored_of hr image free
    have effect : setMode [k, 1] s = (((s.toMonitor k.toNat).checkOwner e.role e.owner).endScan,
        ⟨.done, ((s.toMonitor k.toNat).checkOwner e.role e.owner).endScan.imageReply k.toNat⟩) := by
      simp only [setMode, if_true, outputAt_eq image, monitorChannel, free]
      rfl
    have step : PortStep s.rpu ((s.toMonitor k.toNat).checkOwner e.role e.owner).endScan.rpu := by
      refine ((?_ : PortStep s.rpu (s.toMonitor k.toNat).rpu).trans 
        (does_checkOwner (c := true) _ _ _).around.calm.toPortStep).trans (inner_endScan _).port
      rw [State.toMonitor, (changeOutput_image image _).2.2]
      exact (portAfter_calm _ _ _ _ _).toPortStep
    generalize ((s.toMonitor k.toNat).checkOwner e.role e.owner).endScan = u at m effect step
    have ht := h.answers setMode effect
    have rep := h.replied step ⟨.done, u.imageReply k.toNat⟩
    have same := answer_same u q ⟨.done, u.imageReply k.toNat⟩
    have still := stillPort_answer (k := k.toNat) u q ⟨.done, u.imageReply k.toNat⟩
    have behind := fun f (hf : s.rpu.sending = some f) =>
      rpu_answer_of_sending (step.sending f hf) q ⟨.done, u.imageReply k.toNat⟩
    rw [imageReply_eq m.image] at *
    generalize u.answer q _ = t at ht rep same behind still
    have queue := m.port.trans still
    refine ⟨t, _, o', ht, rep, by rw [same.imap]; exact m.image, m.direction, m.safe, m.latch, m.run, fun run drive => ?_,
      fun silent => ?_, fun f hf => ?_, fun c role hc => ?_, same.manifest.trans m.manifest, same.sdu.trans m.sdu⟩
    · obtain ⟨timer, queued⟩ := toMonitor_silences image run drive
      exact ⟨m.timer.trans timer, (queue.empty queued).1⟩
    · obtain ⟨timer, port⟩ := toMonitor_keeps image silent
      rw [port] at queue
      exact ⟨m.timer.trans timer, fun f hf => (queue.behind f hf).2⟩
    · obtain ⟨_, _, rpu⟩ := behind f hf
      dsimp only
      exact (channelBytes_of same rpu _ _).symm
    · rw [comp_of_comps same.comps]
      exact m.down c role hc

end Sys2Proof.Machine
end

section
/-! Transfer endings (R54, R75): what the end of a transfer writes into context and record, and that the grant scan leaves it so. -/

namespace Sys2Proof.Machine

/-! ## The bound record -/

/-- The bound position names the bound record, and the change of the bound record is written there (R51). -/
theorem recordAt_boundPosition {m : List CarRecord} {i : SpotId} {p : Nat} (h : boundPosition m i = some p) :
    ∃ r, recordAt m p = some r ∧ r.status = .bound i ∧ ∀ f, recordAt (changeBound m i f) p = some (f r) := by
  induction m generalizing p with
  | nil => cases h
  | cons c m ih =>
    unfold boundPosition at h
    split at h
    · next bound =>
      cases h
      exact ⟨c, rfl, bound, fun f => by simp [changeBound, bound, recordAt]⟩
    · next other =>
      obtain ⟨n, hn, rfl⟩ := Option.map_eq_some_iff.mp h
      obtain ⟨r, hr, bound, changed⟩ := ih hn
      cases n with
      | zero => cases hr
      | succ n => exact ⟨r, hr, bound, fun f => by simpa [changeBound, other, recordAt] using changed f⟩

theorem changeBound_of_unbound {m : List CarRecord} {i : SpotId} (h : boundPosition m i = none) (f : CarRecord → CarRecord) :
    changeBound m i f = m := by
  induction m with
  | nil => rfl
  | cons c m ih =>
    unfold boundPosition at h
    split at h
    · cases h
    · next other => rw [changeBound, if_neg other, ih (Option.map_eq_none_iff.mp h)]

/-! ## Pressures and latches -/

theorem Entries.lastOf {free : Role → Nat → Prop} {s t : State} (h : Entries free s t) (hr : Rising s.imap) (r : Role)
    (w : Nat) : Machine.lastOf (Machine.findRole t.imap r w) = Machine.lastOf (Machine.findRole s.imap r w) := by
  cases hf : Machine.findRole s.imap r w with
  | none => rw [h.findRole_none hf]
  | some p =>
    obtain ⟨k, e⟩ := p
    obtain ⟨e', hf', inputs, outputs⟩ := h.findRole hr hf
    rw [hf']
    cases hb : e.body with
    | input d => rw [inputs d hb]
    | output o =>
      obtain ⟨o', rfl, _⟩ := outputs o hb
      simp [Machine.lastOf, MapEntry.lastValue, MapEntry.withImage, hb]

theorem Entries.carPressure {free : Role → Nat → Prop} {s t : State} (h : Entries free s t) (hr : Rising s.imap) (i : SpotId) :
    t.carPressure i = s.carPressure i := by
  unfold State.carPressure State.spotEntry
  rw [h.lastOf hr]

/-! ## The context of an ended transfer -/

theorem pulling_none (s : State) : s.pulling .none = false := rfl

/-- A stopped pass timer stays stopped where the demand becomes NONE (R127). -/
theorem pass_handDemand_none {s : State} {i : SpotId} (stopped : (s.spot i).pass = none) :
    ((s.handDemand i .none).spot i).pass = none := by
  unfold State.handDemand
  split
  · exact stopped
  · simp only
    generalize hu : s.modSpot i (fun x => { x with demand := .none }) = u
    have self : u.spot i = { s.spot i with demand := .none } := by rw [← hu, spot_modSpot_same]
    have aside := (aside_place u i).trans (aside_actAll (u.place i) s)
    generalize (u.place i).actAll s = v at aside ⊢
    have demand : (v.spot i).demand = .none := by rw [aside.demand, self]
    unfold State.takeGrant
    generalize hw : v.modSpot i (fun x => { x with grant := grantOf (v.standingAnswer i) x.demand }) = w
    have self' : w.spot i = { v.spot i with grant := grantOf (v.standingAnswer i) (v.spot i).demand } := by
      rw [← hw, spot_modSpot_same]
    have grant : (w.spot i).grant = .none := by
      rw [self']
      exact (congrArg (grantOf _) demand).trans (grantOf_none _)
    unfold State.syncPass
    simp only [grant, pulling_none]
    split
    · rw [if_neg (by decide), spot_modSpot_same]
    · next out =>
      have outside : ¬ (u.spot i).inPass := fun h => out (by rw [self']; rw [SpotContext.inPass] at h; rw [aside.spots i]; exact h)
      rw [self']
      exact (aside.pass i outside).trans (by rw [self]; exact stopped)

/-- The context of a transfer that has ended: all of it but the figures and marks is at rest (R75). -/
def SpotContext.atEnd (x : SpotContext) (st : SpotState) (held : Option Nat) : SpotContext :=
  { x with
    state := st, demand := .none, grant := .none, causes := .empty, saved := none, sub := none, travel := none,
    pressurise := none, suspendTimer := none, pass := none, settle := none, lastHeld := held }

theorem spot_modManifest (s : State) (m : List CarRecord) (i : SpotId) : ({ s with manifest := m } : State).spot i = s.spot i :=
  rfl

/-- The stages of an end up to the end record: the valves are closed and the demand handed back (R75). -/
def State.standDown (s : State) (i : SpotId) : State :=
  (((s.stopTimers i).closeValves i).handDemand i .none).modSpot i fun x =>
    { x with grant := .none, causes := .empty, saved := none, sub := none }

theorem finishTransfer_eq (s : State) (i : SpotId) (o : Ending) (st : SpotState) (b : Bool) :
    s.finishTransfer i o st b = ((s.standDown i).writeEndRecord i o b).setState i st := rfl

theorem spot_closeValves (s : State) (i j : SpotId) : (s.closeValves i).spot j = s.spot j := by
  rw [State.closeValves, spot_writeValve, spot_writeValve]

theorem manifest_closeValves (s : State) (i : SpotId) : (s.closeValves i).manifest = s.manifest :=
  (onlyMap_writeLatch _ _ _ _).manifest.trans (onlyMap_writeLatch _ _ _ _).manifest

theorem manifest_standDown (s : State) (i : SpotId) : (s.standDown i).manifest = s.manifest := by
  rw [State.standDown, manifest_modSpot, (handed_handDemand _ i .none).manifest, manifest_closeValves]
  rfl

theorem spot_standDown (s : State) (i : SpotId) : (s.standDown i).spot i =
    { (s.spot i).atEnd (s.spot i).state (s.spot i).lastHeld with state := (s.spot i).state } := by
  rw [State.standDown, spot_modSpot_same]
  generalize hu : (s.stopTimers i).closeValves i = u
  have self : u.spot i = { s.spot i with
      travel := none, pressurise := none, suspendTimer := none, pass := none, settle := none } := by
    rw [← hu, spot_closeValves, State.stopTimers, spot_modSpot_same]
  have stopped := pass_handDemand_none (s := u) (i := i) (by rw [self])
  have handed := (handed_handDemand u i .none).self
  rw [stopped] at handed
  rw [handed, self]
  rfl

theorem spot_finishTransfer (s : State) (i : SpotId) (o : Ending) (st : SpotState) (b : Bool) :
    (s.finishTransfer i o st b).spot i = (s.spot i).atEnd st (boundPosition s.manifest i) := by
  rw [finishTransfer_eq, State.setState, spot_modSpot_same, State.writeEndRecord, spot_modSpot_same, spot_modManifest, spot_standDown, manifest_standDown]
  rfl

theorem entries_standDown {s : State} (hr : Rising s.imap) (i : SpotId) : Entries AnyLatch s (s.standDown i) := by
  have timers : Entries AnyLatch s (s.stopTimers i) := entries_modSpot s i _
  have valves := timers.trans (entries_closeValves (timers.rising hr) i)
  have placed := valves.trans (entries_handDemand (valves.rising hr) i .none)
  exact placed.trans (entries_modSpot _ i _)

theorem manifest_finishTransfer (s : State) (i : SpotId) (o : Ending) (st : SpotState) :
    (s.finishTransfer i o st true).manifest = changeBound s.manifest i fun r => { r with
      status := .done
      endRecord := some (endRecordOf (s.standDown i) i r o (s.spot i).acc (s.spot i).passCount (s.spot i).excessSeen
        (s.spot i).heel) } := by
  rw [finishTransfer_eq, State.setState, manifest_modSpot, State.writeEndRecord]
  simp only
  rw [manifest_modSpot]
  change changeBound (s.standDown i).manifest i _ = _
  rw [manifest_standDown, spot_standDown]
  rfl

/-- The end of a transfer (R54, R75). -/
theorem ended_finishTransfer {s : State} (hr : Rising s.imap) (i : SpotId) (o : Ending) (st : SpotState) :
    Ended s (s.finishTransfer i o st true) i o st := by
  have spot := spot_finishTransfer s i o st true
  have manifest := manifest_finishTransfer s i o st
  have pressure := (entries_standDown hr i).carPressure hr i
  generalize s.finishTransfer i o st true = t at *
  refine ⟨by rw [spot]; rfl, by rw [spot]; rfl, by rw [spot]; rfl, by rw [spot]; rfl, by rw [spot]; rfl, by rw [spot]; rfl,
    by rw [spot]; exact ⟨rfl, rfl, rfl, rfl, rfl⟩, by rw [spot]; exact ⟨rfl, rfl⟩, by rw [spot]; rfl, fun p hp => ?_⟩
  obtain ⟨r, hr, _, changed⟩ := recordAt_boundPosition hp
  refine ⟨r, _, hr, by rw [manifest, changed], rfl, rfl, rfl, rfl, rfl, rfl, rfl, rfl, rfl, ?_, rfl, rfl, rfl, rfl⟩
  exact pressure

/-- An ended transfer stands where its context and the manifest do. -/
theorem Ended.congr {s t u : State} {i : SpotId} {o : Ending} {st : SpotState} (h : Ended s t i o st)
    (spot : u.spot i = t.spot i) (manifest : u.manifest = t.manifest) : Ended s u i o st := by
  obtain ⟨state, demand, grant, causes, saved, sub, timers, figures, link, record⟩ := h
  exact ⟨by rw [spot, state], by rw [spot, demand], by rw [spot, grant], by rw [spot, causes], by rw [spot, saved],
    by rw [spot, sub], by rw [spot]; exact timers, by rw [spot]; exact figures, by rw [spot, link],
    fun p hp => by rw [manifest]; exact record p hp⟩

theorem onlyPort_endNotices (s : State) (i : SpotId) (o : Ending) (st : SpotState) (b : Bool) :
    OnlyPort (s.finishTransfer i o st b) (s.endTransfer i o st b) := by
  unfold State.endTransfer
  split
  · exact (onlyPort_announce _ i).trans (onlyPort_notice _ _)
  · exact onlyPort_announce _ i

theorem ended_endTransfer {s : State} (hr : Rising s.imap) (i : SpotId) (o : Ending) (st : SpotState) :
    Ended s (s.endTransfer i o st true) i o st :=
  have told := (onlyPort_endNotices s i o st true).onlyMap
  (ended_finishTransfer hr i o st).congr (told.spot i) told.manifest

/-- The grant scan leaves an ended transfer as it is. -/
theorem Ended.endScan {s t : State} {i : SpotId} {o : Ending} {st : SpotState} (h : Ended s t i o st)
    (rest : st ≠ .suspended) : Ended s t.endScan i o st := by
  refine h.congr ?_ (endScan_aside t).2
  have outside : ¬ (t.spot i).inPass := fun inside => by
    have sub := inside.2
    rw [h.sub] at sub
    cases sub
  obtain ⟨d, g, b, p, hd, hp, hb, hg, e⟩ := quiet_endScan (s := t) (j := i) (by rw [h.state]; exact rest)
    (by rw [h.demand]; rfl)
  have demand : d = .none := hd.elim (fun e => e.trans h.demand) id
  have clear : b = false := hb.elim (fun e => by rw [e, h.causes]; rfl) id
  rw [e, demand, hg h.demand h.grant, hp outside, clear, SpotContext.marked, SpotContext.handed, ← h.demand, ← h.grant]
  have causes : (t.spot i).causes.withCompressor false = (t.spot i).causes := by rw [h.causes]; rfl
  simp only [causes]

/-! ## Travel and pressurise expiries (R67, R70) -/

theorem faultSpot_active {s : State} {i : SpotId} (h : s.isActive i = true) (o : Ending) :
    s.faultSpot i o = s.endTransfer i o .faulted true := if_pos h

theorem not_due {d : Option Nat} {u : Nat} (h : d = none ∨ ∃ x, d = some x ∧ u < x) : due d u = false := by
  rcases h with rfl | ⟨x, rfl, later⟩
  · rfl
  · exact decide_eq_false (by omega)

theorem atSpot_eq {s : State} {n : Nat} {i : SpotId} (h : spotId n = some i) (f : State → SpotId → State) :
    s.atSpot n f = f s i := by
  rw [State.atSpot, h]

theorem exec_travelTimerExpiry {s : State} {n : Nat} {i : SpotId} (on : s.powered = true) (h : spotId n = some i) :
    exec (.travelTimerExpiry n) s = .next (s.travelExpired i) :=
  (whenPowered_on s (fun s => s.atSpot n State.travelExpired) on).trans (by rw [atSpot_eq h])

theorem exec_pressuriseTimerExpiry {s : State} {n : Nat} {i : SpotId} (on : s.powered = true) (h : spotId n = some i) :
    exec (.pressuriseTimerExpiry n) s = .next (s.pressuriseExpired i) :=
  (whenPowered_on s (fun s => s.atSpot n State.pressuriseExpired) on).trans (by rw [atSpot_eq h])

/-- Settles O42: a due timer faults the active spot, and the scan leaves the ended transfer. -/
theorem spotExpiriesFault : Obligations.SpotExpiriesFault := by
  unfold Obligations.SpotExpiriesFault
  refine ⟨fun s n i x on hi hr active timer passed => ⟨_, exec_travelTimerExpiry on hi, ?_⟩,
    fun s n i u on hi hr active timer passed => ⟨_, exec_pressuriseTimerExpiry on hi, ?_⟩,
    fun s n i on hi => ⟨fun h => ?_, fun h => ?_⟩⟩
  · have now : due ((s.spot i).travel.map (·.deadline)) s.uptime = true := by
      rw [timer]
      exact decide_eq_true passed
    rw [State.travelExpired, if_pos now, faultSpot_active active]
    exact (ended_endTransfer hr i .faultValveTravel .faulted).endScan nofun
  · have now : due (s.spot i).pressurise s.uptime = true := by
      rw [timer]
      exact decide_eq_true passed
    rw [State.pressuriseExpired, if_pos now, faultSpot_active active]
    exact (ended_endTransfer hr i .faultPressurise .faulted).endScan nofun
  · have later : due ((s.spot i).travel.map (·.deadline)) s.uptime = false := by
      rcases h with none | ⟨x, some, later⟩
      · rw [none]
        rfl
      · rw [some]
        exact not_due (.inr ⟨_, rfl, later⟩)
    rw [exec_travelTimerExpiry on hi, State.travelExpired, later]
    rfl
  · rw [exec_pressuriseTimerExpiry on hi, State.pressuriseExpired, not_due h]
    rfl

end Sys2Proof.Machine
end

section
/-! The main sequence (R66 to R74): the differential test, the awaited positions, and the end of the liquid. -/

namespace Sys2Proof.Machine

/-! ## Compressor latches alone -/

/-- The latches of the compressors. -/
def DriveLatch (r : Role) (_ : Nat) : Prop := r = .compRun ∨ r = .compDir

theorem entries_actAll_drive {s : State} (hr : Rising s.imap) (before : State) : Entries DriveLatch s (s.actAll before) :=
  entries_foldl _ (fun u c hu => ((drives_actOn u c (before.resolved c)).entries hu).mono fun _ _ latch => latch.1) _ hr

theorem place_still (s : State) (i : SpotId) : (s.place i).imap = s.imap ∧ (s.place i).rpu = s.rpu := by
  have join : ∀ u : State, (u.joinList i).imap = u.imap ∧ (u.joinList i).rpu = u.rpu := fun u => by
    unfold State.joinList
    split <;> exact ⟨rfl, rfl⟩
  have apply : ∀ u : State, (u.applySpot i).imap = u.imap ∧ (u.applySpot i).rpu = u.rpu := fun u => by
    unfold State.applySpot
    split
    · exact ⟨rfl, rfl⟩
    · exact join u
  unfold State.place
  simp only
  split
  · split
    · exact ⟨rfl, rfl⟩
    · exact ⟨rfl, rfl⟩
    · split
      · exact apply _
      · exact ⟨rfl, rfl⟩
    · split
      · exact apply _
      · exact ⟨rfl, rfl⟩
  · split
    · split
      · exact ⟨rfl, rfl⟩
      · exact ⟨rfl, rfl⟩
    · split
      · exact apply s
      · exact ⟨rfl, rfl⟩

/-- Handing a demand writes no valve latch (R158). -/
theorem entries_handDemand_drive {s : State} (hr : Rising s.imap) (i : SpotId) (d : Demand) :
    Entries DriveLatch s (s.handDemand i d) := by
  unfold State.handDemand
  split
  · exact .refl _ s
  · simp only
    obtain ⟨map, port⟩ := place_still (s.modSpot i (fun x => { x with demand := d })) i
    have placed : Entries DriveLatch s ((s.modSpot i (fun x => { x with demand := d })).place i) := entries_still map port
    exact placed.trans ((entries_actAll_drive (placed.rising hr) s).trans (entries_takeGrant _ i))

theorem entries_handHold_drive {s : State} (hr : Rising s.imap) (i : SpotId) : Entries DriveLatch s (s.handHold i) := by
  have held := entries_handDemand_drive hr i .hold
  have dropped := held.trans (entries_handDemand_drive (held.rising hr) i .none)
  unfold State.handHold
  simp only
  split
  · exact held
  · exact dropped
  · exact dropped

theorem entries_holdOrNone_drive {s : State} (hr : Rising s.imap) (i : SpotId) :
    Entries DriveLatch s (s.holdOrNone i) := by
  unfold State.holdOrNone
  split
  · exact entries_handHold_drive hr i
  · exact entries_handDemand_drive hr i .none
  · exact entries_handDemand_drive hr i .none

/-- A valve latch stands where the compressor latches alone are written. -/
theorem Entries.valve {s t : State} (h : Entries DriveLatch s t) (hr : Rising s.imap) {r : Role}
    (valve : r = .liqCmd ∨ r = .vapCmd) (w : Nat) : Machine.latchOf t r w = Machine.latchOf s r w :=
  h.latchOf hr fun free => by rcases valve with rfl | rfl <;> rcases free with h | h <;> cases h

/-- What a valve latch holds after its write (R158). -/
theorem latchOf_writeValve {s : State} (hr : Rising s.imap) {r : Role} {i : SpotId} {c : Command}
    (present : latchOf s r (spotNumber i) = some c) (cmd : Command) :
    latchOf (s.writeValve r i cmd) r (spotNumber i) = some cmd := by
  rw [State.writeValve, latchOf_writeLatch_same s hr, present]
  rfl

theorem latchOf_of_imap {s t : State} (h : t.imap = s.imap) (r : Role) (w : Nat) : latchOf t r w = latchOf s r w := by
  rw [latchOf, latchOf, h]

theorem recordField_writeValve (s : State) (r : Role) (i j : SpotId) (cmd : Command) (g : SpotRecord → Nat) :
    (s.writeValve r i cmd).recordField j g = s.recordField j g :=
  recordField_of_table (onlyMap_writeLatch s r (spotNumber i) cmd).table j g

/-! ## The differential test (R69) -/

/-- The context as UNLOADING begins (R69). -/
def SpotContext.unloads (x : SpotContext) (deadline : Nat) : SpotContext :=
  { x with
    pressurise := none, liquidConfirmed := false, window := .empty, state := .unloading,
    travel := some ⟨deadline, .liqPos, .opened⟩ }

/-- What a change of one context and the write of a valve latch leave: the other contexts, the compressors and the manifest. -/
structure SpotSet (i : SpotId) (s t : State) : Prop where
  others   : ∀ j, j ≠ i → t.spot j = s.spot j
  comps    : t.comps = s.comps
  waitList : t.waitList = s.waitList
  manifest : t.manifest = s.manifest
  conditions : t.conditions = s.conditions
  table    : t.table = s.table
  groups   : t.groups = s.groups
  sdu      : t.sdu = s.sdu
  uptime   : t.uptime = s.uptime
  pins     : t.pins = s.pins
  standing : t.mgu.standing = s.mgu.standing

namespace SpotSet

variable {i : SpotId} {s t u : State}

theorem refl (i : SpotId) (s : State) : SpotSet i s s := ⟨fun _ _ => rfl, rfl, rfl, rfl, rfl, rfl, rfl, rfl, rfl, rfl, rfl⟩

theorem trans (h : SpotSet i s t) (k : SpotSet i t u) : SpotSet i s u :=
  ⟨fun j hj => (k.others j hj).trans (h.others j hj), k.comps.trans h.comps, k.waitList.trans h.waitList,
    k.manifest.trans h.manifest, k.conditions.trans h.conditions, k.table.trans h.table, k.groups.trans h.groups,
    k.sdu.trans h.sdu, k.uptime.trans h.uptime, k.pins.trans h.pins, k.standing.trans h.standing⟩

theorem recordField (h : SpotSet i s t) (j : SpotId) (g : SpotRecord → Nat) : t.recordField j g = s.recordField j g :=
  recordField_of_table h.table j g

end SpotSet

theorem spotSet_modSpot (s : State) (i : SpotId) (f : SpotContext → SpotContext) : SpotSet i s (s.modSpot i f) :=
  ⟨fun _ hj => spot_modSpot_other s f hj, rfl, rfl, rfl, rfl, rfl, rfl, rfl, rfl, rfl, rfl⟩

theorem spotSet_of_onlyMap {i : SpotId} {s t : State} (h : OnlyMap s t) : SpotSet i s t :=
  ⟨fun j _ => h.spot j, h.comps, h.waitList, h.manifest, h.conditions, h.table, h.groups, h.sdu, h.uptime, h.pins,
    by rw [h.mgu]⟩

theorem spotSet_writeValve (s : State) (r : Role) (i j : SpotId) (cmd : Command) : SpotSet j s (s.writeValve r i cmd) :=
  spotSet_of_onlyMap (onlyMap_writeLatch s r (spotNumber i) cmd)

theorem spotSet_announce (s : State) (i j : SpotId) : SpotSet j s (s.announce i) :=
  spotSet_of_onlyMap (onlyPort_announce s i).onlyMap

theorem imap_announce (s : State) (i : SpotId) : (s.announce i).imap = s.imap := (onlyPort_announce s i).imap

theorem enterUnloading_eq (s : State) (i : SpotId) : SpotSet i s (s.enterUnloading i) ∧
    (s.enterUnloading i).spot i = (s.spot i).unloads (s.uptime + s.recordField i (·.travelLimit)) ∧
    (s.enterUnloading i).imap = ((s.modSpot i fun x => { x with pressurise := none }).writeValve .liqCmd i .opened).imap := by
  unfold State.enterUnloading
  simp only
  have stopped := spotSet_modSpot s i fun x => { x with pressurise := none }
  have self : (s.modSpot i fun x => { x with pressurise := none }).spot i = { s.spot i with pressurise := none } :=
    spot_modSpot_same s i _
  generalize s.modSpot i (fun x => { x with pressurise := none }) = u at *
  have opened := stopped.trans (spotSet_writeValve u .liqCmd i i .opened)
  have self' := (spot_writeValve u .liqCmd i i .opened).trans self
  generalize u.writeValve .liqCmd i .opened = v at *
  have moved := opened.trans (spotSet_modSpot v i fun x =>
    { x with liquidConfirmed := false, window := .empty, state := .unloading })
  refine ⟨moved.trans ((spotSet_modSpot _ i _).trans (spotSet_announce _ i i)), ?_, ?_⟩
  · rw [spot_announce, State.startTravel, spot_modSpot_same, spot_modSpot_same, self', moved.uptime, moved.recordField]
    rfl
  · rw [imap_announce]
    rfl

theorem differentialTest_eq {s : State} {i : SpotId} {p q : Int} (hp : s.carPressure i = some p)
    (hq : s.tankPressure i = some q) :
    s.differentialTest i = if (s.recordField i (·.dpStart) : Int) ≤ p - q then s.enterUnloading i else s := by
  rw [State.differentialTest, hp, hq]

/-- Settles O24: at the start difference UNLOADING is entered; below it, or without both pressures, nothing happens. -/
theorem differentialOpensTheLiquidValve : Obligations.DifferentialOpensTheLiquidValve := by
  unfold Obligations.DifferentialOpensTheLiquidValve
  refine ⟨fun s i p q hr hp hq start => ?_, fun s i p q hp hq below => ?_, fun s i missing => ?_⟩
  · rw [differentialTest_eq hp hq, if_pos start]
    obtain ⟨set, spot, map⟩ := enterUnloading_eq s i
    simp only
    rw [spot]
    refine ⟨rfl, rfl, rfl, rfl, rfl, rfl, fun c hc => ?_, set.others, set.comps, set.manifest⟩
    rw [latchOf_of_imap map]
    exact latchOf_writeValve (s := s.modSpot i _) hr hc .opened
  · rw [differentialTest_eq hp hq, if_neg (by omega)]
  · unfold State.differentialTest
    rcases missing with none | none
    · rw [none]
    · rw [none]
      cases s.carPressure i <;> rfl

end Sys2Proof.Machine
end

section
/-! The awaited positions (R66 to R68, R71, R73, R76) and the end of the liquid (R71, R72). -/

namespace Sys2Proof.Machine

/-! ## Entries that ask for flow -/

/-- A context whose grant, pass timer and causes an answer has changed. -/
def SpotContext.answered (x : SpotContext) (g : Grant) (p : Option Nat) (c : Causes) : SpotContext :=
  { x with grant := g, pass := p, causes := c }

/-- What becomes of a context that enters a state with a demand for flow: it runs, or it is SUSPENDED with that state saved. -/
inductive Entered (x y : SpotContext) (v : Saved) : Prop
  | runs (g : Grant) (p : Option Nat) (c : Causes) (same : y = x.answered g p c)
  | held (g : Grant) (p : Option Nat) (c : Causes) (some : c.any = true) (d : Demand) (h : Grant) (timer : Nat)
      (same : y = (x.answered g p c).suspendedAs v d h timer)

theorem saves_not_suspended {x : SpotContext} {v : Saved} (saves : savedOf x.state x.sub = some v) : x.state ≠ .suspended :=
  fun held => by
    rw [held] at saves
    cases saves

theorem entered_of_told {a : Answer} {x y : SpotContext} {v : Saved} {g : Grant} {p : Option Nat}
    (saves : savedOf x.state x.sub = some v) (asks : x.demand.flows = true) (told : Told a (x.handed x.demand g p) y) :
    Entered x y v := by
  have runs := saves_not_suspended saves
  cases told with
  | stands same => exact .runs g p x.causes same
  | clears _ same => exact .runs g p (x.causes.withCompressor false) same
  | holds held => exact absurd held runs
  | attempts held => exact absurd held runs
  | waits _ stays => exact absurd (saves.symm.trans stays) nofun
  | suspends _ w saves' d h timer same =>
    have w_eq : some v = some w := saves.symm.trans saves'
    cases w_eq
    exact .held g p (x.causes.withCompressor true) (any_marked_true x) d h timer same
  | drops held =>
    have hold : x.demand = .hold := held
    rw [hold] at asks
    cases asks

theorem entered_takeReport {s : State} {i : SpotId} {v : Saved} (saves : savedOf (s.spot i).state (s.spot i).sub = some v)
    (asks : (s.spot i).demand.flows = true) : Entered (s.spot i) ((s.takeReport i).spot i) v := by
  obtain ⟨p, _, told⟩ := told_takeReport s i
  exact entered_of_told saves asks told

/-- The suspension test after the answer (R89). -/
theorem entered_causeTest {x : SpotContext} {s : State} {i : SpotId} {v : Saved} (saves : savedOf x.state x.sub = some v)
    (h : Entered x (s.spot i) v) : Entered x ((s.causeTest i).spot i) v := by
  unfold State.causeTest
  simp only
  cases h with
  | runs g p c same =>
    have saves' : savedOf (s.spot i).state (s.spot i).sub = some v := by rw [same]; exact saves
    split
    · next any =>
      rw [saves']
      obtain ⟨d, h, e⟩ := spot_enterSuspended s i v
      rw [same] at e any
      exact .held g p c any d h _ e
    · rw [if_neg (saves_not_suspended saves')]
      exact .runs g p c same
  | held g p c any d h timer same =>
    have causes : (s.spot i).causes = c := by rw [same]; rfl
    have state : (s.spot i).state = .suspended := by rw [same]; rfl
    rw [causes, any, state]
    exact .held g p c any d h timer same

theorem entered_entry {s : State} {i : SpotId} {v : Saved} (saves : savedOf (s.spot i).state (s.spot i).sub = some v)
    (asks : (s.spot i).demand.flows = true) :
    Entered (s.spot i) ((((s.announce i).takeReport i).causeTest i).spot i) v := by
  have same := spot_announce s i i
  generalize s.announce i = u at *
  rw [← same] at saves asks ⊢
  exact entered_causeTest saves (entered_takeReport saves asks)

theorem spot_handDemand_handed (s : State) (i : SpotId) (d : Demand) :
    ∃ g p, (s.handDemand i d).spot i = (s.spot i).handed d g p := by
  obtain ⟨g, p, _, e, _⟩ := spot_handDemand s i d
  exact ⟨g, p, e⟩

/-- PRESSURISING is entered with PUSH demanded (R68). -/
theorem entered_enterPressurising (s : State) (i : SpotId) : ∃ u g p,
    Entered (({ s.spot i with travel := none, state := .pressurising, pressurise := u } : SpotContext).handed .push g p)
      ((s.enterPressurising i).spot i) .pressurising := by
  unfold State.enterPressurising
  have started : ∃ w, ((s.modSpot i (fun x => { x with travel := none, state := .pressurising })).startPressurise i).spot i =
      { s.spot i with travel := none, state := .pressurising, pressurise := w } :=
    ⟨_, by rw [State.startPressurise, spot_modSpot_same, spot_modSpot_same]⟩
  simp only
  generalize (s.modSpot i (fun x => { x with travel := none, state := .pressurising })).startPressurise i = u at *
  obtain ⟨w, self⟩ := started
  obtain ⟨g, p, e⟩ := spot_handDemand_handed u i .push
  refine ⟨w, g, p, ?_⟩
  rw [← self, ← e]
  exact entered_entry (by rw [e, self]; rfl) (by rw [e]; rfl)

/-- RECOVERY PASS is entered with RECOVER demanded (R73). -/
theorem entered_enterRecovery (s : State) (i : SpotId) : ∃ g p,
    Entered (({ s.spot i with
      travel := none, state := .recovery, sub := some .pass, passCount := 0 } : SpotContext).handed .recover g p)
      ((s.enterRecovery i).spot i) (.recovery .pass) := by
  unfold State.enterRecovery
  generalize hu : s.modSpot i (fun x =>
    { x with travel := none, state := .recovery, sub := some .pass, passCount := 0 }) = u
  have self : u.spot i = { s.spot i with travel := none, state := .recovery, sub := some .pass, passCount := 0 } := by
    rw [← hu, spot_modSpot_same]
  obtain ⟨g, p, e⟩ := spot_handDemand_handed u i .recover
  refine ⟨g, p, ?_⟩
  rw [← self, ← e]
  exact entered_entry (by rw [e, self]; rfl) (by rw [e]; rfl)

/-! ## Awaited positions -/

/-- Settles O25: the rule of each state that awaits a position, and no other effect. -/
theorem awaitedPositionsConfirm : Obligations.AwaitedPositionsConfirm := by
  unfold Obligations.AwaitedPositionsConfirm
  refine ⟨fun s i u r p hr awaits => ?_, fun s i r p other => ?_⟩
  · simp only
    refine ⟨fun state => ?_, fun state => ?_, fun state => ?_, fun o state outcome => ?_⟩
    all_goals simp only [State.deliverPosition, awaits, state, and_self, if_true]
    · obtain ⟨w, g, q, entered⟩ := entered_enterPressurising s i
      cases entered with
      | runs _ _ _ same => exact ⟨by rw [same]; rfl, .inl (by rw [same]; rfl)⟩
      | held _ _ _ _ _ _ _ same => exact ⟨by rw [same]; rfl, .inr ⟨by rw [same]; rfl, by rw [same]; rfl⟩⟩
    · rw [State.liquidOpened, spot_modSpot_same, ← state]
    · obtain ⟨g, q, entered⟩ := entered_enterRecovery s i
      cases entered with
      | runs _ _ _ same => exact ⟨by rw [same]; rfl, by rw [same]; rfl, .inl ⟨by rw [same]; rfl, by rw [same]; rfl, by rw [same]; rfl⟩⟩
      | held _ _ _ _ _ _ _ same => exact ⟨by rw [same]; rfl, by rw [same]; rfl, .inr ⟨by rw [same]; rfl, by rw [same]; rfl⟩⟩
    · rw [outcome]
      exact ended_endTransfer hr i o .complete
  · unfold State.deliverPosition
    simp only
    split
    · rfl
    · next x hx =>
      refine if_neg fun ⟨role, position⟩ => ?_
      rcases other with none | ⟨y, some, differs⟩
      · rw [none] at hx
        cases hx
      · rw [some] at hx
        cases hx
        exact differs.elim (fun h => h role) fun h => h position

/-! ## The end of the liquid -/

/-- The context as LIQUID_CLOSING begins (R72, R77). -/
def SpotContext.closesLiquid (x : SpotContext) (deadline : Nat) : SpotContext :=
  { x with state := .liquidClosing, travel := some ⟨deadline, .liqPos, .closed⟩ }

/-- HOLD for a spot that holds a compressor, NONE for the others (R72, R77). -/
theorem spot_holdOrNone (s : State) (i : SpotId) : ∃ d g p, (d = .hold ∨ d = .none) ∧
    ((∀ c, (s.spot i).grant ≠ .compressor c) → d = .none) ∧ (¬ (s.spot i).inPass → p = (s.spot i).pass) ∧
    (s.holdOrNone i).spot i = (s.spot i).handed d g p := by
  have dropped : ∃ d g p, (d = Demand.hold ∨ d = .none) ∧ ((∀ c, (s.spot i).grant ≠ .compressor c) → d = .none) ∧
      (¬ (s.spot i).inPass → p = (s.spot i).pass) ∧ (s.handDemand i .none).spot i = (s.spot i).handed d g p := by
    obtain ⟨g, p, hp, e, _⟩ := spot_handDemand s i .none
    exact ⟨.none, g, p, .inr rfl, fun _ => rfl, hp, e⟩
  unfold State.holdOrNone
  split
  · next c granted =>
    obtain ⟨d, g, p, hd, hp, e⟩ := spot_handHold s i
    exact ⟨d, g, p, hd, fun without => absurd granted (without c), hp, e⟩
  · exact dropped
  · exact dropped

/-- What the entry to LIQUID_CLOSING does: the liquid valve is closed and awaited, a compressor is held or handed back. -/
theorem enterLiquidClosing_spot {s : State} (hr : Rising s.imap) (i : SpotId) : ∃ d g p, (d = .hold ∨ d = .none) ∧
    ((∀ c, (s.spot i).grant ≠ .compressor c) → d = .none) ∧ (s.enterLiquidClosing i).spot i =
      ((s.spot i).closesLiquid (s.uptime + s.recordField i (·.travelLimit))).handed d g p ∧
    ¬ ((s.spot i).closesLiquid (s.uptime + s.recordField i (·.travelLimit))).inPass ∧
    (∀ c, latchOf s .liqCmd (spotNumber i) = some c →
      latchOf (s.enterLiquidClosing i) .liqCmd (spotNumber i) = some .closed) ∧
    Rising (s.enterLiquidClosing i).imap ∧ (s.enterLiquidClosing i).manifest = s.manifest ∧
    (s.enterLiquidClosing i).conditions = s.conditions := by
  have closed := spotSet_writeValve s .liqCmd i i .closed
  have self := spot_writeValve s .liqCmd i i .closed
  have latch := fun c (hc : latchOf s .liqCmd (spotNumber i) = some c) => latchOf_writeValve hr hc .closed
  have rising : Rising (s.writeValve .liqCmd i .closed).imap := rising_writeLatch hr _ _ _
  unfold State.enterLiquidClosing
  simp only
  generalize s.writeValve .liqCmd i .closed = v at *
  have set := closed.trans ((spotSet_modSpot v i fun x => { x with state := .liquidClosing }).trans
    (spotSet_modSpot _ i fun x =>
      { x with travel := some ⟨(v.setState i .liquidClosing).uptime +
        (v.setState i .liquidClosing).recordField i (·.travelLimit), .liqPos, .closed⟩ }))
  generalize hw : (v.setState i .liquidClosing).startTravel i .liqPos .closed = w at *
  have set' : SpotSet i s w := by rw [← hw]; exact set
  have map : w.imap = v.imap := by rw [← hw]; rfl
  have spot : w.spot i = (s.spot i).closesLiquid (s.uptime + s.recordField i (·.travelLimit)) := by
    rw [← hw, State.startTravel, spot_modSpot_same, State.setState, spot_modSpot_same, self, uptime_modSpot, closed.uptime,
      recordField_modSpot, closed.recordField]
    rfl
  obtain ⟨d, g, p, hd, without, _, e⟩ := spot_holdOrNone w i
  have wRising : Rising w.imap := by rw [map]; exact rising
  have entries := entries_holdOrNone_drive wRising i
  have beside := beside_holdOrNone w i
  refine ⟨d, g, p, hd, fun h => without (by rw [spot]; exact h), by rw [spot_announce, e, spot], fun inside => ?_,
    fun c hc => ?_, ?_, ?_, ?_⟩
  · cases inside.1
  · rw [latchOf_of_imap (imap_announce _ i), entries.valve wRising (.inl rfl), latchOf_of_imap map]
    exact latch c hc
  · rw [imap_announce]
    exact entries.rising wRising
  · rw [(spotSet_announce _ i i).manifest, beside.manifest, set'.manifest]
  · rw [(spotSet_announce _ i i).conditions, beside.conditions, set'.conditions]

theorem modSpot_congr {s : State} {i : SpotId} {f g : SpotContext → SpotContext} (h : f (s.spot i) = g (s.spot i)) :
    s.modSpot i f = s.modSpot i g := by
  rw [State.modSpot, State.modSpot, h]

theorem addRate_eq (s : State) (i : SpotId) (q : Nat) : s.addRate i q =
    if (s.spot i).liquidConfirmed && ((s.spot i).window.add q).below (s.recordField i (·.heelRate)) then
      (s.modSpot i fun x => { x with window := x.window.add q }).enterLiquidClosing i
    else s.modSpot i fun x => { x with window := x.window.add q } := by
  unfold State.addRate
  simp only [spot_modSpot_same, recordField_modSpot]

theorem places_add (w : RateWindow) (q : Nat) (k : Fin 8) :
    (w.add q).places.get k = if k = w.next then some q else w.places.get k := by
  unfold RateWindow.add
  rw [Vector.get_eq_getElem, Vector.get_eq_getElem, Vector.getElem_set]
  simp only [Fin.ext_iff, eq_comm]

/-- Settles O26: the rate takes its place in the window, and a window below the heel rate closes the liquid valve. -/
theorem liquidEndClosesTheValve : Obligations.LiquidEndClosesTheValve := by
  unfold Obligations.LiquidEndClosesTheValve
  intro s i q hr
  simp only
  rw [addRate_eq]
  refine ⟨?_, rfl, places_add _ q, fun confirmed low => ?_, fun stays => ?_⟩
  · split
    · obtain ⟨d, g, p, _, _, e, _⟩ := enterLiquidClosing_spot (s := s.modSpot i fun x => { x with window := x.window.add q }) hr i
      rw [e, spot_modSpot_same]
      rfl
    · rw [spot_modSpot_same]
  · rw [confirmed, low]
    obtain ⟨d, g, p, hd, without, e, _, latch, _⟩ :=
      enterLiquidClosing_spot (s := s.modSpot i fun x => { x with window := x.window.add q }) hr i
    rw [spot_modSpot_same] at e without
    rw [recordField_modSpot] at e
    simp only [Bool.and_self, if_true]
    rw [e]
    exact ⟨rfl, rfl, latch, hd, without⟩
  · have stays : ((s.spot i).liquidConfirmed && ((s.spot i).window.add q).below (s.recordField i (·.heelRate))) = false := by
      rcases stays with h | h <;> rw [h]
      · rfl
      · exact Bool.and_false _
    rw [stays, if_neg (by decide)]
    exact modSpot_congr rfl

end Sys2Proof.Machine
end

section
/-! The valve latches through the grant scan, and the requests of a transfer: START, SUSPEND, RESUME, STOP and ABORT (R63 to R66,
R77 to R79, R89, R97 to R105). -/

namespace Sys2Proof.Machine

/-! ## The liquid valve through the grant scan -/

/-- A context that no answer can suspend or return: it saves no state, and where it is SUSPENDED a cause beside NO_COMPRESSOR
holds it (R65, R89, R100). -/
def SpotContext.settled (x : SpotContext) : Prop :=
  savedOf x.state x.sub = none ∧ (x.state = .suspended → x.causes.others = true)

theorem SpotContext.settled.told {a : Answer} {x y : SpotContext} (h : x.settled) (t : Told a x y) : y.settled := by
  obtain ⟨saves, others⟩ := h
  cases t with
  | stands same => rw [same]; exact ⟨saves, others⟩
  | clears _ same => rw [same]; exact ⟨saves, others⟩
  | holds _ _ d g _ same => rw [same]; exact ⟨saves, others⟩
  | attempts held free => exact absurd ((others held).symm.trans free) (by decide)
  | waits _ _ same => rw [same]; exact ⟨saves, others⟩
  | suspends _ v some => exact absurd (saves.symm.trans some) nofun
  | drops _ p _ same => rw [same]; exact ⟨saves, others⟩

/-- Every latch but those of the vapour valves and that of one liquid valve. -/
def NotValve (i : SpotId) (r : Role) (w : Nat) : Prop := r ≠ .vapCmd ∧ ¬ (r = .liqCmd ∧ w = spotNumber i)

theorem entries_notValve {i : SpotId} {s t : State} (h : Entries DriveLatch s t) : Entries (NotValve i) s t :=
  h.mono fun r w drive => by rcases drive with rfl | rfl <;> exact ⟨nofun, fun h => nomatch h.1⟩

/-- An answer to a settled spot writes no valve latch. -/
theorem entries_takeReport_settled {s : State} (hr : Rising s.imap) {i : SpotId} (h : (s.spot i).settled) :
    Entries DriveLatch s (s.takeReport i) := by
  obtain ⟨saves, others⟩ := h
  obtain ⟨p, _, granted⟩ := spot_takeGrant s i
  have grant : Entries DriveLatch s (s.takeGrant i) := entries_takeGrant s i
  have hu := grant.rising hr
  have drop : Entries DriveLatch s ((s.takeGrant i).handDemand i .none) := grant.trans (entries_handDemand_drive hu i .none)
  have mark : ∀ b, Entries DriveLatch s ((s.takeGrant i).setNoCompressor i b) := fun b =>
    grant.trans (entries_still rfl rfl)
  have suspicion : Entries DriveLatch s (((s.takeGrant i).setNoCompressor i true).causeTest i) := by
    have marked := spot_setNoCompressor (s.takeGrant i) i true
    have causes : ((((s.takeGrant i).setNoCompressor i true).spot i).causes).any = true := by
      rw [marked]
      exact any_marked_true _
    have saved : savedOf (((s.takeGrant i).setNoCompressor i true).spot i).state
        (((s.takeGrant i).setNoCompressor i true).spot i).sub = none := by
      rw [marked, granted]
      exact saves
    rw [State.causeTest, causes, saved]
    exact mark true
  unfold State.takeReport
  simp only
  split
  · split
    · split
      · next held =>
        have any : (((s.takeGrant i).setNoCompressor i false).spot i).causes.any = true := by
          rw [spot_setNoCompressor, granted]
          exact others held
        rw [any]
        exact (mark false).trans (entries_handHold_drive ((mark false).rising hr) i)
      · exact mark false
    · split
      · exact suspicion
      · exact suspicion
      · exact drop
      · exact grant
    · split
      · exact grant
      · exact grant
      · exact drop
      · exact mark false
  · exact grant

theorem settled_pass {x : SpotContext} (h : x.settled) (p : Option Nat) : SpotContext.settled { x with pass := p } := h

theorem settled_takeReport {s : State} {i : SpotId} (h : (s.spot i).settled) : ((s.takeReport i).spot i).settled := by
  obtain ⟨p, _, told⟩ := told_takeReport s i
  have granted : ((s.spot i).handed (s.spot i).demand (grantOf (s.standingAnswer i) (s.spot i).demand) p).settled := h
  exact granted.told told

theorem settled_grantSpot {s : State} {i : SpotId} (c : CompId) (h : (s.spot i).settled) :
    ((s.grantSpot i c).spot i).settled := by
  have aside := (aside_attach (s.leaveList i) c i).trans (aside_actAll _ s)
  refine settled_takeReport ?_
  rw [aside.spots i]
  exact settled_pass h _

theorem spotNumber_inj {i j : SpotId} (h : spotNumber i = spotNumber j) : i = j :=
  Option.some.inj ((spotId_spotNumber i).symm.trans (h ▸ spotId_spotNumber j))

/-- A grant to a settled spot writes no valve latch. -/
theorem entries_grant_settled {s : State} (hr : Rising s.imap) {i : SpotId} (c : CompId) (h : (s.spot i).settled) :
    Entries DriveLatch s (s.grantSpot i c) := by
  have aside := (aside_attach (s.leaveList i) c i).trans (aside_actAll _ s)
  have placed : Entries DriveLatch s ((s.leaveList i).attach c i) := entries_still rfl rfl
  have acted := placed.trans (entries_actAll_drive (placed.rising hr) s)
  refine acted.trans (entries_takeReport_settled (acted.rising hr) ?_)
  rw [aside.spots i]
  exact settled_pass h _

/-- The scan leaves the valve latches of a settled spot (R148, R158). -/
theorem entries_endScan_settled {s : State} (hr : Rising s.imap) {i : SpotId} (h : (s.spot i).settled) :
    Entries (NotValve i) s s.endScan := by
  refine (endScan_keeps (P := fun t => Entries (NotValve i) s t ∧ (t.spot i).settled)
    (fun t j c _ taken ⟨entries, settled⟩ => ?_) ⟨.refl _ s, h⟩).1
  have ht := entries.rising hr
  by_cases e : i = j
  · subst e
    exact ⟨entries.trans (entries_notValve (entries_grant_settled ht c settled)), settled_grantSpot c settled⟩
  · have beside := beside_grant taken
    refine ⟨entries.trans ((beside.entries ht).mono fun r w free => ?_), ?_⟩
    · rcases free with ⟨role, owner⟩ | ⟨d, ⟨role, _⟩, _⟩
      · exact ⟨by rw [role]; nofun, fun mine => e (spotNumber_inj (mine.2.symm.trans owner))⟩
      · exact ⟨by rcases role with rfl | rfl <;> nofun, by rcases role with rfl | rfl <;> exact fun h => nomatch h.1⟩
    · rw [beside.spots i e]
      exact settled_pass settled _

/-- The valve latches of a settled spot after the scan. -/
theorem latchOf_endScan {s : State} (hr : Rising s.imap) {i : SpotId} (h : (s.spot i).settled) :
    latchOf s.endScan .liqCmd (spotNumber i) = latchOf s .liqCmd (spotNumber i) ∧
      latchOf s.endScan .vapCmd (spotNumber i) = latchOf s .vapCmd (spotNumber i) :=
  have entries := entries_endScan_settled hr h
  ⟨entries.latchOf hr fun free => free.2 ⟨rfl, rfl⟩, entries.latchOf hr fun free => free.1 rfl⟩

/-! ## START -/

/-- The requests of a transfer in RUN (R181). -/
theorem transferRequest_inRun {f : SpotId → State → State × Reply} {n : Byte} {i : SpotId} {s : State}
    (hi : spotId n.toNat = some i) (run : s.sdu.device = .run) : transferRequest f [n] s = f i s := by
  simp only [transferRequest, spotRequest, onSpot_some s hi, State.inRun, run]

theorem latchOf_of_driven {s : State} {r : Role} {i : SpotId} (h : notDriven (s.spotEntry r i) = false) :
    ∃ c, latchOf s r (spotNumber i) = some c := by
  rw [latchOf]
  unfold State.spotEntry at h
  cases hf : findRole s.imap r (spotNumber i) with
  | none => rw [hf] at h; cases h
  | some p =>
    rw [hf] at h
    cases hi : p.2.image with
    | none => simp [notDriven, hi] at h
    | some o => exact ⟨o.latch, by simp [hi]⟩

/-- Settles O33: the context is prepared, the valves are written and the vapour valve awaited. -/
theorem startOpensTheVapourValve : Obligations.StartOpensTheVapourValve := by
  unfold Obligations.StartOpensTheVapourValve
  intro s q n i h hi run ready whole driven curve product temp pressure hr
  have effect : transferRequest startSpot [n] s = (s.startTransfer i, ⟨.done, []⟩) := by
    rw [transferRequest_inRun hi run]
    simp only [startSpot, ready, whole, driven, curve, product, temp, pressure]
    rfl
  obtain ⟨t, ht, same, rep⟩ := h.effected (transferRequest startSpot) effect
    (does_startTransfer s i ready).around.calm.toPortStep
  have driven' : notDriven (s.spotEntry .liqCmd i) = false ∧ notDriven (s.spotEntry .vapCmd i) = false := by
    simpa [State.valveLocal] using driven
  obtain ⟨l, hl⟩ := latchOf_of_driven driven'.1
  obtain ⟨v, hv⟩ := latchOf_of_driven driven'.2
  have prepared := spotSet_modSpot s i (startContext (liveCauses s i))
  have self := spot_modSpot_same s i (startContext (liveCauses s i))
  have map : (s.modSpot i (startContext (liveCauses s i))).imap = s.imap := rfl
  unfold State.startTransfer at same
  simp only at same
  generalize s.modSpot i (startContext (liveCauses s i)) = a at *
  have closed := prepared.trans (spotSet_writeValve a .liqCmd i i .closed)
  have aRising : Rising a.imap := by rw [map]; exact hr
  have bRising : Rising (a.writeValve .liqCmd i .closed).imap := rising_writeLatch aRising _ _ _
  have liquid : latchOf (a.writeValve .liqCmd i .closed) .liqCmd (spotNumber i) = some .closed :=
    latchOf_writeValve aRising ((latchOf_of_imap map _ _).trans hl) .closed
  have vapour : latchOf (a.writeValve .liqCmd i .closed) .vapCmd (spotNumber i) = some v :=
    (latchOf_writeLatch_other a aRising .closed (fun h => absurd h.1 (by decide))).trans ((latchOf_of_imap map _ _).trans hv)
  have self' := (spot_writeValve a .liqCmd i i .closed).trans self
  generalize a.writeValve .liqCmd i .closed = b at *
  have opened := closed.trans (spotSet_writeValve b .vapCmd i i .opened)
  have liquid' : latchOf (b.writeValve .vapCmd i .opened) .liqCmd (spotNumber i) = some .closed :=
    (latchOf_writeLatch_other b bRising .opened (fun h => absurd h.1 (by decide))).trans liquid
  have vapour' := latchOf_writeValve bRising vapour .opened
  have self'' := (spot_writeValve b .vapCmd i i .opened).trans self'
  generalize b.writeValve .vapCmd i .opened = c at *
  have set := opened.trans ((spotSet_modSpot c i fun x => { x with state := .opening }).trans
    ((spotSet_modSpot _ i fun x => { x with
      travel := some ⟨(c.setState i .opening).uptime + (c.setState i .opening).recordField i (·.travelLimit), .vapPos, .opened⟩ }).trans
      (spotSet_announce _ i i)))
  have latches : ∀ r w, latchOf t r w = latchOf c r w := fun r w =>
    latchOf_of_imap (same.imap.trans (imap_announce _ i)) r w
  refine ⟨t, ht, rep, ?_, (latches _ _).trans liquid', (latches _ _).trans vapour', fun j hj => ?_, ?_, ?_, ?_, ?_, ?_, ?_, ?_,
    ?_, ?_⟩
  · rw [spot_of_spots same.spots, spot_announce, State.startTravel, spot_modSpot_same, State.setState, spot_modSpot_same, self'',
      uptime_modSpot, opened.uptime, recordField_modSpot, opened.recordField]
    rfl
  · exact (spot_of_spots same.spots j).trans (set.others j hj)
  · exact same.comps.trans set.comps
  · exact same.waitList.trans set.waitList
  · exact same.manifest.trans set.manifest
  · exact same.conditions.trans set.conditions
  · exact same.sdu.trans set.sdu
  · exact same.standing.trans set.standing
  · exact same.pins.trans set.pins
  · exact same.table.trans set.table
  · exact same.groups.trans set.groups

end Sys2Proof.Machine
end

section
/-! SUSPEND, RESUME, STOP and ABORT (R77 to R79, R89, R97 to R105), and the suspend expiry (R99). -/

namespace Sys2Proof.Machine

/-! ## SUSPEND -/

theorem entries_followGrant_drive {s : State} (hr : Rising s.imap) (i : SpotId) (v : Saved) :
    Entries DriveLatch s (s.followGrant i v) := by
  unfold State.followGrant
  split
  · exact entries_handHold_drive hr i
  · exact entries_handDemand_drive hr i _
  · exact entries_handDemand_drive hr i _

/-- An entry to SUSPENDED closes the liquid valve (R97). -/
theorem latchOf_enterSuspended {s : State} (hr : Rising s.imap) (i : SpotId) (v : Saved) {c : Command}
    (present : latchOf s .liqCmd (spotNumber i) = some c) :
    Rising (s.enterSuspended i v).imap ∧ latchOf (s.enterSuspended i v) .liqCmd (spotNumber i) = some .closed := by
  unfold State.enterSuspended
  simp only
  generalize hu : s.modSpot i _ = u
  have map : u.imap = s.imap := by rw [← hu]; rfl
  have uRising : Rising u.imap := by rw [map]; exact hr
  have closed := latchOf_writeValve uRising ((latchOf_of_imap map _ _).trans present) .closed
  have vRising : Rising ((u.writeValve .liqCmd i .closed).setState i .suspended).imap := rising_writeLatch uRising _ _ _
  have followed := entries_followGrant_drive vRising i v
  rw [latchOf_of_imap (imap_announce _ i), imap_announce]
  exact ⟨followed.rising vRising, (followed.valve vRising (.inl rfl) _).trans closed⟩

theorem active_of_suspendable {st : SpotState} (h : st.suspendable = true) : st.active = true := by
  cases st <;> simp [SpotState.suspendable, SpotState.active] at h ⊢

theorem savedOf_of_suspendable {st : SpotState} (h : st.suspendable = true) (sub : Option SubState) :
    st = .suspended ∨ ∃ v, savedOf st sub = some v := by
  cases st <;> simp [SpotState.suspendable, savedOf] at h ⊢

/-- The mark a SUSPEND sets (R104). -/
def SpotContext.requested (x : SpotContext) : SpotContext := { x with causes := { x.causes with requested := true } }

theorem any_requested (x : SpotContext) : x.requested.causes.any = true ∧ x.requested.causes.others = true := by
  simp [SpotContext.requested, Causes.any, Causes.others, Causes.withCompressor]

/-- What a SUSPEND makes of a context before the grant scan (R97, R104). -/
theorem requested_changeCauses {s : State} {i : SpotId} (able : (s.spot i).state.suspendable = true)
    (fresh : (s.spot i).causes.requested = false) :
    let t := s.changeCauses i (fun c => { c with requested := true })
    ((s.spot i).state = .suspended ∧ t = s.modSpot i SpotContext.requested) ∨
      ∃ v, savedOf (s.spot i).state (s.spot i).sub = some v ∧
        t = (s.modSpot i SpotContext.requested).enterSuspended i v := by
  have other : ({ (s.spot i).causes with requested := true } : Causes) ≠ (s.spot i).causes := fun h => by
    have := congrArg Causes.requested h
    rw [fresh] at this
    cases this
  have active : s.isActive i = true := active_of_suspendable able
  simp only [State.changeCauses, active, if_true]
  rw [if_neg other]
  change (_ ∧ (s.modSpot i SpotContext.requested).causeTest i = _) ∨ ∃ v, _ ∧
    (s.modSpot i SpotContext.requested).causeTest i = _
  unfold State.causeTest
  simp only [spot_modSpot_same, (any_requested _).1, if_true]
  rcases savedOf_of_suspendable able (s.spot i).sub with held | ⟨v, saves⟩
  · have saved : savedOf (s.spot i).requested.state (s.spot i).requested.sub = none := by
      change savedOf (s.spot i).state _ = none
      rw [held]
      rfl
    exact .inl ⟨held, by rw [saved]⟩
  · have saved : savedOf (s.spot i).requested.state (s.spot i).requested.sub = some v := saves
    exact .inr ⟨v, saves, by rw [saved]⟩

/-- Settles O34: the cause suspends a running transfer, and holds it through the scan. -/
theorem suspendHoldsTheTransfer : Obligations.SuspendHoldsTheTransfer := by
  unfold Obligations.SuspendHoldsTheTransfer
  intro s q n i h hi run able fresh unguarded hr
  have effect : transferRequest suspendSpot [n] s =
      ((s.changeCauses i (fun c => { c with requested := true })).endScan, ⟨.done, []⟩) := by
    rw [transferRequest_inRun hi run]
    simp only [suspendSpot, able, fresh, unguarded]
    rfl
  have does := (does_changeCauses (c := true) s i (fun c => { c with requested := true })).trans (does_endScan _)
  obtain ⟨t, ht, same, rep⟩ := h.effected (transferRequest suspendSpot) effect does.around.calm.toPortStep
  have beside := beside_changeCauses s i (fun c => { c with requested := true })
  obtain ⟨conditions, manifest⟩ := endScan_aside (s.changeCauses i (fun c => { c with requested := true }))
  have changed := requested_changeCauses able fresh
  simp only at changed
  have spot : t.spot i = (s.changeCauses i (fun c => { c with requested := true })).endScan.spot i := spot_of_spots same.spots i
  have map := same.imap
  have sdu := same.sdu.trans does.sdu
  have cars := same.manifest.trans (manifest.trans beside.manifest)
  have sets := same.conditions.trans (conditions.trans beside.conditions)
  generalize s.changeCauses i _ = u at *
  rcases changed with ⟨held, rfl⟩ | ⟨v, saves, rfl⟩
  · obtain ⟨d, g, b, e⟩ := heldBack_endScan (s := s.modSpot i SpotContext.requested) (j := i)
      (by rw [spot_modSpot_same]; exact held) (by rw [spot_modSpot_same]; exact (any_requested _).2)
    rw [spot_modSpot_same] at e
    rw [e] at spot
    exact ⟨t, ht, rep, by rw [spot]; exact held, by rw [spot]; rfl, fun h => absurd held h,
      fun _ => by rw [spot]; exact ⟨rfl, rfl⟩, by rw [spot]; rfl, by rw [spot]; rfl, by rw [spot]; rfl, cars, sets, sdu⟩
  · obtain ⟨d, g, entered⟩ := spot_enterSuspended (s.modSpot i SpotContext.requested) i v
    rw [spot_modSpot_same, uptime_modSpot, recordField_modSpot] at entered
    have closed := fun c => latchOf_enterSuspended (s := s.modSpot i SpotContext.requested) hr i v (c := c)
    have rising : Rising ((s.modSpot i SpotContext.requested).enterSuspended i v).imap := by
      have hd := (does_enterSuspended (c := true) (s.modSpot i SpotContext.requested) i v)
      exact hd.rising hr
    generalize (s.modSpot i SpotContext.requested).enterSuspended i v = u at *
    have held : (u.spot i).state = .suspended := by rw [entered]; rfl
    have kept : (u.spot i).causes.others = true := by rw [entered]; exact (any_requested _).2
    have settled : (u.spot i).settled := ⟨by rw [held]; rfl, fun _ => kept⟩
    obtain ⟨d', g', b, e⟩ := heldBack_endScan held kept
    rw [e, entered] at spot
    refine ⟨t, ht, rep, by rw [spot]; rfl, by rw [spot]; rfl, fun _ => ?_, fun h => ?_, by rw [spot]; rfl, by rw [spot]; rfl,
      by rw [spot]; rfl, cars, sets, sdu⟩
    · refine ⟨by rw [spot, saves]; rfl, by rw [spot]; rfl, by rw [spot]; rfl, by rw [spot]; rfl, by rw [spot]; rfl,
        by rw [spot]; rfl, by rw [spot]; rfl, fun c hc => ?_⟩
      rw [latchOf_of_imap map, (latchOf_endScan rising settled).1]
      exact (closed c hc).2
    · rw [h] at saves
      cases saves

/-! ## RESUME and the suspend expiry -/

/-- A transfer that returns with `v` saved: no cause but NO_COMPRESSOR is left, and it has returned to that state or waits for a
compressor (R100). -/
structure Returning (v : Saved) (x : SpotContext) : Prop where
  clean : x.causes.others = false
  place : (x.state = v.state ∧ x.sub = v.sub ∧ x.saved = none ∧ x.suspendTimer = none) ∨
    (x.state = .suspended ∧ x.saved = some v ∧ x.causes.noCompressor = true)

theorem savedOf_saved (v : Saved) : savedOf v.state v.sub = some v := by
  cases v with
  | recovery sub => cases sub <;> rfl
  | pressurising => rfl
  | unloading => rfl

theorem Returned.returning {x y : SpotContext} {v : Saved} (h : Returned x y v) (clean : x.causes.others = false) :
    Returning v y := by
  obtain ⟨same, _⟩ := h
  rw [same]
  exact ⟨clean, .inl ⟨rfl, rfl, rfl, rfl⟩⟩

theorem Attempted.returning {x y : SpotContext} {v : Saved} (h : Attempted x y v) (clean : x.causes.others = false)
    (held : x.state = .suspended) (saved : x.saved = some v) : Returning v y := by
  cases h with
  | free _ back => exact back.returning clean
  | back c back => exact back.returning clean
  | waits g _ same =>
    rw [same]
    exact ⟨clean, .inr ⟨held, saved, rfl⟩⟩

/-- No answer takes a returning transfer elsewhere. -/
theorem Returning.told {a : Answer} {v : Saved} {x y : SpotContext} (h : Returning v x) (answered : a ≠ .detached)
    (t : Told a x y) : Returning v y := by
  obtain ⟨clean, place⟩ := h
  have suspended : x.state = .suspended → x.saved = some v ∧ x.causes.noCompressor = true := fun held => by
    rcases place with ⟨state, _⟩ | ⟨_, rest⟩
    · have saves := savedOf_saved v
      rw [← state, held] at saves
      cases saves
    · exact rest
  cases t with
  | stands same => rw [same]; exact ⟨clean, place⟩
  | clears runs same =>
    rw [same]
    rcases place with back | ⟨held, saved, _⟩
    · exact ⟨clean, .inl back⟩
    · rcases runs with run | none | ⟨_, detached⟩
      · exact absurd held run
      · rw [saved] at none
        cases none
      · exact absurd detached answered
  | holds _ kept => exact absurd (kept.symm.trans clean) (by decide)
  | attempts held _ w saved attempt =>
    have same : some v = some w := (suspended held).1.symm.trans saved
    cases same
    exact attempt.returning clean held saved
  | waits _ _ same =>
    rw [same]
    exact ⟨clean, place.imp id fun ⟨held, saved, _⟩ => ⟨held, saved, rfl⟩⟩
  | suspends _ w saves d g timer same =>
    rw [same]
    rcases place with ⟨state, sub, _⟩ | ⟨held, _⟩
    · rw [state, sub, savedOf_saved] at saves
      cases saves
      exact ⟨clean, .inr ⟨rfl, rfl, rfl⟩⟩
    · rw [held] at saves
      cases saves
  | drops _ p _ same => rw [same]; exact ⟨clean, place⟩

theorem returning_endScan {v : Saved} {s : State} {i : SpotId} (h : Returning v (s.spot i)) :
    Returning v (s.endScan.spot i) :=
  spot_endScan_of_told (P := Returning v) (fun _ _ _ ⟨clean, place⟩ => ⟨clean, place⟩)
    (fun _ _ _ _ ⟨clean, place⟩ => ⟨clean, place⟩) (fun _ _ _ answered told h => h.told answered told) h

/-- The test of a suspended transfer that no cause holds attempts the return (R89, R100). -/
theorem returning_causeTest {v : Saved} {s : State} {i : SpotId} (held : (s.spot i).state = .suspended)
    (saved : (s.spot i).saved = some v) (clean : (s.spot i).causes.any = false) : Returning v ((s.causeTest i).spot i) := by
  have others : (s.spot i).causes.others = false := by
    simp only [Causes.any, Causes.others, Causes.withCompressor, Bool.or_eq_false_iff] at clean ⊢
    simp [clean]
  have test : s.causeTest i = s.returnAttempt i := by
    simp only [State.causeTest, clean, held, if_true]
    rfl
  rw [test]
  exact (attempted_returnAttempt s i v saved held).returning others held saved

theorem others_eq_false {c : Causes} (h : c.others = false) :
    c.requested = false ∧ c.meterSuspect = false ∧ c.excess = false := by
  simp only [Causes.others, Causes.withCompressor, Causes.any, Bool.or_eq_false_iff] at h
  obtain ⟨⟨⟨_, requested⟩, meter⟩, excess⟩ := h
  exact ⟨requested, meter, excess⟩

/-- The context a RESUME leaves before its test (R96, R105). -/
def SpotContext.resumed (x : SpotContext) (uptime : Nat) : SpotContext :=
  { x with
    causes := { x.causes with requested := false, meterSuspect := false, excess := false }
    excessAck := x.excessAck || x.causes.excess
    lastResume := some uptime }

theorem any_resumed {x : SpotContext} (live : x.causes.live = false) (u : Nat) : (x.resumed u).causes.any = false := by
  simp only [Causes.live, Bool.or_eq_false_iff] at live
  simp [SpotContext.resumed, Causes.any, live]

theorem resumeTransfer_eq (s : State) (i : SpotId) : s.resumeTransfer i =
    ((s.modSpot i fun x => x.resumed s.uptime).causeTest i).endScan := rfl

theorem figures_causeTest {s : State} {v : Saved} {i : SpotId} (held : (s.spot i).state = .suspended)
    (saved : (s.spot i).saved = some v) (clean : (s.spot i).causes.any = false) :
    ((s.causeTest i).spot i).figures = (s.spot i).figures := by
  have test : s.causeTest i = s.returnAttempt i := by
    simp only [State.causeTest, clean, held, if_true]
    rfl
  rw [test]
  exact (attempted_returnAttempt s i v saved held).figures

/-- Settles O35: the latched causes go, and the return is attempted. -/
theorem resumeAttemptsTheReturn : Obligations.ResumeAttemptsTheReturn := by
  unfold Obligations.ResumeAttemptsTheReturn
  refine ⟨fun s q n i v h hi run held saved live => ?_, fun s q n i h hi run held live => ?_⟩
  · have effect : transferRequest resumeSpot [n] s = (s.resumeTransfer i, ⟨.done, []⟩) := by
      rw [transferRequest_inRun hi run]
      simp only [resumeSpot, held, live]
      rfl
    have does := does_resumeTransfer (c := true) s i
    obtain ⟨t, ht, same, rep⟩ := h.effected (transferRequest resumeSpot) effect does.around.calm.toPortStep
    rw [resumeTransfer_eq] at same does
    have self := spot_modSpot_same s i fun x => x.resumed s.uptime
    have marked := beside_modSpot s i fun x => x.resumed s.uptime
    generalize s.modSpot i (fun x => x.resumed s.uptime) = u at *
    have uHeld : (u.spot i).state = .suspended := by rw [self]; exact held
    have uSaved : (u.spot i).saved = some v := by rw [self]; exact saved
    have uClean : (u.spot i).causes.any = false := by rw [self]; exact any_resumed live _
    have returning := returning_endScan (returning_causeTest uHeld uSaved uClean)
    have figures := (figures_endScan (u.causeTest i) i).trans (figures_causeTest uHeld uSaved uClean)
    have beside := marked.trans (beside_causeTest u i)
    obtain ⟨conditions, manifest⟩ := endScan_aside (u.causeTest i)
    rw [self, ← spot_of_spots same.spots] at figures
    rw [← spot_of_spots same.spots] at returning
    obtain ⟨clean, place⟩ := returning
    obtain ⟨requested, meter, excess⟩ := others_eq_false clean
    have acknowledged := congrArg SpotContext.excessAck figures
    have last := congrArg SpotContext.lastResume figures
    have acc := congrArg SpotContext.acc figures
    refine ⟨t, ht, rep, requested, meter, excess, acknowledged, last, acc, ?_, same.manifest.trans (manifest.trans beside.manifest),
      same.conditions.trans (conditions.trans beside.conditions), same.sdu.trans does.sdu⟩
    exact place.imp (fun ⟨state, _, saved, _⟩ => ⟨state, saved⟩) id
  · refine h.answered (transferRequest resumeSpot) ?_
    rw [transferRequest_inRun hi run]
    simp only [resumeSpot, held, live]
    rfl

end Sys2Proof.Machine
end

section
/-! STOP and ABORT (R77 to R79, R90), and the expiries of the suspend, pass and settle timers (R99, R128 to R131). -/

namespace Sys2Proof.Machine

/-! ## A spot the scan leaves where it stands -/

/-- A spot that asks for no flow and is not SUSPENDED after the scan, where NO_COMPRESSOR is not set: its demand may drop from
HOLD, and its grant change. -/
theorem restful_endScan {s : State} {i : SpotId} (runs : (s.spot i).state ≠ .suspended)
    (quiet : (s.spot i).demand.flows = false) (clear : (s.spot i).causes.noCompressor = false) (outside : ¬ (s.spot i).inPass) :
    ∃ d g, (d = (s.spot i).demand ∨ d = .none) ∧ ((s.spot i).demand = .none → (s.spot i).grant = .none → g = .none) ∧
      s.endScan.spot i = (s.spot i).handed d g (s.spot i).pass := by
  obtain ⟨d, g, b, p, hd, hp, hb, hg, e⟩ := quiet_endScan runs quiet
  have unmarked : b = false := hb.elim (fun h => h.trans clear) id
  refine ⟨d, g, hd, hg, ?_⟩
  rw [e, hp outside, unmarked, SpotContext.marked]
  have same : ((s.spot i).handed d g (s.spot i).pass).causes.withCompressor false =
      ((s.spot i).handed d g (s.spot i).pass).causes := by
    change { (s.spot i).causes with noCompressor := false } = (s.spot i).causes
    rw [← clear]
  rw [same]

theorem flows_of_holdOrNone {d : Demand} (h : d = .hold ∨ d = .none) : d.flows = false := by
  rcases h with rfl | rfl <;> rfl

theorem holdOrNone_kept {d e : Demand} (h : d = .hold ∨ d = .none) (k : e = d ∨ e = .none) : e = .hold ∨ e = .none :=
  k.elim (fun same => same ▸ h) .inr

/-! ## STOP -/

/-- The context a STOP leaves before the valve is closed (R77, R90). -/
def SpotContext.stopped (x : SpotContext) (live : Causes) : SpotContext :=
  { emptyCauses live x with pressurise := none, suspendTimer := none, travel := none, stopMark := true }

theorem stopTransfer_eq (s : State) (i : SpotId) : ∃ u, s.stopTransfer i = (u.enterLiquidClosing i).endScan ∧
    SpotSet i s u ∧ u.imap = s.imap ∧ u.spot i = (s.spot i).stopped (liveCauses s i) := by
  refine ⟨_, rfl, (spotSet_modSpot s i _).trans (spotSet_modSpot _ i _), rfl, ?_⟩
  rw [spot_modSpot_same, spot_modSpot_same]
  rfl

/-- Settles O36: LIQUID_CLOSING is entered from the emptied causes, and the scan leaves it. -/
theorem stopClosesTheLiquidValve : Obligations.StopClosesTheLiquidValve := by
  unfold Obligations.StopClosesTheLiquidValve
  intro s q n i h hi run able hr
  have effect : transferRequest stopSpot [n] s = (s.stopTransfer i, ⟨.done, []⟩) := by
    rw [transferRequest_inRun hi run]
    simp only [stopSpot, able]
    rfl
  have does := does_stopTransfer (c := true) s i
  obtain ⟨t, ht, same, rep⟩ := h.effected (transferRequest stopSpot) effect does.around.calm.toPortStep
  obtain ⟨u, hu, set, map, self⟩ := stopTransfer_eq s i
  rw [hu] at same does
  have uRising : Rising u.imap := by rw [map]; exact hr
  obtain ⟨d, g, p, hd, without, e, outside, latch, rising, manifest, conditions⟩ := enterLiquidClosing_spot uRising i
  obtain ⟨scanned, cars⟩ := endScan_aside (u.enterLiquidClosing i)
  rw [self, set.uptime, set.recordField] at e
  generalize u.enterLiquidClosing i = v at *
  have state : (v.spot i).state = .liquidClosing := by rw [e]; rfl
  have demand : (v.spot i).demand = d := by rw [e]; rfl
  have settled : (v.spot i).settled := ⟨by rw [state]; rfl, fun h => by rw [state] at h; cases h⟩
  obtain ⟨d', g', hd', _, e'⟩ := restful_endScan (s := v) (i := i) (by rw [state]; nofun)
    (by rw [demand]; exact flows_of_holdOrNone hd) (by rw [e]; rfl) (fun inside => by rw [inside.1] at state; cases state)
  rw [demand] at hd'
  have spot : t.spot i = _ := (spot_of_spots same.spots i).trans (e'.trans (by rw [e]))
  refine ⟨t, ht, rep, by rw [spot]; rfl, by rw [spot]; rfl, by rw [spot]; rfl, by rw [spot]; rfl, by rw [spot]; rfl,
    by rw [spot]; rfl, by rw [spot]; rfl, by rw [spot]; rfl, by rw [spot]; exact holdOrNone_kept hd hd', fun none => ?_,
    fun c hc => ?_, by rw [spot]; rfl, ?_, ?_, same.sdu.trans does.sdu⟩
  · rw [spot]
    have dropped := without (by rw [self]; exact none)
    exact hd'.elim (fun h => h.trans dropped) id
  · rw [latchOf_of_imap same.imap, (latchOf_endScan rising settled).1]
    exact latch c ((latchOf_of_imap map _ _).trans hc)
  · exact same.manifest.trans (cars.trans (manifest.trans set.manifest))
  · exact same.conditions.trans (scanned.trans (conditions.trans set.conditions))

/-! ## ABORT -/

/-- The context an ABORT leaves, its state and travel timer aside (R78, R90). -/
def SpotContext.aborts (x : SpotContext) (live : Causes) (g : Grant) : SpotContext :=
  { emptyCauses live x with
    pressurise := none, suspendTimer := none, pass := none, settle := none, sub := none, demand := .none, grant := g
    pendingOutcome := some .aborted }

/-- An ABORT up to the change of state (R78). -/
def State.abortStand (s : State) (i : SpotId) (live : Causes) : State :=
  (((((s.modSpot i fun x => { x with
    pressurise := none, suspendTimer := none, pass := none, settle := none }).closeValves i).modSpot i
      (emptyCauses live)).modSpot i fun x => { x with sub := none }).handDemand i .none).modSpot i
        fun x => { x with pendingOutcome := some .aborted }

theorem abortTransfer_eq (s : State) (i : SpotId) : s.abortTransfer i =
    (if (s.spot i).state = .closing then s.abortStand i (liveCauses s i)
      else (((s.abortStand i (liveCauses s i)).setState i .closing).startTravel i .vapPos .closed).announce i).endScan := rfl

/-- Both valves of the spot are closed where their latches stand (R78). -/
structure ValvesShut (s t : State) (i : SpotId) : Prop where
  rising : Rising t.imap
  liquid : ∀ c, latchOf s .liqCmd (spotNumber i) = some c → latchOf t .liqCmd (spotNumber i) = some .closed
  vapour : ∀ c, latchOf s .vapCmd (spotNumber i) = some c → latchOf t .vapCmd (spotNumber i) = some .closed

theorem valvesShut_closeValves {s : State} (hr : Rising s.imap) (i : SpotId) : ValvesShut s (s.closeValves i) i := by
  have first : Rising (s.writeValve .liqCmd i .closed).imap := rising_writeLatch hr _ _ _
  refine ⟨rising_writeLatch first _ _ _, fun c hc => ?_, fun c hc => ?_⟩
  · exact (latchOf_writeLatch_other _ first .closed fun h => absurd h.1 (by decide)).trans (latchOf_writeValve hr hc .closed)
  · exact latchOf_writeValve first ((latchOf_writeLatch_other s hr .closed fun h => absurd h.1 (by decide)).trans hc) .closed

theorem ValvesShut.drive {s t u : State} {i : SpotId} (h : ValvesShut s t i) (k : Entries DriveLatch t u) :
    ValvesShut s u i :=
  ⟨k.rising h.rising, fun c hc => (k.valve h.rising (.inl rfl) _).trans (h.liquid c hc),
    fun c hc => (k.valve h.rising (.inr rfl) _).trans (h.vapour c hc)⟩

theorem ValvesShut.of_imap {s t u : State} {i : SpotId} (h : ValvesShut s t i) (map : u.imap = t.imap) : ValvesShut s u i :=
  ⟨by rw [map]; exact h.rising, fun c hc => (latchOf_of_imap map _ _).trans (h.liquid c hc),
    fun c hc => (latchOf_of_imap map _ _).trans (h.vapour c hc)⟩

/-- An ABORT up to the change of state: the valves are closed, the context emptied, the demand handed back (R78). -/
structure AbortStood (s t : State) (i : SpotId) (live : Causes) : Prop where
  spot       : ∃ g, ((s.spot i).demand ≠ .none → g = .none) ∧ t.spot i = (s.spot i).aborts live g
  valves     : ValvesShut s t i
  manifest   : t.manifest = s.manifest
  conditions : t.conditions = s.conditions
  uptime     : t.uptime = s.uptime
  table      : t.table = s.table

theorem abortStood {s : State} (hr : Rising s.imap) (i : SpotId) (live : Causes) :
    AbortStood s (s.abortStand i live) i live := by
  unfold State.abortStand
  have timers := spotSet_modSpot s i fun x => { x with pressurise := none, suspendTimer := none, pass := none, settle := none }
  have self := spot_modSpot_same s i fun x => { x with pressurise := none, suspendTimer := none, pass := none, settle := none }
  have shut := valvesShut_closeValves (s := s.modSpot i fun x => { x with
    pressurise := none, suspendTimer := none, pass := none, settle := none }) hr i
  have shut : ValvesShut s _ i := ⟨shut.rising, shut.liquid, shut.vapour⟩
  generalize s.modSpot i _ = a at *
  have closed := timers.trans ((spotSet_writeValve a .liqCmd i i .closed).trans (spotSet_writeValve _ .vapCmd i i .closed))
  have self := (spot_closeValves a i i).trans self
  change SpotSet i s (a.closeValves i) at closed
  generalize a.closeValves i = b at *
  have emptied := closed.trans ((spotSet_modSpot b i (emptyCauses live)).trans
    (spotSet_modSpot _ i fun x => { x with sub := none }))
  have shut := shut.of_imap (u := (b.modSpot i (emptyCauses live)).modSpot i fun x => { x with sub := none }) rfl
  have self : ((b.modSpot i (emptyCauses live)).modSpot i fun x => { x with sub := none }).spot i = { emptyCauses live
      { s.spot i with pressurise := none, suspendTimer := none, pass := none, settle := none } with sub := none } := by
    rw [spot_modSpot_same, spot_modSpot_same, self]
  generalize (b.modSpot i (emptyCauses live)).modSpot i _ = d at *
  have handed := shut.drive (entries_handDemand_drive shut.rising i .none)
  have beside := beside_handDemand d i .none
  have inner := inner_handDemand d i .none
  obtain ⟨g, p, hp, e, _, granted⟩ := spot_handDemand d i .none
  have outside : ¬ (d.spot i).inPass := fun inside => by
    have sub := inside.2
    rw [self] at sub
    cases sub
  refine ⟨⟨g, fun asked => ?_, ?_⟩, handed.of_imap rfl, beside.manifest.trans emptied.manifest,
    beside.conditions.trans emptied.conditions, inner.uptime.trans emptied.uptime, inner.table.trans emptied.table⟩
  · obtain ⟨a, rfl⟩ := granted (by rw [self]; exact asked)
    exact grantOf_none a
  · rw [spot_modSpot_same, e, hp outside, self]
    rfl

/-- The manifest after the end of a transfer that was never started (R54, R79). -/
theorem manifest_finishUnstarted (s : State) (i : SpotId) (o : Ending) (st : SpotState) :
    (s.finishTransfer i o st false).manifest = changeBound s.manifest i fun r => { r with
      status := .done
      endRecord := some (endRecordOf (s.standDown i) i r o .zero 0 false false) } := by
  rw [finishTransfer_eq, State.setState, manifest_modSpot, State.writeEndRecord, manifest_modSpot]
  change changeBound (s.standDown i).manifest i _ = _
  rw [manifest_standDown]
  rfl

/-- Settles O37: an active transfer goes to CLOSING with ABORTED pending; a bound car not started ends with zero figures. -/
theorem abortEndsTheTransfer : Obligations.AbortEndsTheTransfer := by
  unfold Obligations.AbortEndsTheTransfer
  refine ⟨fun s q n i h hi run active hr => ?_, fun s q n i p r h hi run state bound hrec hr => ?_⟩
  · have effect : transferRequest abortSpot [n] s = (s.abortTransfer i, ⟨.done, []⟩) := by
      rw [transferRequest_inRun hi run]
      simp only [abortSpot, active]
      rfl
    have does := does_abortTransfer (c := true) s i
    obtain ⟨t, ht, same, rep⟩ := h.effected (transferRequest abortSpot) effect does.around.calm.toPortStep
    obtain ⟨⟨g, granted, self⟩, shut, manifest, conditions, uptime, table⟩ := abortStood hr i (liveCauses s i)
    rw [abortTransfer_eq] at same does
    generalize s.abortStand i (liveCauses s i) = u at *
    have closing : ∃ w, w = (if (s.spot i).state = .closing then u
        else ((u.setState i .closing).startTravel i .vapPos .closed).announce i) ∧ SpotSet i u w ∧ w.imap = u.imap ∧
        w.spot i = { (s.spot i).aborts (liveCauses s i) g with
          state := .closing
          travel := if (s.spot i).state = .closing then (s.spot i).travel
            else some ⟨s.uptime + s.recordField i (·.travelLimit), .vapPos, .closed⟩ } := by
      refine ⟨_, rfl, ?_, ?_, ?_⟩
      all_goals split
      · exact .refl i u
      · exact (spotSet_modSpot u i _).trans ((spotSet_modSpot _ i _).trans (spotSet_announce _ i i))
      · rfl
      · exact imap_announce _ i
      · next before =>
        rw [self, ← before]
        rfl
      · rw [spot_announce, State.startTravel, spot_modSpot_same, State.setState, spot_modSpot_same, self, uptime_modSpot,
          uptime, recordField_modSpot, recordField_of_table table]
    obtain ⟨w, hw, set, map, spot⟩ := closing
    rw [← hw] at same does
    have shut := shut.of_imap map
    have state : (w.spot i).state = .closing := by rw [spot]
    have settled : (w.spot i).settled := ⟨by rw [state]; rfl, fun h => by rw [state] at h; cases h⟩
    obtain ⟨d, g', hd, hg, e⟩ := restful_endScan (s := w) (i := i) (by rw [state]; nofun) (by rw [spot]; rfl)
      (by rw [spot]; rfl) (fun inside => by rw [inside.1] at state; cases state)
    have demand : d = .none := hd.elim (fun h => h.trans (by rw [spot]; rfl)) id
    obtain ⟨scanned, cars⟩ := endScan_aside w
    have final : t.spot i = _ := (spot_of_spots same.spots i).trans (e.trans (by rw [spot, demand]))
    obtain ⟨liquid, vapour⟩ := latchOf_endScan shut.rising settled
    refine ⟨t, ht, rep, by rw [final]; rfl, by rw [final]; rfl, by rw [final]; rfl, fun asked => ?_, by rw [final]; rfl,
      by rw [final]; rfl, by rw [final]; rfl, by rw [final]; rfl, by rw [final]; rfl, by rw [final]; rfl, by rw [final]; rfl,
      by rw [final]; rfl, fun c hc => ?_, fun c hc => ?_, by rw [final]; rfl, by rw [final]; rfl, ?_, ?_,
      same.sdu.trans does.sdu⟩
    · rw [final]
      exact hg (by rw [spot]; rfl) (by rw [spot]; exact granted asked)
    · rw [latchOf_of_imap same.imap, liquid]
      exact shut.liquid c hc
    · rw [latchOf_of_imap same.imap, vapour]
      exact shut.vapour c hc
    · exact same.manifest.trans (cars.trans (set.manifest.trans manifest))
    · exact same.conditions.trans (scanned.trans (set.conditions.trans conditions))
  · have idle : s.isActive i = false := by
      rw [State.isActive]
      rcases state with h | h <;> rw [h] <;> rfl
    have effect : transferRequest abortSpot [n] s = (s.endTransfer i .aborted .complete false, ⟨.done, []⟩) := by
      rw [transferRequest_inRun hi run]
      simp only [abortSpot, idle, state]
      rfl
    have does := does_endTransfer (c := true) s i .aborted .complete false
    obtain ⟨t, ht, same, rep⟩ := h.effected (transferRequest abortSpot) effect does.around.calm.toPortStep
    have told := (onlyPort_endNotices s i .aborted .complete false).onlyMap
    have spot := (spot_of_spots same.spots i).trans ((told.spot i).trans (spot_finishTransfer s i .aborted .complete false))
    have manifest := same.manifest.trans (told.manifest.trans (manifest_finishUnstarted s i .aborted .complete))
    obtain ⟨r', hr', _, changed⟩ := recordAt_boundPosition bound
    rw [hrec] at hr'
    cases hr'
    refine ⟨t, _, ht, rep, by rw [spot]; rfl, by rw [spot, ← bound]; rfl, by rw [spot]; rfl, by rw [manifest, changed], rfl,
      rfl, rfl, rfl, rfl, rfl, rfl, rfl, ?_, fun declared => ?_, (entries_standDown hr i).carPressure hr i⟩
    · rfl
    · exact decide_eq_true (show 0 < r.declared * 900 by omega)

end Sys2Proof.Machine
end

section
/-! The expiries of the suspend, pass and settle timers (R74, R99, R100, R128 to R131). -/

namespace Sys2Proof.Machine

theorem exec_suspendTimerExpiry {s : State} {n : Nat} {i : SpotId} (on : s.powered = true) (h : spotId n = some i) :
    exec (.suspendTimerExpiry n) s = .next (s.suspendExpired i) :=
  (whenPowered_on s (fun s => s.atSpot n State.suspendExpired) on).trans (by rw [atSpot_eq h])

theorem exec_passTimerExpiry {s : State} {n : Nat} {i : SpotId} (on : s.powered = true) (h : spotId n = some i) :
    exec (.passTimerExpiry n) s = .next (s.passExpired i) :=
  (whenPowered_on s (fun s => s.atSpot n State.passExpired) on).trans (by rw [atSpot_eq h])

theorem exec_settleTimerExpiry {s : State} {n : Nat} {i : SpotId} (on : s.powered = true) (h : spotId n = some i) :
    exec (.settleTimerExpiry n) s = .next (s.settleExpired i) :=
  (whenPowered_on s (fun s => s.atSpot n State.settleExpired) on).trans (by rw [atSpot_eq h])

theorem due_at {u now : Nat} (h : u ≤ now) : due (some u) now = true := decide_eq_true h

/-! ## The suspend expiry -/

/-- The transfer as its suspend timer has expired, before the test (R99). -/
def State.suspendOver (s : State) (i : SpotId) : State :=
  (((s.modSpot i fun x => { x with suspendTimer := none }).handDemand i .none).setNoCompressor i false)

theorem suspendExpired_eq {s : State} {i : SpotId} {u : Nat} (held : (s.spot i).state = .suspended)
    (timer : (s.spot i).suspendTimer = some u) (passed : u ≤ s.uptime) :
    s.suspendExpired i = ((s.suspendOver i).causeTest i).endScan := by
  simp only [State.suspendExpired, timer, due_at passed, held, decide_true, Bool.and_self, if_true]
  rfl

/-- The context as the suspend timer has expired: the demand and its grant go, and NO_COMPRESSOR with them (R99). -/
theorem spot_suspendOver {s : State} {i : SpotId} (held : (s.spot i).state = .suspended) :
    ∃ g, ((s.spot i).demand ≠ .none → g = .none) ∧ (s.suspendOver i).spot i =
      (({ s.spot i with suspendTimer := none } : SpotContext).handed .none g (s.spot i).pass).marked false := by
  unfold State.suspendOver
  have self := spot_modSpot_same s i fun x => { x with suspendTimer := none }
  generalize s.modSpot i (fun x => { x with suspendTimer := none }) = u at *
  obtain ⟨g, p, hp, e, _, granted⟩ := spot_handDemand u i .none
  have outside : ¬ (u.spot i).inPass := inPass_of_suspended (by rw [self]; exact held)
  refine ⟨g, fun asked => ?_, ?_⟩
  · obtain ⟨a, rfl⟩ := granted (by rw [self]; exact asked)
    exact grantOf_none a
  · rw [spot_setNoCompressor, e, hp outside, self]

theorem waitList_actAll (s before : State) : (s.actAll before).waitList = s.waitList := by
  unfold State.actAll
  generalize allComps = l
  induction l generalizing s with
  | nil => rfl
  | cons d l ih => exact (ih _).trans (drives_actOn s d _).waitList

theorem waitList_place_none {s : State} {i : SpotId} (demand : (s.spot i).demand = .none)
    (h : i ∉ s.waitList ∨ s.attachedTo i = none) : i ∉ (s.place i).waitList := by
  unfold State.place
  simp only [demand]
  split
  · next c attached =>
    rcases h with absent | free
    · exact absent
    · rw [attached] at free
      cases free
  · split
    · simp [State.leaveList, Demand.flows]
    · next absent => simpa [Demand.flows] using absent

/-- Handing back a demand puts no spot on the wait list, and takes a waiting spot off it (R146). -/
theorem waitList_handDemand_none {s : State} {i : SpotId}
    (h : i ∉ s.waitList ∨ (i ∈ s.waitList ∧ s.attachedTo i = none ∧ (s.spot i).demand.flows = true)) :
    i ∉ (s.handDemand i .none).waitList := by
  unfold State.handDemand
  split
  · next same =>
    rcases h with absent | ⟨_, _, asks⟩
    · exact absent
    · rw [same] at asks
      cases asks
  · simp only
    rw [State.takeGrant, waitList_syncPass, waitList_modSpot, waitList_actAll]
    exact waitList_place_none (by rw [spot_modSpot_same]) (h.imp id fun ⟨_, free, _⟩ => free)

theorem waitList_suspendOver {s : State} {i : SpotId}
    (h : i ∉ s.waitList ∨ (i ∈ s.waitList ∧ s.attachedTo i = none ∧ (s.spot i).demand.flows = true)) :
    i ∉ (s.suspendOver i).waitList :=
  waitList_handDemand_none (s := s.modSpot i fun x => { x with suspendTimer := none }) (by
    rw [spot_modSpot_same]
    exact h)

theorem beside_suspendOver (s : State) (i : SpotId) : Beside i s (s.suspendOver i) :=
  ((beside_modSpot s i _).trans (beside_handDemand _ i .none)).trans (beside_setNoCompressor _ i false)

/-- Settles O43: the place goes with the timer; another cause holds the transfer, and without one it returns. -/
theorem suspendExpiryReleases : Obligations.SuspendExpiryReleases := by
  unfold Obligations.SuspendExpiryReleases
  refine ⟨fun s n i u on hi held timer passed kept placed => ⟨_, exec_suspendTimerExpiry on hi, ?_⟩,
    fun s n i u v on hi held timer passed saved clean => ⟨_, exec_suspendTimerExpiry on hi, ?_⟩,
    fun s n i on hi later => ?_⟩
  · have sdu := (does_suspendExpired (c := true) s i).sdu
    rw [suspendExpired_eq held timer passed] at sdu ⊢
    obtain ⟨g, granted, self⟩ := spot_suspendOver held
    have absent := waitList_suspendOver placed
    have beside := beside_suspendOver s i
    generalize s.suspendOver i = w at *
    have state : (w.spot i).state = .suspended := by rw [self]; exact held
    have any : (w.spot i).causes.any = true := by rw [self]; exact kept
    have saves : savedOf (w.spot i).state (w.spot i).sub = none := by rw [state]; rfl
    have test : w.causeTest i = w := by rw [State.causeTest, any, saves]; rfl
    rw [test] at sdu ⊢
    rw [spot_endScan_of_not_waiting absent (inPass_of_suspended state), self, (endScan_aside w).2]
    exact ⟨held, rfl, rfl, rfl, granted, rfl, beside.manifest, sdu⟩
  · have sdu := (does_suspendExpired (c := true) s i).sdu
    rw [suspendExpired_eq held timer passed] at sdu ⊢
    obtain ⟨g, _, self⟩ := spot_suspendOver held
    have beside := (beside_suspendOver s i).trans (beside_causeTest _ i)
    have returning := returning_endScan (returning_causeTest (v := v) (s := s.suspendOver i) (i := i)
      (by rw [self]; exact held) (by rw [self]; exact saved) (by rw [self]; exact clean))
    obtain ⟨_, place⟩ := returning
    exact ⟨place.imp (fun ⟨state, _, saved, timer⟩ => ⟨state, saved, timer⟩) id,
      (endScan_aside _).2.trans beside.manifest, sdu⟩
  · rw [exec_suspendTimerExpiry on hi]
    simp only [State.suspendExpired, not_due later]
    rfl

/-! ## The pass expiry -/

/-- A context whose settle timer runs. -/
def SpotContext.settles (x : SpotContext) (deadline : Nat) : SpotContext := { x with settle := some deadline }

/-- A pass ends: it is counted, the demand goes and the car settles (R129). -/
theorem spot_endPass (s : State) (i : SpotId) : ∃ g, ((s.spot i).demand ≠ .none → g = .none) ∧
    (s.endPass i).spot i = (({ s.spot i with
      pass := none, passCount := (s.spot i).passCount + 1, sub := some .settle } : SpotContext).handed .none g none).settles
        (s.uptime + s.recordField i (·.settleTime)) := by
  unfold State.endPass
  have set := spotSet_modSpot s i fun x => { x with pass := none, passCount := x.passCount + 1, sub := some .settle }
  have self := spot_modSpot_same s i fun x => { x with pass := none, passCount := x.passCount + 1, sub := some .settle }
  simp only
  generalize s.modSpot i _ = u at *
  obtain ⟨g, p, hp, e, _, granted⟩ := spot_handDemand u i .none
  have inner := inner_handDemand u i .none
  have outside : ¬ (u.spot i).inPass := fun inside => by
    have sub := inside.2
    rw [self] at sub
    cases sub
  refine ⟨g, fun asked => ?_, ?_⟩
  · obtain ⟨a, rfl⟩ := granted (by rw [self]; exact asked)
    exact grantOf_none a
  · rw [State.startSettle, spot_modSpot_same, e, hp outside, self, inner.uptime, set.uptime,
      recordField_of_table (inner.table.trans set.table)]
    rfl

theorem beside_endPass (s : State) (i : SpotId) : Beside i s (s.endPass i) := by
  unfold State.endPass State.startSettle
  exact ((beside_modSpot s i _).trans (beside_handDemand _ i .none)).trans (beside_modSpot _ i _)

/-! ## The settle expiry -/

/-- A spot that saves no state and is not SUSPENDED keeps all but demand, grant, pass timer and NO_COMPRESSOR through the scan. -/
theorem stays_endScan {s : State} {i : SpotId} (runs : (s.spot i).state ≠ .suspended)
    (saves : savedOf (s.spot i).state (s.spot i).sub = none) :
    ∃ d g b p, s.endScan.spot i = ((s.spot i).handed d g p).marked b := by
  refine spot_endScan_of_told (P := fun y => ∃ d g b p, y = ((s.spot i).handed d g p).marked b)
    (fun y p _ ⟨d, g, b, _, e⟩ => ⟨d, g, b, p, by rw [e]; rfl⟩)
    (fun y a p _ ⟨d, g, b, _, e⟩ => ⟨d, grantOf a y.demand, b, p, by rw [e]; rfl⟩)
    (fun a y z _ told ⟨d, g, b, p, e⟩ => ?_)
    ⟨(s.spot i).demand, (s.spot i).grant, (s.spot i).causes.noCompressor, (s.spot i).pass, rfl⟩
  have runs' : y.state ≠ .suspended := by rw [e]; exact runs
  cases told with
  | stands same => exact ⟨d, g, b, p, by rw [same, e]⟩
  | clears _ same => exact ⟨d, g, false, p, by rw [same, e]; rfl⟩
  | holds held => exact absurd held runs'
  | attempts held => exact absurd held runs'
  | waits _ _ same => exact ⟨d, g, true, p, by rw [same, e]; rfl⟩
  | suspends _ v some =>
    have none : savedOf y.state y.sub = none := by rw [e]; exact saves
    rw [none] at some
    cases some
  | drops _ q _ same => exact ⟨.none, .none, b, q, by rw [same, e]; rfl⟩

/-- A pass that has begun: the spot recovers with its demand, or is SUSPENDED with the pass saved (R130). -/
structure PassBegun (n : Nat) (x : SpotContext) : Prop where
  settle : x.settle = none
  count  : x.passCount = n
  place  : (x.state = .recovery ∧ x.sub = some .pass ∧ x.demand = .recover) ∨
    (x.state = .suspended ∧ x.saved = some (.recovery .pass))

theorem Returned.passBegun {n : Nat} {x y : SpotContext} (h : Returned x y (.recovery .pass)) (settle : x.settle = none)
    (count : x.passCount = n) (demand : x.demand = .recover) : PassBegun n y := by
  obtain ⟨same, settled⟩ := h
  refine ⟨(settled nofun).trans settle, by rw [same]; exact count, .inl ?_⟩
  rw [same]
  exact ⟨rfl, rfl, demand⟩

theorem PassBegun.told {n : Nat} {a : Answer} {x y : SpotContext} (h : PassBegun n x) (t : Told a x y) : PassBegun n y := by
  obtain ⟨settle, count, place⟩ := h
  have suspended : x.state = .suspended → x.saved = some (.recovery .pass) := fun held => by
    rcases place with ⟨state, _⟩ | ⟨_, saved⟩
    · rw [held] at state
      cases state
    · exact saved
  cases t with
  | stands same => rw [same]; exact ⟨settle, count, place⟩
  | clears _ same => rw [same]; exact ⟨settle, count, place⟩
  | holds held _ d g _ same => rw [same]; exact ⟨settle, count, .inr ⟨held, suspended held⟩⟩
  | attempts held _ v saved attempt =>
    have same : some (Saved.recovery .pass) = some v := (suspended held).symm.trans saved
    cases same
    cases attempt with
    | free none => cases none
    | back c back => exact back.passBegun settle count rfl
    | waits g _ same => rw [same]; exact ⟨settle, count, .inr ⟨held, saved⟩⟩
  | waits _ _ same => rw [same]; exact ⟨settle, count, place⟩
  | suspends _ v saves d g timer same =>
    rcases place with ⟨state, sub, _⟩ | ⟨held, _⟩
    · rw [state, sub] at saves
      cases saves
      rw [same]
      exact ⟨rfl, count, .inr ⟨rfl, rfl⟩⟩
    · rw [held] at saves
      cases saves
  | drops hold p _ same =>
    rcases place with ⟨_, _, demand⟩ | held
    · rw [hold] at demand
      cases demand
    · rw [same]
      exact ⟨settle, count, .inr held⟩

theorem passBegun_endScan {n : Nat} {s : State} {i : SpotId} (h : PassBegun n (s.spot i)) : PassBegun n (s.endScan.spot i) :=
  spot_endScan_of_told (P := PassBegun n) (fun _ _ _ ⟨settle, count, place⟩ => ⟨settle, count, place⟩)
    (fun _ _ _ _ ⟨settle, count, place⟩ => ⟨settle, count, place⟩) (fun _ _ _ _ told h => h.told told) h

theorem passBegun_beginPass {s : State} {i : SpotId} (state : (s.spot i).state = .recovery) :
    PassBegun (s.spot i).passCount ((s.beginPass i).spot i) := by
  unfold State.beginPass
  have self := spot_modSpot_same s i fun x => { x with settle := none, sub := some .pass }
  simp only
  generalize s.modSpot i _ = u at *
  obtain ⟨g, p, e⟩ := spot_handDemand_handed u i .recover
  generalize u.handDemand i .recover = v at *
  obtain ⟨q, _, told⟩ := told_takeReport v i
  refine PassBegun.told ?_ told
  rw [e, self]
  exact ⟨rfl, rfl, .inl ⟨state, rfl, rfl⟩⟩

theorem beside_beginPass (s : State) (i : SpotId) : Beside i s (s.beginPass i) :=
  ((beside_modSpot s i _).trans (beside_handDemand _ i .recover)).trans (beside_takeReport _ i)

/-- The context as recovery ends (R74, R131). -/
def SpotContext.recovered (x : SpotContext) (settled : Bool) (deadline : Nat) : SpotContext :=
  { x with
    settle := none, sub := none, heel := !settled, pendingOutcome := some (recoveryOutcome settled x.stopMark)
    state := .closing, travel := some ⟨deadline, .vapPos, .closed⟩ }

theorem spot_endRecovery (s : State) (i : SpotId) (b : Bool) : SpotSet i s (s.endRecovery i b) ∧
    (s.endRecovery i b).spot i = (s.spot i).recovered b (s.uptime + s.recordField i (·.travelLimit)) := by
  unfold State.endRecovery
  simp only
  have decided := spotSet_modSpot s i fun x => { x with
    settle := none, sub := none, heel := !b, pendingOutcome := some (recoveryOutcome b x.stopMark) }
  have self := spot_modSpot_same s i fun x => { x with
    settle := none, sub := none, heel := !b, pendingOutcome := some (recoveryOutcome b x.stopMark) }
  generalize s.modSpot i _ = u at *
  have closed := decided.trans (spotSet_writeValve u .vapCmd i i .closed)
  have self := (spot_writeValve u .vapCmd i i .closed).trans self
  generalize u.writeValve .vapCmd i .closed = v at *
  refine ⟨closed.trans ((spotSet_modSpot v i _).trans ((spotSet_modSpot _ i _).trans (spotSet_announce _ i i))), ?_⟩
  rw [spot_announce, State.startTravel, spot_modSpot_same, State.setState, spot_modSpot_same, self, uptime_modSpot,
    closed.uptime, recordField_modSpot, closed.recordField]
  rfl

theorem passExpired_eq {s : State} {i : SpotId} {u : Nat} (state : (s.spot i).state = .recovery)
    (timer : (s.spot i).pass = some u) (passed : u ≤ s.uptime) : s.passExpired i = (s.endPass i).endScan := by
  simp only [State.passExpired, timer, due_at passed, state, decide_true, Bool.and_self, if_true]

theorem settleExpired_eq {s : State} {i : SpotId} {u : Nat} {p : Int} {r : CarRecord} (state : (s.spot i).state = .recovery)
    (timer : (s.spot i).settle = some u) (passed : u ≤ s.uptime) (pressure : s.carPressure i = some p)
    (bound : s.boundRecord i = some r) : s.settleExpired i =
      (if p ≤ (r.residual : Int) + (s.recordField i (·.rebound) : Int) then s.endRecovery i true
        else if (s.spot i).passCount < 4 then s.beginPass i else s.endRecovery i false).endScan := by
  simp only [State.settleExpired, timer, due_at passed, state, decide_true, Bool.and_self, if_true, State.settleTest,
    pressure, bound]
  rfl

/-- Settles O44: a pass ends in SETTLE; the settle expiry ends recovery or begins a pass. -/
theorem recoveryExpiriesDecide : Obligations.RecoveryExpiriesDecide := by
  unfold Obligations.RecoveryExpiriesDecide
  refine ⟨fun s n i u on hi state timer passed => ⟨_, exec_passTimerExpiry on hi, ?_⟩,
    fun s n i u p r on hi state timer passed pressure bound => ?_, fun s n i on hi => ⟨fun later => ?_, fun later => ?_⟩⟩
  · have sdu := (does_passExpired (c := true) s i).sdu
    rw [passExpired_eq state timer passed] at sdu ⊢
    obtain ⟨g, granted, self⟩ := spot_endPass s i
    have beside := beside_endPass s i
    generalize s.endPass i = w at *
    have outside : ¬ (w.spot i).inPass := fun inside => by
      have sub := inside.2
      rw [self] at sub
      cases sub
    obtain ⟨d, g', b, q, hd, hq, _, hg, e⟩ := quiet_endScan (s := w) (j := i) (by rw [self]; exact state ▸ nofun)
      (by rw [self]; rfl)
    have demand : d = .none := hd.elim (fun h => h.trans (by rw [self]; rfl)) id
    have unfilled : q = none := (hq outside).trans (by rw [self]; rfl)
    rw [self] at e hg
    rw [e]
    exact ⟨state, rfl, rfl, unfilled, rfl, demand, fun asked => hg rfl (granted asked),
      (endScan_aside w).2.trans beside.manifest, sdu⟩
  · have sdu := (does_settleExpired (c := true) s i).sdu
    have expired := settleExpired_eq state timer passed pressure bound
    have ended : ∀ b, s.settleExpired i = (s.endRecovery i b).endScan → ∃ t, exec (.settleTimerExpiry n) s = .next t ∧
        (t.spot i).state = .closing ∧ (t.spot i).sub = none ∧ (t.spot i).settle = none ∧ (t.spot i).heel = !b ∧
        (t.spot i).passCount = (s.spot i).passCount ∧
        (t.spot i).pendingOutcome = some (recoveryOutcome b (s.spot i).stopMark) ∧
        (t.spot i).travel = some ⟨s.uptime + s.recordField i (·.travelLimit), .vapPos, .closed⟩ ∧
        t.manifest = s.manifest ∧ t.sdu = s.sdu := by
      intro b hb
      rw [hb] at sdu
      obtain ⟨set, self⟩ := spot_endRecovery s i b
      obtain ⟨d, g, m, q, e⟩ := stays_endScan (s := s.endRecovery i b) (i := i) (by rw [self]; nofun) (by rw [self]; rfl)
      rw [self] at e
      refine ⟨_, (exec_settleTimerExpiry on hi).trans (by rw [hb]), ?_⟩
      rw [e]
      exact ⟨rfl, rfl, rfl, rfl, rfl, rfl, rfl, (endScan_aside _).2.trans set.manifest, sdu⟩
    simp only
    refine ⟨fun finished => ?_, fun early few => ?_⟩
    · by_cases low : p ≤ (r.residual : Int) + (s.recordField i (·.rebound) : Int)
      · rw [if_pos low] at expired
        rw [decide_eq_true low]
        exact ended true expired
      · have many : ¬ (s.spot i).passCount < 4 :=
          Nat.not_lt.mpr (finished.resolve_left fun h => low (of_decide_eq_true h))
        rw [if_neg low, if_neg many] at expired
        rw [decide_eq_false low]
        exact ended false expired
    · rw [if_neg (of_decide_eq_false early), if_pos few] at expired
      rw [expired] at sdu
      obtain ⟨settle, count, place⟩ := passBegun_endScan (passBegun_beginPass state)
      refine ⟨_, (exec_settleTimerExpiry on hi).trans (by rw [expired]), settle, count, place,
        (endScan_aside _).2.trans (beside_beginPass s i).manifest, sdu⟩
  · rw [exec_passTimerExpiry on hi]
    simp only [State.passExpired, not_due later]
    rfl
  · rw [exec_settleTimerExpiry on hi]
    simp only [State.settleExpired, not_due later]
    rfl

end Sys2Proof.Machine
end

section
/-! What the Coordinator's operations make of a compressor: its level, its timers and its marks (R141, R142, R149, R151); and the
expiries of its timers (R139, R149, R151, R152). -/

namespace Sys2Proof.Machine

/-! ## The compressor after each operation -/

theorem comp_writeComp (s : State) (r : Role) (c : CompId) (cmd : Command) (d : CompId) :
    (s.writeComp r c cmd).comp d = s.comp d :=
  (onlyMap_writeLatch s r (compNumber c) cmd).comp d

theorem compField_congr {s t : State} {c : CompId} (record : (t.comp c).record = (s.comp c).record) (f : CompRecord → Nat) :
    t.compField c f = s.compField c f := by
  rw [State.compField, State.compField, record]

theorem comp_startConfirmation (s : State) (c : CompId) (a : CompReading) : (s.startConfirmation c a).comp c =
    { s.comp c with confirm := some ⟨s.uptime + s.compField c (·.startTimeout), a⟩ } := comp_modComp_same s c _

theorem comp_startPopdown (s : State) (c : CompId) : (s.startPopdown c).comp c =
    { s.comp c with popdown := some (s.uptime + s.compField c (·.popdown)) } := comp_modComp_same s c _

theorem comp_clearIdle (s : State) (c : CompId) : (s.clearIdle c).comp c = { s.comp c with popdown := none, held := false } :=
  comp_modComp_same s c _

theorem comp_setLevel_same (s : State) (c : CompId) (l : Level) : (s.setLevel c l).comp c = { s.comp c with level := l } := by
  rw [comp_setLevel, if_pos rfl]

/-- A confirmation awaited behind a latch written and a level changed (R151). -/
theorem comp_awaits (s : State) (r : Role) (c : CompId) (cmd : Command) (l : Level) (a : CompReading) :
    (((s.writeComp r c cmd).setLevel c l).startConfirmation c a).comp c =
      { s.comp c with level := l, confirm := some ⟨s.uptime + s.compField c (·.startTimeout), a⟩ } := by
  have level : ((s.writeComp r c cmd).setLevel c l).comp c = { s.comp c with level := l } := by
    rw [comp_setLevel_same, comp_writeComp]
  rw [comp_startConfirmation, level, (inner_setLevel _ _ _).uptime, (inner_writeComp _ _ _ _).uptime,
    compField_congr (s := s) (by rw [level])]

theorem comp_stopCompressor (s : State) (c : CompId) : (s.stopCompressor c).comp c =
    { s.comp c with level := .stopping, confirm := some ⟨s.uptime + s.compField c (·.startTimeout), .stopped⟩ } :=
  comp_awaits s _ c _ _ _

theorem comp_reverseTo (s : State) (c : CompId) (cmd : Command) (a : CompReading) : (s.reverseTo c cmd a).comp c =
    { s.comp c with level := .reversing, confirm := some ⟨s.uptime + s.compField c (·.startTimeout), a⟩ } :=
  comp_awaits s _ c _ _ _

/-- A compressor that has been started (R142). -/
def State.started (s : State) (c : CompId) : Compressor :=
  { s.comp c with
    level := .starting, history := (s.comp c).history ++ [s.uptime], deferred := false
    confirm := some ⟨s.uptime + s.compField c (·.startTimeout), awaitedRunning (s.startDirection c)⟩ }

theorem comp_startDecision_few {s : State} {c : CompId} (few : (s.comp c).history.length < s.compField c (·.startLimit)) :
    (s.startDecision c).comp c = s.started c := by
  rw [State.startDecision, if_pos few]
  simp only
  have base : ∀ u : State, u.comp c = s.comp c → u.uptime = s.uptime →
      ((((u.writeComp .compRun c .run).modComp c fun x =>
        { x with history := x.history ++ [(u.writeComp .compRun c .run).uptime], deferred := false }).setLevel c
          .starting).startConfirmation c (awaitedRunning (s.startDirection c))).comp c = s.started c := by
    intro u comp uptime
    have now := (inner_writeComp u .compRun c .run).uptime.trans uptime
    have level := (comp_setLevel_same ((u.writeComp .compRun c .run).modComp c fun x =>
      { x with history := x.history ++ [(u.writeComp .compRun c .run).uptime], deferred := false }) c .starting)
    rw [comp_modComp_same, comp_writeComp, comp, now] at level
    rw [comp_startConfirmation, now, level, (inner_setLevel _ _ _).uptime, uptime_modComp, now,
      compField_congr (s := s) (by rw [level])]
    rfl
  split
  · exact base _ (comp_writeComp _ _ _ _ _) (inner_writeComp _ _ _ _).uptime
  · exact base s rfl rfl

theorem comp_startDecision_full {s : State} {c : CompId} (full : s.historyFull c = true) :
    (s.startDecision c).comp c = { s.comp c with deferred := true } := by
  rw [startDecision_full full, comp_modComp_same]

/-! ## Compressors that answers leave as they are -/

theorem Beside.fold_history {s : State} {c : CompId} (l : List SpotId) :
    (s.comp c).history <+: ((l.foldl State.takeReport s).comp c).history := by
  induction l generalizing s with
  | nil => exact List.prefix_refl _
  | cons i l ih => exact ((beside_takeReport s i).history c).trans ih

theorem history_endScan (s : State) (c : CompId) : (s.comp c).history <+: (s.endScan.comp c).history :=
  endScan_keeps (P := fun t => (s.comp c).history <+: (t.comp c).history)
    (fun _ _ _ _ taken h => h.trans ((beside_grant taken).history c)) (List.prefix_refl _)

/-- Answers leave a compressor that follows no demand, but for its spots. -/
theorem deaf_reports {s : State} {c : CompId} (deaf : (s.comp c).level.deaf = true) (l : List SpotId) :
    ∃ a, (l.foldl State.takeReport s).comp c = { s.comp c with attached := a } := by
  induction l generalizing s with
  | nil => exact ⟨_, rfl⟩
  | cons i l ih =>
    have first := (beside_takeReport s i).deaf c deaf
    obtain ⟨a, rest⟩ := ih (s := s.takeReport i) (by rw [first]; exact deaf)
    exact ⟨a, by rw [List.foldl_cons, rest, first]⟩

/-- The scan leaves a compressor that follows no demand, but for its spots. -/
theorem deaf_endScan {s : State} {c : CompId} (deaf : (s.comp c).level.deaf = true) :
    ∃ a, s.endScan.comp c = { s.comp c with attached := a } := by
  refine endScan_keeps (P := fun t => ∃ a, t.comp c = { s.comp c with attached := a }) (fun u i d _ taken ⟨a, same⟩ => ?_)
    ⟨_, rfl⟩
  exact ⟨_, ((beside_grant taken).deaf c (by rw [same]; exact deaf)).trans (by rw [same])⟩

theorem manifest_reports (l : List SpotId) (s : State) : (l.foldl State.takeReport s).manifest = s.manifest := by
  induction l generalizing s with
  | nil => rfl
  | cons i l ih => exact (ih _).trans (beside_takeReport s i).manifest

theorem manifest_joins (l : List SpotId) (s : State) : (l.foldl State.joinList s).manifest = s.manifest := by
  induction l generalizing s with
  | nil => rfl
  | cons i l ih => exact (ih _).trans (beside_joinList s i).manifest

theorem manifest_downMark (s : State) (c : CompId) : (s.downMark c).manifest = s.manifest := by
  rw [State.downMark, manifest_joins]
  exact (aside_writeComp _ _ _ _).manifest

theorem manifest_enterUnavailable (s : State) (c : CompId) : (s.enterUnavailable c).manifest = s.manifest := by
  rw [enterUnavailable_eq, manifest_reports, manifest_downMark]

theorem manifest_startDecision (s : State) (c : CompId) : (s.startDecision c).manifest = s.manifest :=
  (aside_startDecision s c).manifest

theorem manifest_stopCompressor (s : State) (c : CompId) : (s.stopCompressor c).manifest = s.manifest :=
  (aside_stopCompressor s c).manifest

/-! ## The expiries -/

theorem exec_confirmationTimerExpiry {s : State} {n : Nat} {c : CompId} (on : s.powered = true) (h : compId n = some c) :
    exec (.confirmationTimerExpiry n) s = .next (s.confirmationExpired c) :=
  (whenPowered_on s (fun s => s.atComp n State.confirmationExpired) on).trans (by rw [State.atComp, h])

theorem exec_popdownTimerExpiry {s : State} {n : Nat} {c : CompId} (on : s.powered = true) (h : compId n = some c) :
    exec (.popdownTimerExpiry n) s = .next (s.popdownDue c) :=
  (whenPowered_on s (fun s => s.atComp n State.popdownDue) on).trans (by rw [State.atComp, h])

theorem exec_startHistoryRemoval {s : State} {n : Nat} {c : CompId} (on : s.powered = true) (h : compId n = some c) :
    exec (.startHistoryRemoval n) s = .next (s.startAged c) :=
  (whenPowered_on s (fun s => s.atComp n State.startAged) on).trans (by rw [State.atComp, h])

/-- The compressor as its popdown timer has expired: held at the start limit, or stopped (R149). -/
theorem comp_popdownExpired (s : State) (c : CompId) : (s.popdownExpired c).comp c =
    if s.historyFull c then { s.comp c with popdown := none, held := true }
    else { s.comp c with
      popdown := none, level := .stopping, confirm := some ⟨s.uptime + s.compField c (·.startTimeout), .stopped⟩ } := by
  unfold State.popdownExpired
  have comp := comp_modComp_same s c fun x => { x with popdown := none }
  simp only
  rw [historyFull_congr (s := s) (by rw [comp]) (by rw [comp])]
  split
  · rw [comp_modComp_same, comp]
  · rw [comp_stopCompressor, comp, uptime_modComp, compField_congr (s := s) (by rw [comp])]

theorem drives_popdownExpired (s : State) (c : CompId) : Drives c s (s.popdownExpired c) := by
  unfold State.popdownExpired
  simp only
  refine (drives_modComp s c (fun x => { x with popdown := none }) rfl).trans ?_
  split
  · exact drives_modComp _ c _ rfl
  · exact drives_stopCompressor _ c

theorem manifest_popdownExpired (s : State) (c : CompId) : (s.popdownExpired c).manifest = s.manifest := by
  unfold State.popdownExpired
  simp only
  split
  · rfl
  · exact manifest_stopCompressor _ c

/-- The part with the oldest start of a compressor forgotten (R152). -/
def State.forgetStart (s : State) (c : CompId) : State := s.modComp c fun x => { x with history := x.history.drop 1 }

theorem comp_forgetStart (s : State) (c : CompId) :
    (s.forgetStart c).comp c = { s.comp c with history := (s.comp c).history.drop 1 } := comp_modComp_same s c _

theorem removeStart_deferred {s : State} {c : CompId} (deferred : (s.comp c).deferred = true) :
    s.removeStart c = ((s.forgetStart c).startDecision c).reportAttached c := by
  have mark : ((s.forgetStart c).comp c).deferred = true := by rw [comp_forgetStart]; exact deferred
  exact if_pos mark

theorem removeStart_held {s : State} {c : CompId} (started : (s.comp c).deferred = false) (held : (s.comp c).held = true)
    (few : ((s.comp c).history.drop 1).length < s.compField c (·.startLimit)) :
    s.removeStart c = ((s.forgetStart c).modComp c fun x => { x with held := false }).stopCompressor c := by
  have mark : ¬ ((s.forgetStart c).comp c).deferred = true := by rw [comp_forgetStart, started]; decide
  have open_ : (((s.forgetStart c).comp c).held && !(s.forgetStart c).historyFull c) = true := by
    rw [State.historyFull, compField_congr (s := s) (by rw [comp_forgetStart]), comp_forgetStart, held]
    simpa using few
  exact (if_neg mark).trans (if_pos open_)

/-- A start leaves the history: what follows it stays, and the compressor acts alone but for its spots. -/
theorem removeStart_cases (s : State) (c : CompId) :
    ((s.comp c).deferred = true ∧ s.removeStart c = ((s.forgetStart c).startDecision c).reportAttached c) ∨
    ((s.comp c).deferred = false ∧ s.removeStart c =
      ((s.forgetStart c).modComp c fun x => { x with held := false }).stopCompressor c) ∨
    ((s.comp c).deferred = false ∧ s.removeStart c = s.forgetStart c) := by
  cases mark : (s.comp c).deferred with
  | true => exact .inl ⟨rfl, removeStart_deferred mark⟩
  | false =>
    have mark' : ¬ ((s.forgetStart c).comp c).deferred = true := by rw [comp_forgetStart, mark]; decide
    have rest : s.removeStart c = if ((s.forgetStart c).comp c).held && !(s.forgetStart c).historyFull c then
        ((s.forgetStart c).modComp c fun x => { x with held := false }).stopCompressor c else s.forgetStart c := if_neg mark'
    rw [rest]
    split
    · exact .inr (.inl ⟨rfl, rfl⟩)
    · exact .inr (.inr ⟨rfl, rfl⟩)

theorem history_removeStart (s : State) (c : CompId) :
    (s.comp c).history.drop 1 <+: ((s.removeStart c).comp c).history ∧
      ((s.comp c).deferred = false → ((s.removeStart c).comp c).history = (s.comp c).history.drop 1) := by
  have forgot : ((s.forgetStart c).comp c).history = (s.comp c).history.drop 1 := by rw [comp_forgetStart]
  rcases removeStart_cases s c with ⟨mark, e⟩ | ⟨_, e⟩ | ⟨_, e⟩ <;> rw [e]
  · refine ⟨?_, fun started => absurd (mark.symm.trans started) (by decide)⟩
    have started := (drives_startDecision (s.forgetStart c) c).history
    rw [forgot] at started
    exact started.trans (Beside.fold_history _)
  · rw [comp_stopCompressor, comp_modComp_same, comp_forgetStart]
    exact ⟨List.prefix_refl _, fun _ => rfl⟩
  · rw [forgot]
    exact ⟨List.prefix_refl _, fun _ => rfl⟩

theorem manifest_removeStart (s : State) (c : CompId) : (s.removeStart c).manifest = s.manifest := by
  rcases removeStart_cases s c with ⟨_, e⟩ | ⟨_, e⟩ | ⟨_, e⟩ <;> rw [e]
  · exact (manifest_reports _ _).trans (manifest_startDecision _ c)
  · exact manifest_stopCompressor _ c
  · rfl

theorem endScan_empty {s : State} (h : s.waitList = []) : s.endScan = s := by
  rw [State.endScan, h]
  rfl

theorem waitList_removeStart {s : State} {c : CompId} (started : (s.comp c).deferred = false) :
    (s.removeStart c).waitList = s.waitList := by
  rcases removeStart_cases s c with ⟨mark, _⟩ | ⟨_, e⟩ | ⟨_, e⟩
  · rw [started] at mark
    cases mark
  · rw [e, (drives_stopCompressor _ c).waitList]
    rfl
  · rw [e]
    rfl

/-- Settles O45: a confirmation that fails takes the compressor down; a popdown stops or holds it; an aged start is forgotten and
the compressor tested again. -/
theorem compressorExpiriesAct : Obligations.CompressorExpiriesAct := by
  unfold Obligations.CompressorExpiriesAct
  refine ⟨fun s n c x on hc timer passed => ⟨_, exec_confirmationTimerExpiry on hc, ?_⟩,
    fun s n c u on hc timer passed => ⟨_, exec_popdownTimerExpiry on hc, ?_⟩,
    fun s n c u later on hc past passed => ⟨_, exec_startHistoryRemoval on hc, ?_⟩,
    fun s n c on hc => ⟨fun h => ?_, fun h => ?_, fun h => ?_⟩⟩
  · have sdu := (does_confirmationExpired (c := true) s c).sdu
    rw [State.confirmationExpired, timer, Option.map_some, due_at passed, if_pos rfl] at sdu ⊢
    have down := comp_enterUnavailable s c
    rw [comp_endScan_down (by rw [down]; rfl) (by rw [down]; rfl), down]
    exact ⟨rfl, rfl, rfl, rfl, rfl, rfl, rfl, rfl, (endScan_aside _).2.trans (manifest_enterUnavailable s c), sdu⟩
  · have sdu := (does_popdownDue (c := true) s c).sdu
    rw [State.popdownDue, timer, due_at passed, if_pos rfl] at sdu ⊢
    have others := (drives_popdownExpired s c).others
    refine ⟨?_, ?_, ?_, fun few => ?_, fun full => ?_, others, manifest_popdownExpired s c, sdu⟩
    · rw [comp_popdownExpired]
      split <;> rfl
    · rw [comp_popdownExpired]
      split <;> rfl
    · rw [comp_popdownExpired]
      split <;> rfl
    · rw [comp_popdownExpired, if_neg (by simpa [State.historyFull] using few)]
      exact ⟨rfl, rfl, rfl⟩
    · rw [comp_popdownExpired, if_pos (by simpa [State.historyFull] using full)]
      exact ⟨rfl, rfl, rfl⟩
  · have sdu := (does_startAged (c := true) s c).sdu
    rw [State.startAged, past, List.head?_cons, Option.map_some, show Config.historyAge = 3600 from rfl, due_at passed,
      if_pos rfl] at sdu ⊢
    obtain ⟨kept, same⟩ := history_removeStart s c
    rw [past] at kept same
    refine ⟨kept.trans (history_endScan _ c), fun started alone => ?_, fun deferred few => ?_, fun started held few => ?_,
      (endScan_aside _).2.trans (manifest_removeStart s c), sdu⟩
    · rw [endScan_empty ((waitList_removeStart started).trans alone)]
      exact same started
    · have forgot : (s.forgetStart c).comp c = { s.comp c with history := later } := by
        rw [comp_forgetStart, past]
        rfl
      have few' : ((s.forgetStart c).comp c).history.length < (s.forgetStart c).compField c (·.startLimit) := by
        rw [compField_congr (s := s) (by rw [forgot]), forgot]
        exact few
      have starts := comp_startDecision_few few'
      rw [removeStart_deferred deferred]
      obtain ⟨a, told⟩ := deaf_reports (s := (s.forgetStart c).startDecision c) (c := c) (by rw [starts]; rfl)
        (((s.forgetStart c).startDecision c).comp c).attached
      have told' : (((s.forgetStart c).startDecision c).reportAttached c).comp c =
          { ((s.forgetStart c).startDecision c).comp c with attached := a } := told
      obtain ⟨b, scanned⟩ := deaf_endScan (s := ((s.forgetStart c).startDecision c).reportAttached c) (c := c)
        (by rw [told', starts]; rfl)
      rw [scanned, told', starts, State.started, forgot]
      exact ⟨rfl, rfl, rfl⟩
    · rw [removeStart_held started held (by rw [past]; exact few)]
      have stopped := comp_stopCompressor ((s.forgetStart c).modComp c fun x => { x with held := false }) c
      obtain ⟨a, scanned⟩ := deaf_endScan (s := ((s.forgetStart c).modComp c fun x => { x with held := false }).stopCompressor c)
        (c := c) (by rw [stopped]; rfl)
      have record : ((s.forgetStart c).modComp c fun x => { x with held := false }).compField c (·.startTimeout) =
          s.compField c (·.startTimeout) := compField_congr (by rw [comp_modComp_same, comp_forgetStart]) _
      rw [scanned, stopped, comp_modComp_same, record]
      exact ⟨rfl, rfl, rfl⟩
  · rw [exec_confirmationTimerExpiry on hc, State.confirmationExpired, not_due ?_, if_neg (by decide)]
    exact h.imp (fun e => by rw [e]; rfl) fun ⟨x, e, l⟩ => ⟨_, by rw [e]; rfl, l⟩
  · rw [exec_popdownTimerExpiry on hc, State.popdownDue, not_due h, if_neg (by decide)]
  · rw [exec_startHistoryRemoval on hc, State.startAged, not_due ?_, if_neg (by decide)]
    exact h.imp (fun e => by rw [e]; rfl) fun ⟨u, l, e, later⟩ => ⟨_, by rw [e]; rfl, later⟩

end Sys2Proof.Machine
end

section
/-! The laws of one compressor and of one spot's place, and how they survive a change of demand: the place moves (R145 to R147), then
every compressor acts on what has become of its demand (R141, R142). -/

namespace Sys2Proof.Machine

/-! ## One compressor beside its demand -/

/-- Level, marks and timers of a compressor beside a demand (R137, R141, R142, R149, R151). -/
structure Levels (x : Compressor) (d : Demand) : Prop where
  deferred : x.deferred = true ↔ x.level = .stopped ∧ d ≠ .none
  confirm  : x.confirm.isSome = true ↔ x.level = .starting ∨ x.level = .reversing ∨ x.level = .stopping
  idle     : (x.popdown.isSome = true ∨ x.held = true) ↔ x.level = .idleRun ∧ d = .none
  either   : x.popdown = none ∨ x.held = false
  follows  : (x.level = .push → d = .push) ∧ (x.level = .recover → d = .recover) ∧
    (x.level = .idleRun → d = .hold ∨ d = .none)

/-- The law says nothing of which spots are attached, of the record, of the starts or of the residency. -/
theorem Levels.congr {x y : Compressor} {d : Demand} (h : Levels x d) (level : y.level = x.level)
    (deferred : y.deferred = x.deferred) (confirm : y.confirm = x.confirm) (popdown : y.popdown = x.popdown)
    (held : y.held = x.held) : Levels y d := by
  obtain ⟨hd, hc, hi, he, hf⟩ := h
  constructor
  · rw [deferred, level]; exact hd
  · rw [confirm, level]; exact hc
  · rw [popdown, held, level]; exact hi
  · rw [popdown, held]; exact he
  · rw [level]; exact hf

/-- No idle timer and no hold outside IDLE_RUN. -/
theorem Levels.unheld {x : Compressor} {d : Demand} (h : Levels x d) (k : x.level ≠ .idleRun ∨ d ≠ .none) :
    x.popdown = none ∧ x.held = false := by
  have off : ¬ (x.popdown.isSome = true ∨ x.held = true) := fun e => by
    obtain ⟨level, demand⟩ := h.idle.mp e
    exact k.elim (· level) (· demand)
  rw [not_or, Bool.not_eq_true, Bool.not_eq_true, Option.isSome_eq_false_iff, Option.isNone_iff_eq_none] at off
  exact off

theorem Levels.undeferred {x : Compressor} {d : Demand} (h : Levels x d) (k : x.level ≠ .stopped) : x.deferred = false := by
  rw [← Bool.not_eq_true, h.deferred]
  exact fun e => k e.1

theorem Levels.unconfirmed {x : Compressor} {d : Demand} (h : Levels x d) (starting : x.level ≠ .starting)
    (reversing : x.level ≠ .reversing) (stopping : x.level ≠ .stopping) : x.confirm = none := by
  rw [← Option.not_isSome_iff_eq_none, h.confirm]
  rintro (e | e | e)
  exacts [starting e, reversing e, stopping e]

/-- A compressor on its way, with a report awaited and nothing else running. -/
theorem levels_moving {x : Compressor} {d : Demand} (level : x.level = .starting ∨ x.level = .reversing ∨ x.level = .stopping)
    (deferred : x.deferred = false) (confirm : x.confirm.isSome = true) (popdown : x.popdown = none) (held : x.held = false) :
    Levels x d := by
  refine ⟨?_, ⟨fun _ => level, fun _ => confirm⟩, ?_, .inl popdown, ?_⟩
  all_goals rcases level with e | e | e <;> simp [e, deferred, popdown, held]

/-- A compressor that runs as its demand asks. -/
theorem levels_running {x : Compressor} {d : Demand} (level : (x.level = .push ∧ d = .push) ∨
    (x.level = .recover ∧ d = .recover) ∨ (x.level = .idleRun ∧ d = .hold)) (deferred : x.deferred = false)
    (confirm : x.confirm = none) (popdown : x.popdown = none) (held : x.held = false) : Levels x d := by
  rcases level with ⟨e, hd⟩ | ⟨e, hd⟩ | ⟨e, hd⟩
  all_goals
    subst hd
    constructor <;> simp [e, deferred, confirm, popdown, held]

/-- A compressor that idles without a spot, its popdown timer running. -/
theorem levels_idling {x : Compressor} (level : x.level = .idleRun) (deferred : x.deferred = false) (confirm : x.confirm = none)
    (popdown : x.popdown.isSome = true) (held : x.held = false) : Levels x .none := by
  constructor <;> simp [level, deferred, confirm, popdown, held]

/-- A compressor at rest, with nothing running. -/
theorem levels_resting {x : Compressor} {d : Demand} (level : x.level = .stopped ∨ x.level = .unavailable)
    (deferred : x.deferred = true ↔ x.level = .stopped ∧ d ≠ .none) (confirm : x.confirm = none) (popdown : x.popdown = none)
    (held : x.held = false) : Levels x d := by
  refine ⟨deferred, ?_, ?_, .inl popdown, ?_⟩
  all_goals rcases level with e | e <;> simp [e, confirm, popdown, held]

/-! ## A compressor acts -/

/-- A compressor that reverses (R141). -/
def State.turned (s : State) (c : CompId) (a : CompReading) : Compressor :=
  { s.comp c with
    level := .reversing, confirm := some ⟨s.uptime + s.compField c (·.startTimeout), a⟩, popdown := none, held := false }

theorem comp_turned (s : State) (c : CompId) (cmd : Command) (a : CompReading) :
    ((s.clearIdle c).reverseTo c cmd a).comp c = s.turned c a := by
  rw [comp_reverseTo, comp_clearIdle, compField_congr (s := s) (by rw [comp_clearIdle]), uptime_clearIdle]
  rfl

theorem comp_settled (s : State) (c : CompId) (l : Level) :
    ((s.clearIdle c).setLevel c l).comp c = { s.comp c with level := l, popdown := none, held := false } := by
  rw [comp_setLevel_same, comp_clearIdle]

theorem comp_idled (s : State) (c : CompId) : ((s.setLevel c .idleRun).startPopdown c).comp c =
    { s.comp c with level := .idleRun, popdown := some (s.uptime + s.compField c (·.popdown)) } := by
  rw [comp_startPopdown, comp_setLevel_same, (inner_setLevel _ _ _).uptime,
    compField_congr (s := s) (by rw [comp_setLevel_same])]

/-- A compressor that follows a demand (R141). -/
def State.followed (s : State) (c : CompId) : Demand → Compressor
  | .push => if s.direction c = some .fwd then { s.comp c with level := .push, popdown := none, held := false }
      else s.turned c .runningFwd
  | .recover => if s.direction c = some .rev then { s.comp c with level := .recover, popdown := none, held := false }
      else s.turned c .runningRev
  | .hold => { s.comp c with level := .idleRun, popdown := none, held := false }
  | .none => { s.comp c with level := .idleRun, popdown := some (s.uptime + s.compField c (·.popdown)) }

theorem comp_followDemand (s : State) (c : CompId) : (s.followDemand c).comp c = s.followed c (s.resolved c) := by
  unfold State.followDemand
  cases s.resolved c with
  | push =>
    dsimp only [State.followed]
    split
    · exact comp_settled s c .push
    · exact comp_turned s c .fwd .runningFwd
  | recover =>
    dsimp only [State.followed]
    split
    · exact comp_settled s c .recover
    · exact comp_turned s c .rev .runningRev
  | hold => exact comp_settled s c .idleRun
  | none => exact comp_idled s c

/-- A compressor without deferred start, confirmation and hold follows its demand into the law. -/
theorem levels_followDemand {s : State} {c : CompId} (deferred : (s.comp c).deferred = false) (confirm : (s.comp c).confirm = none)
    (held : s.resolved c = .none → (s.comp c).held = false) : Levels ((s.followDemand c).comp c) (s.resolved c) := by
  rw [comp_followDemand]
  cases now : s.resolved c with
  | push =>
    dsimp only [State.followed]
    split
    · exact levels_running (.inl ⟨rfl, rfl⟩) deferred confirm rfl rfl
    · exact levels_moving (.inr (.inl rfl)) deferred rfl rfl rfl
  | recover =>
    dsimp only [State.followed]
    split
    · exact levels_running (.inr (.inl ⟨rfl, rfl⟩)) deferred confirm rfl rfl
    · exact levels_moving (.inr (.inl rfl)) deferred rfl rfl rfl
  | hold => exact levels_running (.inr (.inr ⟨rfl, rfl⟩)) deferred confirm rfl rfl
  | none => exact levels_idling rfl deferred confirm rfl (held now)

theorem levels_startDecision {s : State} {c : CompId} (level : (s.comp c).level = .stopped) (confirm : (s.comp c).confirm = none)
    (popdown : (s.comp c).popdown = none) (held : (s.comp c).held = false) (asks : s.resolved c ≠ .none) :
    Levels ((s.startDecision c).comp c) (s.resolved c) := by
  by_cases few : (s.comp c).history.length < s.compField c (·.startLimit)
  · rw [comp_startDecision_few few]
    exact levels_moving (.inl rfl) rfl rfl popdown held
  · rw [comp_startDecision_full (decide_eq_true (Nat.not_lt.mp few))]
    exact levels_resting (.inl level) ⟨fun _ => ⟨level, asks⟩, fun _ => rfl⟩ confirm popdown held

/-- A compressor that acts takes the law from its old demand to the new one (R141, R142). -/
theorem levels_actOn {s : State} {c : CompId} {old : Demand} (h : Levels (s.comp c) old) :
    Levels ((s.actOn c old).comp c) (s.resolved c) := by
  by_cases same : s.resolved c = old
  · rw [actOn_same same, same]
    exact h
  · by_cases deaf : (s.comp c).level.deaf = true
    · rw [actOn_deaf deaf]
      obtain ⟨hd, hc, hi, he, hf⟩ := h
      refine ⟨?_, hc, ?_, he, ?_⟩
      all_goals cases level : (s.comp c).level <;> simp_all [Level.deaf]
    · have follow : (s.comp c).level ≠ .stopped → s.actOn c old = s.followDemand c →
          Levels ((s.actOn c old).comp c) (s.resolved c) := fun level e => by
        have held : s.resolved c = .none → (s.comp c).held = false := fun now =>
          (h.unheld (.inr fun was => same (now.trans was.symm))).2
        rw [e]
        refine levels_followDemand (h.undeferred level) (h.unconfirmed ?_ ?_ ?_) held
        all_goals exact fun e => deaf (by rw [e]; rfl)
      cases level : (s.comp c).level with
      | stopped =>
        have confirm := h.unconfirmed (by rw [level]; nofun) (by rw [level]; nofun) (by rw [level]; nofun)
        obtain ⟨popdown, held⟩ := h.unheld (.inl (by rw [level]; nofun))
        rw [State.actOn, if_neg same, level]
        dsimp only
        split
        · next none =>
          rw [comp_modComp_same]
          exact levels_resting (.inl level) ⟨nofun, fun e => absurd none e.2⟩ confirm popdown held
        · next asks =>
          split
          · exact levels_startDecision level confirm popdown held asks
          · next was =>
            exact levels_resting (.inl level) ⟨fun _ => ⟨level, asks⟩, fun _ => h.deferred.mpr ⟨level, was⟩⟩ confirm popdown
              held
      | idleRun => exact follow (by rw [level]; nofun) (by rw [State.actOn, if_neg same, level])
      | push => exact follow (by rw [level]; nofun) (by rw [State.actOn, if_neg same, level])
      | recover => exact follow (by rw [level]; nofun) (by rw [State.actOn, if_neg same, level])
      | starting => exact absurd (by rw [level]; rfl) deaf
      | reversing => exact absurd (by rw [level]; rfl) deaf
      | stopping => exact absurd (by rw [level]; rfl) deaf
      | unavailable => exact absurd (by rw [level]; rfl) deaf

end Sys2Proof.Machine
end

section
/-! The law of the Coordinator as a whole: every spot has one place at most and asks for it, every compressor is as its demand has it. A
change of demand, a grant, and a compressor that goes down keep it (R139, R145 to R148). -/

namespace Sys2Proof.Machine

/-! ## The place of a spot -/

/-- A spot has one place at most, at a compressor that is not UNAVAILABLE or on the wait list, and asks for it (R145, R146). -/
structure Lodged (s : State) (i : SpotId) : Prop where
  home   : ∀ c d, i ∈ (s.comp c).attached → i ∈ (s.comp d).attached → c = d
  apart  : ∀ c, i ∈ (s.comp c).attached → i ∉ s.waitList
  usable : ∀ c, i ∈ (s.comp c).attached → (s.comp c).level ≠ .unavailable
  asks   : ∀ c, i ∈ (s.comp c).attached → (s.spot i).demand ≠ .none
  waits  : i ∈ s.waitList → (s.spot i).demand ≠ .none

/-- The spot has no place. -/
def Nowhere (s : State) (i : SpotId) : Prop := (∀ c, i ∉ (s.comp c).attached) ∧ i ∉ s.waitList

theorem Nowhere.lodged {s : State} {i : SpotId} (h : Nowhere s i) : Lodged s i :=
  ⟨fun c _ hc => absurd hc (h.1 c), fun c hc => absurd hc (h.1 c), fun c hc => absurd hc (h.1 c),
    fun c hc => absurd hc (h.1 c), fun hw => absurd hw h.2⟩

/-- A spot lodged stays so where it has no new place, its compressor is no more UNAVAILABLE than before, and it asks as before. -/
theorem Lodged.congr {s t : State} {i : SpotId} (h : Lodged s i) (homes : ∀ c, i ∈ (t.comp c).attached → i ∈ (s.comp c).attached)
    (list : i ∈ t.waitList → i ∈ s.waitList) (level : ∀ c, (t.comp c).level = .unavailable → (s.comp c).level = .unavailable)
    (demand : (t.spot i).demand = (s.spot i).demand) : Lodged t i :=
  ⟨fun c d hc hd => h.home c d (homes c hc) (homes d hd), fun c hc hw => h.apart c (homes c hc) (list hw),
    fun c hc down => h.usable c (homes c hc) (level c down), fun c hc => by rw [demand]; exact h.asks c (homes c hc),
    fun hw => by rw [demand]; exact h.waits (list hw)⟩

theorem attachedTo_eq_some {s : State} {i : SpotId} {c : CompId} (h : s.attachedTo i = some c) : i ∈ (s.comp c).attached := by
  have found := List.find?_some h
  exact List.contains_iff_mem.mp found

theorem attachedTo_eq_none {s : State} {i : SpotId} (h : s.attachedTo i = none) (c : CompId) : i ∉ (s.comp c).attached := by
  have out := List.find?_eq_none.mp h c (mem_allComps c)
  rwa [List.contains_iff_mem] at out

/-- A compressor whose list of spots alone has changed. -/
def SameButSpots (s t : State) : Prop := ∀ c, t.comp c = { s.comp c with attached := (t.comp c).attached }

theorem SameButSpots.refl (s : State) : SameButSpots s s := fun _ => rfl

theorem SameButSpots.trans {a b d : State} (h : SameButSpots a b) (k : SameButSpots b d) : SameButSpots a d := fun c => by
  rw [k c, h c]

theorem SameButSpots.level {s t : State} (h : SameButSpots s t) (c : CompId) : (t.comp c).level = (s.comp c).level := by
  rw [h c]

theorem sameButSpots_modComp (s : State) (c : CompId) (f : List SpotId → List SpotId) :
    SameButSpots s (s.modComp c fun x => { x with attached := f x.attached }) := fun d => by
  rw [comp_modComp]
  split
  · next e => rw [e]
  · rfl

theorem sameButSpots_attach (s : State) (c : CompId) (i : SpotId) : SameButSpots s (s.attach c i) :=
  sameButSpots_modComp s c _

theorem sameButSpots_detach (s : State) (c : CompId) (i : SpotId) : SameButSpots s (s.detach c i) :=
  sameButSpots_modComp s c _

theorem sameButSpots_of_comps {s t : State} (h : t.comps = s.comps) : SameButSpots s t := fun c => by
  rw [comp_of_comps h]

theorem sameButSpots_applySpot (s : State) (i : SpotId) : SameButSpots s (s.applySpot i) := by
  unfold State.applySpot
  split
  · exact sameButSpots_attach _ _ _
  · exact sameButSpots_of_comps (comps_joinList s i)

theorem sameButSpots_place (s : State) (i : SpotId) : SameButSpots s (s.place i) := by
  have moved : ∀ c, SameButSpots s ((s.detach c i).applySpot i) := fun c =>
    (sameButSpots_detach s c i).trans (sameButSpots_applySpot _ i)
  unfold State.place
  simp only
  split
  · split
    · exact sameButSpots_detach _ _ _
    · exact .refl s
    · split
      exacts [moved _, .refl s]
    · split
      exacts [moved _, .refl s]
  · split
    · split
      exacts [.refl s, sameButSpots_of_comps rfl]
    · split
      exacts [sameButSpots_applySpot _ _, .refl s]

/-- A spot detached from its one home has no place. -/
theorem nowhere_detach {s : State} {i : SpotId} {c : CompId} (only : ∀ d, i ∈ (s.comp d).attached → d = c)
    (absent : i ∉ s.waitList) : Nowhere (s.detach c i) i := by
  refine ⟨fun d => ?_, absent⟩
  rw [attached_detach]
  split
  · simp
  · next e => exact fun hd => e (only d hd)

theorem lodged_attach {s : State} {i : SpotId} {c : CompId} (h : Nowhere s i) (usable : (s.comp c).level ≠ .unavailable)
    (asks : (s.spot i).demand ≠ .none) : Lodged (s.attach c i) i := by
  have only : ∀ d, i ∈ ((s.attach c i).comp d).attached → d = c := fun d hd => by
    rw [attached_attach] at hd
    by_contra e
    rw [if_neg e] at hd
    exact h.1 d hd
  refine ⟨fun d e hd he => (only d hd).trans (only e he).symm, fun _ _ => h.2, fun d hd => ?_, fun _ _ => asks, fun _ => asks⟩
  rw [only d hd, (sameButSpots_attach s c i).level]
  exact usable

theorem mem_joinList (s : State) (i j : SpotId) : j ∈ (s.joinList i).waitList ↔ j = i ∨ j ∈ s.waitList := by
  unfold State.joinList
  split
  · next h =>
    rw [List.contains_iff_mem] at h
    exact ⟨.inr, fun e => e.elim (fun e => e ▸ h) id⟩
  · simp [or_comm]

theorem lodged_joinList {s : State} {i : SpotId} (h : Nowhere s i) (asks : (s.spot i).demand ≠ .none) :
    Lodged (s.joinList i) i := by
  have comp := comp_of_comps (comps_joinList s i)
  have spot : (s.joinList i).spot i = s.spot i := by
    unfold State.joinList
    split <;> rfl
  refine ⟨fun c _ hc => ?_, fun c hc => ?_, fun c hc => ?_, fun c hc => ?_, fun _ => by rw [spot]; exact asks⟩
  all_goals
    rw [comp] at hc
    exact absurd hc (h.1 c)

theorem lodged_applySpot {s : State} {i : SpotId} (h : Nowhere s i) (asks : (s.spot i).demand ≠ .none) :
    Lodged (s.applySpot i) i := by
  unfold State.applySpot
  split
  · next c taken => exact lodged_attach h (level_of_canTake (canTake_of_taker taken)) asks
  · exact lodged_joinList h asks

theorem flows_ne_none {d : Demand} (h : d.flows = true) : d ≠ .none := fun e => by rw [e] at h; cases h

/-- A spot with at most one place is lodged once its place follows its demand (R145 to R147). -/
theorem lodged_place {s : State} {i : SpotId} (home : ∀ c d, i ∈ (s.comp c).attached → i ∈ (s.comp d).attached → c = d)
    (apart : ∀ c, i ∈ (s.comp c).attached → i ∉ s.waitList)
    (usable : ∀ c, i ∈ (s.comp c).attached → (s.comp c).level ≠ .unavailable) : Lodged (s.place i) i := by
  unfold State.place
  simp only
  split
  · next c at_ =>
    have here := attachedTo_eq_some at_
    have stays : (s.spot i).demand ≠ .none → Lodged s i := fun asks =>
      ⟨home, apart, usable, fun _ _ => asks, fun _ => asks⟩
    have away := nowhere_detach (fun d hd => home d c hd here) (apart c here)
    have moves : (s.spot i).demand ≠ .none → Lodged ((s.detach c i).applySpot i) i := lodged_applySpot away
    split
    · exact away.lodged
    · next d => exact stays (by rw [d]; nofun)
    · next d =>
      split
      exacts [moves (by rw [d]; nofun), stays (by rw [d]; nofun)]
    · next d =>
      split
      exacts [moves (by rw [d]; nofun), stays (by rw [d]; nofun)]
  · next at_ =>
    have out := attachedTo_eq_none at_
    have rests : i ∉ s.waitList ∨ (s.spot i).demand ≠ .none → Lodged s i := fun h =>
      ⟨home, apart, usable, fun c hc => absurd hc (out c), fun hw => h.resolve_left (not_not.mpr hw)⟩
    split
    · split
      · next flows => exact rests (.inr (flows_ne_none flows))
      · exact Nowhere.lodged ⟨out, by simp [State.leaveList]⟩
    · next absent =>
      rw [Bool.not_eq_true, List.contains_eq_mem, decide_eq_false_iff_not] at absent
      split
      · next flows => exact lodged_applySpot ⟨out, absent⟩ (flows_ne_none flows)
      · exact rests (.inl absent)

/-! ## Every place and every compressor -/

/-- Every spot is lodged, and every compressor is as its demand has it. -/
structure Sound (s : State) : Prop where
  lodged : ∀ i, Lodged s i
  levels : ∀ c, Levels (s.comp c) (s.resolved c)

/-- The parts the law speaks of are the same. -/
structure Stands (s t : State) : Prop where
  comps    : ∀ c, t.comp c = s.comp c
  waitList : t.waitList = s.waitList
  demands  : ∀ i, (t.spot i).demand = (s.spot i).demand

theorem Stands.refl (s : State) : Stands s s := ⟨fun _ => rfl, rfl, fun _ => rfl⟩

theorem Stands.trans {a b d : State} (h : Stands a b) (k : Stands b d) : Stands a d :=
  ⟨fun c => (k.comps c).trans (h.comps c), k.waitList.trans h.waitList, fun i => (k.demands i).trans (h.demands i)⟩

theorem Stands.resolved {s t : State} (h : Stands s t) (c : CompId) : t.resolved c = s.resolved c :=
  resolved_of (by rw [h.comps]) fun j _ => h.demands j

theorem Stands.sound {s t : State} (h : Stands s t) (k : Sound s) : Sound t :=
  ⟨fun i => (k.lodged i).congr (fun c hc => by rwa [h.comps] at hc) (fun hw => by rwa [h.waitList] at hw)
    (fun c down => by rwa [h.comps] at down) (h.demands i),
    fun c => by rw [h.comps, h.resolved]; exact k.levels c⟩

theorem stands_of_parts (s : State) {t : State} (comps : t.comps = s.comps) (waitList : t.waitList = s.waitList)
    (spots : t.spots = s.spots) : Stands s t :=
  ⟨fun c => comp_of_comps comps c, waitList, fun i => by rw [spot_of_spots spots]⟩

theorem OnlyMap.stands {s t : State} (h : OnlyMap s t) : Stands s t :=
  ⟨h.comp, h.waitList, fun i => by rw [spot_of_spots h.spots]⟩

theorem stands_modSpot (s : State) (i : SpotId) (f : SpotContext → SpotContext)
    (demand : (f (s.spot i)).demand = (s.spot i).demand := by rfl) : Stands s (s.modSpot i f) :=
  ⟨fun _ => rfl, rfl, fun j => by
    rw [spot_modSpot]
    split
    · next e => rw [e, demand]
    · rfl⟩

theorem stands_syncPass (s : State) (i : SpotId) : Stands s (s.syncPass i) :=
  ⟨fun c => comp_of_comps (comps_syncPass s i) c, waitList_syncPass s i, fun j => (aside_syncPass s i).demand j⟩

theorem stands_takeGrant (s : State) (i : SpotId) : Stands s (s.takeGrant i) :=
  (stands_modSpot s i _).trans (stands_syncPass _ i)

/-! ## Every compressor acts -/

/-- No compressor becomes UNAVAILABLE by acting on its demand. -/
theorem actOn_up {s : State} {c d : CompId} {old : Demand} (h : ((s.actOn c old).comp d).level = .unavailable) :
    (s.comp d).level = .unavailable := by
  by_cases e : d = c
  · subst e
    by_cases deaf : (s.comp d).level.deaf = true
    · rwa [actOn_deaf deaf] at h
    · exfalso
      have follow : ((s.followDemand d).comp d).level ≠ .unavailable := by
        rw [comp_followDemand]
        cases s.resolved d with
        | push => dsimp only [State.followed]; split <;> nofun
        | recover => dsimp only [State.followed]; split <;> nofun
        | hold => nofun
        | none => nofun
      have up : (s.comp d).level ≠ .unavailable := fun down => deaf (by rw [down]; rfl)
      unfold State.actOn at h
      simp only at h
      split at h
      · exact up h
      · split at h
        · split at h
          · rw [comp_modComp_same] at h
            exact up h
          · split at h
            · by_cases few : (s.comp d).history.length < s.compField d (·.startLimit)
              · rw [comp_startDecision_few few] at h
                cases h
              · rw [comp_startDecision_full (decide_eq_true (Nat.not_lt.mp few))] at h
                exact up h
            · exact up h
        exacts [follow h, follow h, follow h, up h, up h, up h, up h]
  · rwa [(drives_actOn s c old).others d e] at h

/-- Where every compressor is as its old demand had it, each acts into the law, in any order. -/
theorem sound_acts (before : State) (l : List CompId) (nodup : l.Nodup) {s : State} (lodged : ∀ i, Lodged s i)
    (todo : ∀ c ∈ l, Levels (s.comp c) (before.resolved c)) (done : ∀ c, c ∉ l → Levels (s.comp c) (s.resolved c)) :
    Sound (l.foldl (fun t c => t.actOn c (before.resolved c)) s) := by
  induction l generalizing s with
  | nil => exact ⟨lodged, fun c => done c List.not_mem_nil⟩
  | cons c l ih =>
    obtain ⟨out, nodup⟩ := List.nodup_cons.mp nodup
    have drives := drives_actOn s c (before.resolved c)
    have aside := aside_actOn s c (before.resolved c)
    have resolved := drives.resolved aside
    have other : ∀ d, d ≠ c → (s.actOn c (before.resolved c)).comp d = s.comp d := drives.others
    refine ih nodup (fun i => ?_) (fun d hd => ?_) fun d hd => ?_
    · exact (lodged i).congr (fun d hd => by rwa [drives.places] at hd) (fun hw => by rwa [drives.waitList] at hw)
        (fun d down => actOn_up down) (aside.demand i)
    · rw [other d fun e => out (e ▸ hd)]
      exact todo d (List.mem_cons_of_mem _ hd)
    · rw [resolved]
      by_cases e : d = c
      · rw [e]
        exact levels_actOn (todo c (List.mem_cons_self ..))
      · rw [other d e]
        exact done d fun m => (List.mem_cons.mp m).elim e hd

/-- Places that follow the demands, compressors that then act: the law holds again (R147). -/
theorem sound_actAll {s t : State} (lodged : ∀ i, Lodged t i) (same : SameButSpots s t) (sound : Sound s) :
    Sound (t.actAll s) :=
  sound_acts s allComps (by decide) lodged
    (fun c _ => (sound.levels c).congr (by rw [same c]) (by rw [same c]) (by rw [same c]) (by rw [same c]) (by rw [same c]))
    fun c hc => absurd (mem_allComps c) hc

/-- A spot beside the one that moves stays lodged. -/
theorem Lodged.beside {s t : State} {i j : SpotId} (h : Lodged s j) (beside : Beside i s t) (hj : j ≠ i)
    (same : SameButSpots s t) : Lodged t j :=
  h.congr (fun c => (beside.homes c j hj).mp) (beside.mem_waitList hj).mp (fun c down => by rwa [same.level] at down)
    (by rw [beside.spots j hj])

theorem sound_handDemand {s : State} (i : SpotId) (d : Demand) (h : Sound s) : Sound (s.handDemand i d) := by
  unfold State.handDemand
  split
  · exact h
  · have lodged : ∀ j, Lodged ((s.modSpot i fun x => { x with demand := d }).place i) j := fun j => by
      have same : SameButSpots s ((s.modSpot i fun x => { x with demand := d }).place i) :=
        (sameButSpots_of_comps (t := s.modSpot i fun x => { x with demand := d }) rfl).trans (sameButSpots_place _ i)
      by_cases e : j = i
      · subst e
        exact lodged_place (h.lodged j).home (h.lodged j).apart (h.lodged j).usable
      · exact (h.lodged j).beside ((beside_modSpot s i _).trans (beside_place _ i)) e same
    have same : SameButSpots s ((s.modSpot i fun x => { x with demand := d }).place i) :=
      (sameButSpots_of_comps (t := s.modSpot i fun x => { x with demand := d }) rfl).trans (sameButSpots_place _ i)
    exact (stands_takeGrant _ i).sound (sound_actAll lodged same h)

theorem sound_grant {s : State} {i : SpotId} {c : CompId} (waits : i ∈ s.waitList) (taken : s.taker i = some c) (h : Sound s) :
    Sound (((s.leaveList i).attach c i).actAll s) := by
  have usable := level_of_canTake (canTake_of_taker taken)
  have same : SameButSpots s ((s.leaveList i).attach c i) :=
    (sameButSpots_of_comps (t := s.leaveList i) rfl).trans (sameButSpots_attach _ c i)
  refine sound_actAll (fun j => ?_) same h
  by_cases e : j = i
  · subst e
    exact lodged_attach ⟨fun d hd => (h.lodged j).apart d hd waits, by simp [State.leaveList]⟩ usable
      ((h.lodged j).waits waits)
  · exact (h.lodged j).beside ((beside_leaveList s i).trans (beside_attach _ c i usable)) e same

end Sys2Proof.Machine
end

section
/-! The operations of the Spot Sequencer, the Metering Unit and the Coordinator keep the law of the Coordinator. What leaves places,
demands and compressors as they are keeps it; the rest goes through demands handed, answers, and a compressor that goes down. -/

namespace Sys2Proof.Machine

/-- The law of the Coordinator is kept. -/
def Steady (s t : State) : Prop := Sound s → Sound t

theorem Steady.refl (s : State) : Steady s s := id

theorem Steady.trans {a b d : State} (h : Steady a b) (k : Steady b d) : Steady a d := k ∘ h

theorem Steady.foldl {α : Type} (f : State → α → State) (h : ∀ s a, Steady s (f s a)) (l : List α) (s : State) :
    Steady s (l.foldl f s) := by
  induction l generalizing s with
  | nil => exact .refl s
  | cons a l ih => exact (h s a).trans (ih _)

theorem Stands.steady {s t : State} (h : Stands s t) : Steady s t := h.sound

/-! ## What stands -/

theorem stands_notice (s : State) (b : List Byte) : Stands s (s.notice b) := stands_of_parts s rfl rfl rfl

theorem stands_announce (s : State) (i : SpotId) : Stands s (s.announce i) := (onlyPort_announce s i).onlyMap.stands

theorem stands_standingReport (s : State) (i : SpotId) : Stands s (s.standingReport i) :=
  (onlyPort_standingReport s i).onlyMap.stands

theorem stands_changeState (s : State) (i : SpotId) (st : SpotState) : Stands s (s.changeState i st) :=
  (stands_modSpot s i _).trans (stands_announce _ i)

theorem stands_writeValve (s : State) (r : Role) (i : SpotId) (cmd : Command) : Stands s (s.writeValve r i cmd) :=
  (onlyMap_writeLatch s r (spotNumber i) cmd).stands

theorem stands_writeComp (s : State) (r : Role) (c : CompId) (cmd : Command) : Stands s (s.writeComp r c cmd) :=
  (onlyMap_writeLatch s r (compNumber c) cmd).stands

theorem stands_closeValves (s : State) (i : SpotId) : Stands s (s.closeValves i) :=
  (stands_writeValve s _ i _).trans (stands_writeValve _ _ i _)

theorem OnlyConditions.stands {s t : State} (h : OnlyConditions s t) : Stands s t :=
  ⟨fun c => comp_of_comps h.comps c, by rw [h.eq], fun i => by rw [h.spot]⟩

theorem stands_reportUnknownTag (s : State) (i : SpotId) (b : Bool) : Stands s (s.reportUnknownTag i b) :=
  (onlyConditions_reportUnknownTag s i b).stands

theorem stands_reevaluateAll (s : State) (l : List SpotId) : Stands s (s.reevaluateAll l) :=
  (onlyConditions_reevaluateAll s l).stands

theorem stands_setBody (s : State) (k : Nat) (b : EntryBody) : Stands s (s.setBody k b) := (onlyMap_setBody s k b).stands

theorem stands_manifest (s : State) (m : List CarRecord) : Stands s { s with manifest := m } := stands_of_parts s rfl rfl rfl

theorem stands_writeEndRecord (s : State) (i : SpotId) (e : Ending) (b : Bool) : Stands s (s.writeEndRecord i e b) := by
  unfold State.writeEndRecord
  exact Stands.trans (stands_manifest s _) (by exact stands_modSpot _ i _)

theorem stands_unbind (s : State) (i : SpotId) : Stands s (s.unbind i) := by
  unfold State.unbind
  exact Stands.trans (stands_manifest s _) (by exact stands_modSpot _ i _)

/-! ## Suspension, return and answers -/

theorem steady_handDemand (s : State) (i : SpotId) (d : Demand) : Steady s (s.handDemand i d) := sound_handDemand i d

theorem steady_handHold (s : State) (i : SpotId) : Steady s (s.handHold i) := by
  have none := (steady_handDemand s i .hold).trans (steady_handDemand _ i .none)
  unfold State.handHold
  simp only
  split
  exacts [steady_handDemand s i .hold, none, none]

theorem steady_followGrant (s : State) (i : SpotId) (v : Saved) : Steady s (s.followGrant i v) := by
  unfold State.followGrant
  split
  exacts [steady_handHold s i, steady_handDemand s i _, steady_handDemand s i _]

theorem steady_holdOrNone (s : State) (i : SpotId) : Steady s (s.holdOrNone i) := by
  unfold State.holdOrNone
  split
  exacts [steady_handHold s i, steady_handDemand s i _, steady_handDemand s i _]

theorem steady_enterSuspended (s : State) (i : SpotId) (v : Saved) : Steady s (s.enterSuspended i v) := by
  unfold State.enterSuspended
  simp only
  refine Steady.trans ?_ ((stands_modSpot _ i _).trans (stands_announce _ i)).steady
  refine Steady.trans ?_ (steady_followGrant _ i v)
  exact (((stands_modSpot s i _).trans (stands_writeValve _ _ i _)).trans (stands_modSpot _ i _)).steady

theorem stands_completeReturn (s : State) (i : SpotId) (v : Saved) : Stands s (s.completeReturn i v) := by
  unfold State.completeReturn
  simp only
  refine Stands.trans ?_ (stands_announce _ i)
  refine (stands_modSpot s i fun x => { x with suspendTimer := none, saved := none, state := v.state, sub := v.sub }).trans ?_
  split
  · exact stands_modSpot _ i _
  · exact ((stands_writeValve _ _ i _).trans (stands_modSpot _ i _)).trans (stands_modSpot _ i _)
  · exact stands_syncPass _ i
  · exact stands_modSpot _ i _

theorem stands_setNoCompressor (s : State) (i : SpotId) (b : Bool) : Stands s (s.setNoCompressor i b) := stands_modSpot s i _

theorem steady_returnAttempt (s : State) (i : SpotId) : Steady s (s.returnAttempt i) := by
  unfold State.returnAttempt
  split
  · exact .refl s
  · next v _ =>
    split
    · exact (stands_completeReturn s i v).steady
    · have handed := steady_handDemand s i v.demand
      simp only
      split
      · exact handed.trans ((stands_setNoCompressor _ i _).trans (stands_completeReturn _ i v)).steady
      · exact handed.trans (stands_setNoCompressor _ i _).steady
      · exact handed.trans (stands_setNoCompressor _ i _).steady

theorem steady_causeTest (s : State) (i : SpotId) : Steady s (s.causeTest i) := by
  unfold State.causeTest
  simp only
  split
  · split
    exacts [steady_enterSuspended s i _, .refl s]
  · split
    exacts [steady_returnAttempt s i, .refl s]

theorem steady_changeCauses (s : State) (i : SpotId) (f : Causes → Causes) : Steady s (s.changeCauses i f) := by
  unfold State.changeCauses
  split
  · simp only
    split
    · exact .refl s
    · exact (stands_modSpot s i _).steady.trans (steady_causeTest _ i)
  · exact .refl s

theorem steady_takeReport (s : State) (i : SpotId) : Steady s (s.takeReport i) := by
  have grant := (stands_takeGrant s i).steady
  have marked : ∀ b, Steady s ((s.takeGrant i).setNoCompressor i b) := fun b =>
    grant.trans (stands_setNoCompressor _ i b).steady
  unfold State.takeReport
  simp only
  split
  · split
    · split
      · split
        · exact (marked false).trans (steady_handHold _ i)
        · exact (marked false).trans (steady_returnAttempt _ i)
      · exact marked false
    · split
      · exact (marked true).trans (steady_causeTest _ i)
      · exact (marked true).trans (steady_causeTest _ i)
      · exact grant.trans (steady_handDemand _ i _)
      · exact grant
    · split
      · exact grant
      · exact grant
      · exact grant.trans (steady_handDemand _ i _)
      · exact marked false
  · exact grant

theorem steady_endScan (s : State) : Steady s s.endScan :=
  endScan_keeps fun _ i _ waits taken h => steady_takeReport _ i (sound_grant waits taken h)

/-! ## The sequence -/

theorem steady_enterPressurising (s : State) (i : SpotId) : Steady s (s.enterPressurising i) := by
  unfold State.enterPressurising
  simp only
  refine Steady.trans ?_ (steady_causeTest _ i)
  refine Steady.trans ?_ (steady_takeReport _ i)
  refine Steady.trans ?_ (stands_announce _ i).steady
  exact ((stands_modSpot s i _).trans (stands_modSpot _ i _)).steady.trans (steady_handDemand _ i .push)

theorem stands_enterUnloading (s : State) (i : SpotId) : Stands s (s.enterUnloading i) := by
  unfold State.enterUnloading
  simp only
  refine Stands.trans ?_ ((stands_modSpot _ i _).trans (stands_announce _ i))
  exact ((stands_modSpot s i _).trans (stands_writeValve _ _ i _)).trans (stands_modSpot _ i _)

theorem steady_enterLiquidClosing (s : State) (i : SpotId) : Steady s (s.enterLiquidClosing i) := by
  unfold State.enterLiquidClosing
  simp only
  refine Steady.trans ?_ (stands_announce _ i).steady
  refine Steady.trans ?_ (steady_holdOrNone _ i)
  exact (((stands_writeValve s _ i _).trans (stands_modSpot _ i _)).trans (stands_modSpot _ i _)).steady

theorem steady_enterRecovery (s : State) (i : SpotId) : Steady s (s.enterRecovery i) := by
  unfold State.enterRecovery
  simp only
  refine Steady.trans ?_ (steady_causeTest _ i)
  refine Steady.trans ?_ (steady_takeReport _ i)
  refine Steady.trans ?_ (stands_announce _ i).steady
  exact (stands_modSpot s i _).steady.trans (steady_handDemand _ i .recover)

theorem steady_endPass (s : State) (i : SpotId) : Steady s (s.endPass i) := by
  unfold State.endPass
  simp only
  exact ((stands_modSpot s i _).steady.trans (steady_handDemand _ i .none)).trans (stands_modSpot _ i _).steady

theorem steady_beginPass (s : State) (i : SpotId) : Steady s (s.beginPass i) := by
  unfold State.beginPass
  simp only
  exact ((stands_modSpot s i _).steady.trans (steady_handDemand _ i .recover)).trans (steady_takeReport _ i)

theorem stands_endRecovery (s : State) (i : SpotId) (b : Bool) : Stands s (s.endRecovery i b) := by
  unfold State.endRecovery
  simp only
  refine Stands.trans ?_ (stands_announce _ i)
  refine Stands.trans ?_ ((stands_modSpot _ i _).trans (stands_modSpot _ i _))
  exact (stands_modSpot s i _).trans (stands_writeValve _ _ i _)

theorem steady_settleTest (s : State) (i : SpotId) : Steady s (s.settleTest i) := by
  unfold State.settleTest
  split
  · split
    · exact (stands_endRecovery s i true).steady
    · split
      exacts [steady_beginPass s i, (stands_endRecovery s i false).steady]
  · exact .refl s

/-! ## Endings, readiness and tags -/

theorem steady_finishTransfer (s : State) (i : SpotId) (o : Ending) (st : SpotState) (b : Bool) :
    Steady s (s.finishTransfer i o st b) := by
  unfold State.finishTransfer
  simp only
  refine Steady.trans ?_ (((stands_modSpot _ i _).trans (stands_writeEndRecord _ i o b)).trans (stands_modSpot _ i _)).steady
  exact ((stands_modSpot s i _).trans (stands_closeValves _ i)).steady.trans (steady_handDemand _ i .none)

theorem steady_endTransfer (s : State) (i : SpotId) (o : Ending) (st : SpotState) (b : Bool) :
    Steady s (s.endTransfer i o st b) := by
  have finished := (steady_finishTransfer s i o st b).trans (stands_announce _ i).steady
  unfold State.endTransfer
  split
  · exact finished.trans (stands_notice _ _).steady
  · exact finished

theorem steady_faultSpot (s : State) (i : SpotId) (o : Ending) : Steady s (s.faultSpot i o) := by
  unfold State.faultSpot
  split
  exacts [steady_endTransfer s i _ _ _, .refl s]

theorem stands_readiness (s : State) (i : SpotId) : Stands s (s.readiness i) := by
  unfold State.readiness
  split
  · split
    exacts [stands_changeState s i _, .refl s]
  · split
    exacts [.refl s, stands_changeState s i _]
  · exact .refl s

theorem steady_connectionReport (s : State) (i : SpotId) (b : Bool) (o : Ending) : Steady s (s.connectionReport i b o) := by
  unfold State.connectionReport
  split
  · split
    exacts [.refl s, steady_faultSpot s i o]
  · exact (stands_readiness s i).steady

theorem steady_connectionLost (s : State) (i : SpotId) (o : Ending) : Steady s (s.connectionLost i o) := by
  unfold State.connectionLost
  split
  · exact steady_faultSpot s i o
  · split
    exacts [(stands_changeState s i _).steady, .refl s]

theorem stands_matchTag (s : State) (i : SpotId) (chars : List Byte) : Stands s (s.matchTag i chars) := by
  unfold State.matchTag
  split
  · simp only
    refine Stands.trans ?_ (stands_readiness _ i)
    refine Stands.trans ?_ (stands_changeState _ i _)
    refine Stands.trans ?_ (stands_reportUnknownTag _ i _)
    exact Stands.trans (stands_manifest s _) (by exact stands_modSpot _ i _)
  · exact stands_reportUnknownTag s i true

theorem steady_deliverTag (s : State) (i : SpotId) (chars : List Byte) : Steady s (s.deliverTag i chars) := by
  have rebound : Stands s (((s.unbind i).changeState i .vacant).matchTag i chars) :=
    ((stands_unbind s i).trans (stands_changeState _ i _)).trans (stands_matchTag _ i chars)
  have either : ∀ t, Steady s t → Steady s (if s.sameCar i chars then s else t) := fun t h => by
    split
    exacts [.refl s, h]
  have fault := either _ (steady_faultSpot s i .faultCarMismatch)
  unfold State.deliverTag
  split
  exacts [(stands_matchTag s i chars).steady, either _ rebound.steady, either _ rebound.steady, .refl s, .refl s, .refl s,
    fault, fault, fault, fault, fault, fault, fault]

theorem stands_differentialTest (s : State) (i : SpotId) : Stands s (s.differentialTest i) := by
  unfold State.differentialTest
  split
  · split
    exacts [stands_enterUnloading s i, .refl s]
  · exact .refl s

theorem steady_deliverCarPressure (s : State) (i : SpotId) (p : Int) : Steady s (s.deliverCarPressure i p) := by
  unfold State.deliverCarPressure
  split
  · exact .refl s
  · next r _ =>
    have caused := steady_changeCauses s i (pressureCause r.maxPressure p)
    simp only
    split
    · exact caused.trans (stands_differentialTest _ i).steady
    · split
      exacts [caused.trans (steady_endPass _ i), caused]

theorem steady_deliverTankPressure (s : State) (i : SpotId) : Steady s (s.deliverTankPressure i) := by
  unfold State.deliverTankPressure
  split
  exacts [(stands_differentialTest s i).steady, .refl s]

theorem steady_deliverPosition (s : State) (i : SpotId) (r : Role) (p : Position) : Steady s (s.deliverPosition i r p) := by
  unfold State.deliverPosition
  simp only
  split
  · exact .refl s
  · split
    · split
      exacts [steady_enterPressurising s i, (stands_modSpot s i _).steady, steady_enterRecovery s i,
        steady_endTransfer s i _ _ _, .refl s]
    · exact .refl s

theorem steady_resetSpot (s : State) (i : SpotId) : Steady s (s.resetSpot i) := by
  have close : ∀ u, Steady s u → Steady s (if ((u.reportUnknownTag i false).spot i).state = s.restState i
      then u.reportUnknownTag i false else (u.reportUnknownTag i false).changeState i (s.restState i)) := fun u hu => by
    refine hu.trans ((stands_reportUnknownTag u i false).steady.trans ?_)
    split
    exacts [.refl _, (stands_changeState _ i _).steady]
  unfold State.resetSpot
  simp only
  split
  · exact (steady_endTransfer s i _ _ _).trans (stands_reportUnknownTag _ i false).steady
  · split
    exacts [close _ (stands_unbind s i).steady, close _ (stands_unbind s i).steady, close s (.refl s)]

/-! ## The Metering Unit -/

theorem steady_addRate (s : State) (i : SpotId) (q : Nat) : Steady s (s.addRate i q) := by
  unfold State.addRate
  simp only
  refine (stands_modSpot s i fun x => { x with window := x.window.add q }).steady.trans ?_
  split
  exacts [steady_enterLiquidClosing _ i, .refl _]

theorem steady_excessTest (s : State) (i : SpotId) : Steady s (s.excessTest i) := by
  unfold State.excessTest
  split
  · exact .refl s
  · simp only
    split
    · exact (stands_modSpot s i fun x => { x with excessSeen := true }).steady.trans (steady_changeCauses _ i _)
    · exact .refl s

theorem steady_handOff (s : State) (i : SpotId) (q before : Nat) : Steady s (s.handOff i q before) := by
  have rated : Steady s (if (s.spot i).state = .unloading then s.addRate i q else s) := by
    split
    exacts [steady_addRate s i q, .refl s]
  unfold State.handOff
  simp only
  generalize (if (s.spot i).state = .unloading then s.addRate i q else s) = t at *
  refine (rated.trans (steady_excessTest _ i)).trans ?_
  split
  exacts [(stands_standingReport _ i).steady, .refl _]

theorem steady_suspectMeter (s : State) (i : SpotId) : Steady s (s.suspectMeter i) := by
  unfold State.suspectMeter
  split
  exacts [steady_changeCauses s i _, steady_changeCauses s i _, steady_changeCauses s i _, steady_changeCauses s i _, .refl s]

theorem steady_rejectSample (s : State) (i : SpotId) (d : Nat) : Steady s (s.rejectSample i d) := by
  unfold State.rejectSample
  simp only
  refine Steady.trans (Stands.steady ?_) (steady_suspectMeter _ i)
  split
  exacts [stands_modSpot s i _, .refl s]

theorem steady_creditSample (s : State) (i : SpotId) (d e : Nat) : Steady s (s.creditSample i d e) := by
  unfold State.creditSample
  split
  · exact .refl s
  · simp only
    split
    · exact (stands_modSpot s i _).steady.trans (steady_handOff _ i _ _)
    · exact steady_rejectSample s i d

theorem steady_disposeSample (s : State) (i : SpotId) (d e : Nat) : Steady s (s.disposeSample i d e) := by
  have unassigned : Steady s (s.addUnassigned i d) := (stands_modSpot s i _).steady
  unfold State.disposeSample
  split
  · split
    · exact steady_rejectSample s i d
    · split
      exacts [steady_creditSample s i d e, unassigned]
  · exact unassigned

theorem stands_setBaseline (s : State) (k : Nat) (b : Baseline) : Stands s (s.setBaseline k b) := by
  unfold State.setBaseline
  split
  · split
    exacts [stands_setBody s k _, .refl s]
  · exact .refl s

theorem steady_meterSample (s : State) (k : Nat) (i : SpotId) (n t : Word16) : Steady s (s.meterSample k i n t) := by
  unfold State.meterSample
  split
  · exact (stands_setBaseline s k _).steady
  · simp only
    split
    · exact .refl s
    · exact (stands_setBaseline s k _).steady.trans (steady_disposeSample _ i _ _)

/-! ## The Coordinator's events -/

theorem steady_reports (l : List SpotId) (s : State) : Steady s (l.foldl State.takeReport s) :=
  .foldl _ steady_takeReport l s

theorem mem_joins (l : List SpotId) (s : State) (j : SpotId) :
    j ∈ (l.foldl State.joinList s).waitList ↔ j ∈ l ∨ j ∈ s.waitList := by
  induction l generalizing s with
  | nil => simp
  | cons i l ih =>
    rw [List.foldl_cons, ih, mem_joinList, List.mem_cons]
    tauto

theorem spots_joins (l : List SpotId) (s : State) : (l.foldl State.joinList s).spots = s.spots := by
  induction l generalizing s with
  | nil => rfl
  | cons i l ih =>
    refine (ih _).trans ?_
    unfold State.joinList
    split <;> rfl

theorem spot_downMark (s : State) (c : CompId) (j : SpotId) : (s.downMark c).spot j = s.spot j := by
  rw [State.downMark, spot_of_spots (spots_joins _ _)]
  exact (onlyMap_writeLatch _ .compRun (compNumber c) .stop).spot j

theorem mem_waitList_downMark (s : State) (c : CompId) (j : SpotId) :
    j ∈ (s.downMark c).waitList ↔ j ∈ (s.comp c).attached ∨ j ∈ s.waitList := by
  have write : ∀ u : State, (u.writeComp .compRun c .stop).waitList = u.waitList := fun u =>
    (onlyMap_writeLatch u .compRun (compNumber c) .stop).waitList
  rw [State.downMark, mem_joins, waitList_modComp, State.compressorNotice, waitList_notice, waitList_modComp, write,
    waitList_modComp]

/-- A compressor that goes down leaves its spots on the wait list, lodged as before (R139). -/
theorem steady_downMark (s : State) (c : CompId) : Steady s (s.downMark c) := by
  intro h
  have comp := comp_downMark s c
  have homes : ∀ d j, j ∈ ((s.downMark c).comp d).attached → d ≠ c ∧ j ∈ (s.comp d).attached := fun d j hj => by
    rw [comp] at hj
    split at hj
    · cases hj
    · next e => exact ⟨e, hj⟩
  have level : ∀ d, d ≠ c → ((s.downMark c).comp d).level = (s.comp d).level := fun d e => by rw [comp, if_neg e]
  refine ⟨fun j => ?_, fun d => ?_⟩
  · obtain ⟨home, apart, usable, asks, waits⟩ := h.lodged j
    have demand : ((s.downMark c).spot j).demand = (s.spot j).demand := by rw [spot_downMark]
    refine ⟨fun d e hd he => home d e (homes d j hd).2 (homes e j he).2, fun d hd hw => ?_, fun d hd => ?_, fun d hd => ?_,
      fun hw => ?_⟩
    · obtain ⟨other, here⟩ := homes d j hd
      rcases (mem_waitList_downMark s c j).mp hw with there | waits
      · exact other (home d c here there)
      · exact apart d here waits
    · rw [level d (homes d j hd).1]
      exact usable d (homes d j hd).2
    · rw [demand]
      exact asks d (homes d j hd).2
    · rw [demand]
      exact ((mem_waitList_downMark s c j).mp hw).elim (asks c) waits
  · by_cases e : d = c
    · subst e
      rw [comp, if_pos rfl]
      exact levels_resting (.inr rfl) ⟨nofun, fun e => nomatch e.1⟩ rfl rfl rfl
    · have same : (s.downMark c).resolved d = s.resolved d :=
        resolved_of (by rw [comp, if_neg e]) fun j _ => by rw [spot_downMark]
      rw [comp, if_neg e, same]
      exact h.levels d

theorem steady_enterUnavailable (s : State) (c : CompId) : Steady s (s.enterUnavailable c) := by
  rw [enterUnavailable_eq]
  exact (steady_downMark s c).trans (steady_reports _ _)

theorem steady_checkUsable (s : State) (c : CompId) : Steady s (s.checkUsable c) := by
  unfold State.checkUsable
  split
  exacts [steady_enterUnavailable s c, .refl s]

theorem steady_monitorComp (s : State) (c : CompId) : Steady s (s.monitorComp c) :=
  (steady_checkUsable s c).trans (stands_writeComp _ _ c _).steady

/-- What acts on one compressor alone keeps the law where the compressor stays usable and comes to be as its demand has it. -/
theorem steady_drives {s t : State} {c : CompId} (drives : Drives c s t) (aside : Aside s t)
    (usable : Sound s → (s.comp c).attached ≠ [] → (t.comp c).level ≠ .unavailable)
    (levels : Sound s → Levels (t.comp c) (s.resolved c)) : Steady s t := by
  intro h
  refine ⟨fun j => ?_, fun d => ?_⟩
  · obtain ⟨home, apart, usable', asks, waits⟩ := h.lodged j
    have at_ : ∀ d, j ∈ (t.comp d).attached → j ∈ (s.comp d).attached := fun d hd => by rwa [drives.places] at hd
    refine ⟨fun d e hd he => home d e (at_ d hd) (at_ e he), fun d hd => by rw [drives.waitList]; exact apart d (at_ d hd),
      fun d hd => ?_, fun d hd => by rw [aside.demand]; exact asks d (at_ d hd),
      fun hw => by rw [aside.demand]; exact waits (by rwa [drives.waitList] at hw)⟩
    by_cases e : d = c
    · subst e
      exact usable h (List.ne_nil_of_mem (at_ d hd))
    · rw [drives.others d e]
      exact usable' d (at_ d hd)
  · rw [drives.resolved aside]
    by_cases e : d = c
    · subst e
      exact levels h
    · rw [drives.others d e]
      exact h.levels d

end Sys2Proof.Machine
end

section
/-! The Coordinator's events, the trip and every command keep the law of the Coordinator; with it O59. -/

namespace Sys2Proof.Machine

/-! ## What a report finds -/

theorem resolved_none_of_empty {s : State} {c : CompId} (h : (s.comp c).attached = []) : s.resolved c = .none := by
  rw [State.resolved, h]
  rfl

theorem Sound.asked {s : State} (h : Sound s) {c : CompId} (k : (s.comp c).attached ≠ []) : s.resolved c ≠ .none := by
  obtain ⟨i, hi⟩ := List.exists_mem_of_ne_nil _ k
  exact resolved_ne_none hi ((h.lodged i).asks c hi)

theorem Sound.empty {s : State} (h : Sound s) {c : CompId} (k : (s.comp c).level = .unavailable) : (s.comp c).attached = [] :=
  List.eq_nil_iff_forall_not_mem.mpr fun i hi => (h.lodged i).usable c hi k

theorem drives_writeRun (s : State) (c : CompId) (cmd : Command) : Drives c s (s.writeComp .compRun c cmd) :=
  drives_writeComp s .compRun c cmd (.inl rfl)

theorem drives_notice (s : State) (c : CompId) : Drives c s (s.compressorNotice c) :=
  ⟨fun _ _ => rfl, rfl, rfl, List.prefix_refl _, fun _ => entries_of_imap rfl fun _ => stillPort_offerNotice _ _ _⟩

/-- The compressor taken over from UNAVAILABLE: idling in RUN, stopping while TRIPPED (R140). -/
def State.takenOver (s : State) (c : CompId) : Device → Compressor
  | .run => { s.comp c with level := .idleRun, popdown := some (s.uptime + s.compField c (·.popdown)) }
  | .tripped => { s.comp c with
      level := .stopping, confirm := some ⟨s.uptime + s.compField c (·.startTimeout), .stopped⟩ }

theorem comp_returnToLevel (s : State) (c : CompId) (l : Level) :
    (s.returnToLevel c l).comp c = { s.comp c with level := l } := comp_setLevel_same s c l

theorem drives_returnToLevel (s : State) (c : CompId) (l : Level) : Drives c s (s.returnToLevel c l) :=
  (drives_setLevel s c l).trans (drives_notice _ c)

theorem aside_returnToLevel (s : State) (c : CompId) (l : Level) : Aside s (s.returnToLevel c l) :=
  (aside_setLevel s c l).trans (aside_notice _ _)

theorem comp_takeOver (s : State) (c : CompId) (d : Command) : (s.takeOver c d).comp c = s.takenOver c s.sdu.device := by
  unfold State.takeOver
  have comp : ∀ cmd, ((s.writeComp .compDir c d).writeComp .compRun c cmd).comp c = s.comp c := fun cmd => by
    rw [comp_writeComp, comp_writeComp]
  have now : ∀ cmd, ((s.writeComp .compDir c d).writeComp .compRun c cmd).uptime = s.uptime := fun cmd =>
    ((inner_writeComp s .compDir c d).trans (inner_writeComp _ .compRun c cmd)).uptime
  simp only [(inner_writeComp s .compDir c d).sdu]
  cases s.sdu.device with
  | run =>
    dsimp only
    rw [comp_returnToLevel, comp_startPopdown, comp, now, compField_congr (s := s) (by rw [comp])]
    rfl
  | tripped =>
    dsimp only
    rw [comp_returnToLevel, comp_startConfirmation, comp, now, compField_congr (s := s) (by rw [comp])]
    rfl

theorem drives_takeOver (s : State) (c : CompId) (d : Command) : Drives c s (s.takeOver c d) := by
  unfold State.takeOver
  have written := drives_writeComp s .compDir c d (.inr rfl)
  simp only
  split
  · exact ((written.trans (drives_writeRun _ c _)).trans (drives_startPopdown _ c)).trans (drives_returnToLevel _ c _)
  · exact ((written.trans (drives_writeRun _ c _)).trans (drives_startConfirmation _ c _)).trans (drives_returnToLevel _ c _)

theorem aside_takeOver (s : State) (c : CompId) (d : Command) : Aside s (s.takeOver c d) := by
  unfold State.takeOver
  have written := aside_writeComp s .compDir c d
  simp only
  split
  · exact ((written.trans (aside_writeComp _ _ c _)).trans (aside_startPopdown _ c)).trans (aside_returnToLevel _ c _)
  · exact ((written.trans (aside_writeComp _ _ c _)).trans (aside_startConfirmation _ c _)).trans (aside_returnToLevel _ c _)

theorem steady_takeOver {s : State} {c : CompId} (level : (s.comp c).level = .unavailable) (d : Command) :
    Steady s (s.takeOver c d) := by
  refine steady_drives (drives_takeOver s c d) (aside_takeOver s c d) (fun h k => absurd (h.empty level) k) fun h => ?_
  have was := h.levels c
  rw [resolved_none_of_empty (h.empty level)] at was ⊢
  have deferred := was.undeferred (by rw [level]; nofun)
  have confirm := was.unconfirmed (by rw [level]; nofun) (by rw [level]; nofun) (by rw [level]; nofun)
  obtain ⟨popdown, held⟩ := was.unheld (.inl (by rw [level]; nofun))
  rw [comp_takeOver]
  cases s.sdu.device with
  | run => exact levels_idling rfl deferred confirm rfl held
  | tripped => exact levels_moving (.inr (.inr rfl)) deferred rfl popdown held

theorem steady_leaveUnavailable {s : State} {c : CompId} (level : (s.comp c).level = .unavailable) (r : CompReading) :
    Steady s (s.leaveUnavailable c r) := by
  unfold State.leaveUnavailable
  split
  · exact .refl s
  · split
    · have comp : ((s.writeComp .compRun c .stop).returnToLevel c .stopped).comp c = { s.comp c with level := .stopped } := by
        rw [comp_returnToLevel, comp_writeComp]
      refine steady_drives ((drives_writeRun s c _).trans (drives_returnToLevel _ c _))
        ((aside_writeComp s _ c _).trans (aside_returnToLevel _ c _)) (fun h k => absurd (h.empty level) k) fun h => ?_
      have was := h.levels c
      rw [resolved_none_of_empty (h.empty level)] at was ⊢
      obtain ⟨popdown, held⟩ := was.unheld (.inl (by rw [level]; nofun))
      rw [comp]
      refine levels_resting (.inl rfl) ⟨fun e => ?_, fun e => absurd rfl e.2⟩
        (was.unconfirmed (by rw [level]; nofun) (by rw [level]; nofun) (by rw [level]; nofun)) popdown held
      exact absurd ((was.undeferred (by rw [level]; nofun)).symm.trans e) (by decide)
    · exact steady_takeOver level .fwd
    · exact steady_takeOver level .rev
    · exact .refl s

/-- The part as a running report is confirmed, before the demand is followed (R142, R143). -/
def State.confirmed (s : State) (c : CompId) (l : Level) : State :=
  (s.modComp c fun x => { x with confirm := none }).setLevel c l

theorem comp_confirmed (s : State) (c : CompId) (l : Level) :
    (s.confirmed c l).comp c = { s.comp c with confirm := none, level := l } := by
  rw [State.confirmed, comp_setLevel_same, comp_modComp_same]

theorem drives_confirmed (s : State) (c : CompId) (l : Level) : Drives c s (s.confirmed c l) :=
  (drives_modComp s c (fun x => { x with confirm := none }) rfl).trans (drives_setLevel _ c l)

theorem aside_confirmed (s : State) (c : CompId) (l : Level) : Aside s (s.confirmed c l) :=
  (aside_modComp s c _).trans (aside_setLevel _ c l)

theorem confirmRunning_eq (s : State) (c : CompId) : s.confirmRunning c = (s.confirmed c .idleRun).followDemand c := rfl

theorem confirmStop_eq (s : State) (c : CompId) : s.confirmStop c =
    if ((s.confirmed c .stopped).comp c).attached.isEmpty then s.confirmed c .stopped
    else ((s.confirmed c .stopped).startDecision c).reportAttached c := rfl

theorem steady_confirmRunning {s : State} {c : CompId} (level : (s.comp c).level = .starting ∨ (s.comp c).level = .reversing) :
    Steady s (s.confirmRunning c) := by
  have drives := drives_confirmed s c .idleRun
  have aside := aside_confirmed s c .idleRun
  rw [confirmRunning_eq]
  refine steady_drives (drives.trans (drives_followDemand _ c)) (aside.trans (aside_followDemand _ c)) (fun _ _ => ?_)
    fun h => ?_
  · rw [comp_followDemand]
    cases (s.confirmed c .idleRun).resolved c with
    | push => dsimp only [State.followed]; split <;> nofun
    | recover => dsimp only [State.followed]; split <;> nofun
    | hold => nofun
    | none => nofun
  · have was := h.levels c
    rw [← drives.resolved aside]
    refine levels_followDemand ?_ (by rw [comp_confirmed]) fun _ => ?_
    · rw [comp_confirmed]
      exact was.undeferred (by rcases level with e | e <;> rw [e] <;> nofun)
    · rw [comp_confirmed]
      exact (was.unheld (.inl (by rcases level with e | e <;> rw [e] <;> nofun))).2

theorem level_startDecision (s : State) (c : CompId) : ((s.startDecision c).comp c).level = .starting ∨
    ((s.startDecision c).comp c).level = (s.comp c).level := by
  by_cases few : (s.comp c).history.length < s.compField c (·.startLimit)
  · rw [comp_startDecision_few few]
    exact .inl rfl
  · rw [comp_startDecision_full (decide_eq_true (Nat.not_lt.mp few))]
    exact .inr rfl

theorem steady_confirmStop {s : State} {c : CompId} (level : (s.comp c).level = .stopping) : Steady s (s.confirmStop c) := by
  have drives := drives_confirmed s c .stopped
  have aside := aside_confirmed s c .stopped
  have unheld : Sound s → (s.comp c).popdown = none ∧ (s.comp c).held = false := fun h =>
    (h.levels c).unheld (.inl (by rw [level]; nofun))
  rw [confirmStop_eq]
  split
  · next none =>
    refine steady_drives drives aside (fun _ _ => by rw [comp_confirmed]; nofun) fun h => ?_
    rw [List.isEmpty_iff, drives.attached] at none
    have deferred := (h.levels c).undeferred (by rw [level]; nofun)
    rw [comp_confirmed, resolved_none_of_empty none]
    exact levels_resting (.inl rfl) ⟨fun e => absurd (deferred.symm.trans e) (by decide), fun e => absurd rfl e.2⟩ rfl
      (unheld h).1 (unheld h).2
  · next some =>
    rw [List.isEmpty_iff, drives.attached] at some
    refine Steady.trans ?_ (steady_reports _ _)
    refine steady_drives (drives.trans (drives_startDecision _ c)) (aside.trans (aside_startDecision _ c))
      (fun _ _ => ?_) fun h => ?_
    · rcases level_startDecision (s.confirmed c .stopped) c with e | e
      · rw [e]
        nofun
      · rw [e, comp_confirmed]
        nofun
    · rw [← drives.resolved aside]
      refine levels_startDecision (by rw [comp_confirmed]) (by rw [comp_confirmed]) ?_ ?_ ?_
      · rw [comp_confirmed]
        exact (unheld h).1
      · rw [comp_confirmed]
        exact (unheld h).2
      · rw [drives.resolved aside]
        exact h.asked some

theorem steady_stateReport (s : State) (c : CompId) (r : CompReading) : Steady s (s.stateReport c r) := by
  have down := steady_enterUnavailable s c
  have either : ∀ (p : Prop) [Decidable p] (a b : State), Steady s a → Steady s b → Steady s (if p then a else b) :=
    fun p _ a b ha hb => by
      split
      exacts [ha, hb]
  unfold State.stateReport
  split
  · split
    exacts [.refl s, down, down, down]
  · next level =>
    have runs := steady_confirmRunning (.inl level)
    split
    exacts [.refl s, either _ _ _ runs down, either _ _ _ runs down, down]
  · exact either _ _ _ (.refl s) down
  · exact either _ _ _ (.refl s) down
  · exact either _ _ _ (.refl s) down
  · next level =>
    have runs := steady_confirmRunning (.inr level)
    split
    exacts [.refl s, either _ _ _ runs (.refl s), either _ _ _ runs (.refl s), down]
  · next level =>
    split
    exacts [steady_confirmStop level, .refl s, .refl s, down]
  · next level => exact steady_leaveUnavailable level r

/-! ## Expiries of the compressors -/

theorem steady_popdownExpired {s : State} {c : CompId} (runs : (s.comp c).popdown.isSome = true) :
    Steady s (s.popdownExpired c) := by
  have aside : Aside s (s.popdownExpired c) := by
    unfold State.popdownExpired
    simp only
    refine (aside_modComp s c fun x => { x with popdown := none }).trans ?_
    split
    exacts [aside_modComp _ c _, aside_stopCompressor _ c]
  have idles : Sound s → (s.comp c).level = .idleRun ∧ s.resolved c = .none := fun h => (h.levels c).idle.mp (.inl runs)
  refine steady_drives (drives_popdownExpired s c) aside (fun h _ => ?_) fun h => ?_
  · rw [comp_popdownExpired]
    split
    · rw [(idles h).1]
      nofun
    · nofun
  · obtain ⟨level, none⟩ := idles h
    have was := h.levels c
    have deferred := was.undeferred (by rw [level]; nofun)
    have confirm := was.unconfirmed (by rw [level]; nofun) (by rw [level]; nofun) (by rw [level]; nofun)
    have unheld : (s.comp c).held = false := was.either.resolve_left fun e => by rw [e] at runs; cases runs
    rw [comp_popdownExpired, none]
    split
    · constructor <;> simp [level, deferred, confirm]
    · exact levels_moving (.inr (.inr rfl)) deferred rfl rfl unheld

theorem steady_removeStart (s : State) (c : CompId) : Steady s (s.removeStart c) := by
  have comp := comp_forgetStart s c
  have drop : ∀ d, d ≠ c → (s.forgetStart c).comp d = s.comp d := fun d e => comp_modComp_other s _ e
  have forgot : Steady s (s.forgetStart c) := fun h => by
    have same : ∀ d, ((s.forgetStart c).comp d).attached = (s.comp d).attached ∧
        ((s.forgetStart c).comp d).level = (s.comp d).level := fun d => by
      by_cases e : d = c
      · rw [e, comp]
        exact ⟨rfl, rfl⟩
      · rw [drop d e]
        exact ⟨rfl, rfl⟩
    refine ⟨fun i => (h.lodged i).congr (fun d hd => by rwa [(same d).1] at hd) id
      (fun d hd => by rwa [(same d).2] at hd) rfl, fun d => ?_⟩
    have resolved : (s.forgetStart c).resolved d = s.resolved d := resolved_of (same d).1 fun _ _ => rfl
    rw [resolved]
    by_cases e : d = c
    · rw [e, comp]
      exact (h.levels c).congr rfl rfl rfl rfl rfl
    · rw [drop d e]
      exact h.levels d
  rcases removeStart_cases s c with ⟨mark, e⟩ | ⟨mark, e⟩ | ⟨_, e⟩
  · rw [e]
    refine forgot.trans (Steady.trans ?_ (steady_reports _ _))
    have starts : Sound (s.forgetStart c) → ((s.forgetStart c).comp c).level = .stopped ∧
        (s.forgetStart c).resolved c ≠ .none := fun h =>
      (h.levels c).deferred.mp (by rw [comp]; exact mark)
    refine steady_drives (drives_startDecision _ c) (aside_startDecision _ c) (fun h _ => ?_) fun h => ?_
    · rcases level_startDecision (s.forgetStart c) c with e | e
      · rw [e]
        nofun
      · rw [e, (starts h).1]
        nofun
    · obtain ⟨level, asks⟩ := starts h
      obtain ⟨popdown, held⟩ := (h.levels c).unheld (.inl (by rw [level]; nofun))
      exact levels_startDecision level
        ((h.levels c).unconfirmed (by rw [level]; nofun) (by rw [level]; nofun) (by rw [level]; nofun)) popdown held asks
  · by_cases held : (s.comp c).held = true
    · rw [e]
      refine forgot.trans (steady_drives ((drives_modComp _ c _ rfl).trans (drives_stopCompressor _ c))
        ((aside_modComp _ c _).trans (aside_stopCompressor _ c)) (fun _ _ => by rw [comp_stopCompressor]; nofun) fun h => ?_)
      have was := h.levels c
      have held' : ((s.forgetStart c).comp c).held = true := by rw [comp]; exact held
      obtain ⟨level, _⟩ := was.idle.mp (.inr held')
      have popdown := was.either.resolve_right (by rw [held']; decide)
      rw [comp_stopCompressor, comp_modComp_same]
      exact levels_moving (.inr (.inr rfl)) (was.undeferred (by rw [level]; nofun)) rfl popdown rfl
    · have rests : s.removeStart c = s.forgetStart c := by
        have mark' : ¬ ((s.forgetStart c).comp c).deferred = true := by rw [comp, mark]; decide
        have held' : ((s.forgetStart c).comp c).held = false := by rw [comp]; exact (Bool.not_eq_true _).mp held
        exact (if_neg mark').trans (if_neg (show ¬ (((s.forgetStart c).comp c).held && !(s.forgetStart c).historyFull c) = true
          by rw [held']; exact Bool.false_ne_true))
      rw [rests]
      exact forgot
  · rw [e]
    exact forgot

/-! ## The trip -/

/-- The answers to spots outside the active states are grants taken, and leave the law's parts. -/
theorem stands_quiet_reports (l : List SpotId) {s : State} (quiet : ∀ i, s.isActive i = false) :
    Stands s (l.foldl State.takeReport s) := by
  induction l generalizing s with
  | nil => exact .refl s
  | cons i l ih =>
    have rest : ∀ j, (s.takeGrant i).isActive j = false := fun j => by
      rw [State.isActive, state_takeGrant]
      exact quiet j
    rw [List.foldl_cons, takeReport_quiet (quiet i)]
    exact (stands_takeGrant s i).trans (ih rest)

/-- A compressor that loses every spot keeps the law where it comes to rest. -/
theorem sound_emptied {s t : State} {c : CompId} (h : Sound s) (others : ∀ d, d ≠ c → t.comp d = s.comp d)
    (empty : (t.comp c).attached = []) (list : t.waitList = s.waitList) (demands : ∀ i, (t.spot i).demand = (s.spot i).demand)
    (levels : Levels (t.comp c) .none) : Sound t := by
  have at_ : ∀ d i, i ∈ (t.comp d).attached → d ≠ c ∧ i ∈ (s.comp d).attached := fun d i hi => by
    by_cases e : d = c
    · rw [e, empty] at hi
      cases hi
    · rw [others d e] at hi
      exact ⟨e, hi⟩
  refine ⟨fun i => ?_, fun d => ?_⟩
  · obtain ⟨home, apart, usable, asks, waits⟩ := h.lodged i
    refine ⟨fun d e hd he => home d e (at_ d i hd).2 (at_ e i he).2,
      fun d hd => by rw [list]; exact apart d (at_ d i hd).2, fun d hd => ?_,
      fun d hd => by rw [demands]; exact asks d (at_ d i hd).2, fun hw => by rw [demands]; exact waits (list ▸ hw)⟩
    rw [others d (at_ d i hd).1]
    exact usable d (at_ d i hd).2
  · by_cases e : d = c
    · rw [e, resolved_none_of_empty empty]
      exact levels
    · rw [others d e, resolved_of (s := s) (by rw [others d e]) fun j _ => demands j]
      exact h.levels d

/-- A compressor whose spots, marks and idle timer the trip has taken (R154). -/
def Compressor.stripped (x : Compressor) : Compressor :=
  { x with attached := [], popdown := none, deferred := false, held := false }

theorem comp_tripComp {s : State} {c : CompId} (quiet : ∀ i, s.isActive i = false) :
    Stands (s.modComp c Compressor.stripped) ((s.comp c).attached.foldl State.takeReport (s.modComp c Compressor.stripped)) ∧
    ((s.tripComp c).comp c).attached = [] ∧ (Sound s → Levels ((s.tripComp c).comp c) .none) := by
  have stands := stands_quiet_reports (s.comp c).attached (s := s.modComp c Compressor.stripped) quiet
  refine ⟨stands, ?_⟩
  unfold State.tripComp
  simp only
  generalize hv : (s.comp c).attached.foldl State.takeReport (s.modComp c fun x => { x with
    attached := [], popdown := none, deferred := false, held := false }) = v
  have comp : v.comp c = (s.comp c).stripped := by
    rw [← hv]
    exact (stands.comps c).trans (comp_modComp_same s c _)
  split
  · rw [comp_stopCompressor, comp]
    exact ⟨rfl, fun _ => levels_moving (.inr (.inr rfl)) rfl rfl rfl rfl⟩
  · next rests =>
    rw [comp] at rests ⊢
    refine ⟨rfl, fun h => ?_⟩
    obtain ⟨_, confirm, _, _, _⟩ := h.levels c
    have confirm' : (s.comp c).stripped.confirm.isSome = true ↔ (s.comp c).stripped.level = .starting ∨
      (s.comp c).stripped.level = .reversing ∨ (s.comp c).stripped.level = .stopping := confirm
    have level : (s.comp c).stripped.level = .stopped ∨ (s.comp c).stripped.level = .stopping ∨
        (s.comp c).stripped.level = .unavailable := by
      cases e : (s.comp c).stripped.level <;> simp_all [Level.tripStops]
    refine ⟨⟨nofun, fun e => absurd rfl e.2⟩, confirm', ⟨fun e => e.elim nofun nofun, fun e => ?_⟩, .inl rfl, ?_⟩
    · rcases level with l | l | l <;> rw [l] at e <;> cases e.1
    · rcases level with l | l | l <;> rw [l] <;> simp

theorem steady_tripComp {s : State} (quiet : ∀ i, s.isActive i = false) (c : CompId) : Steady s (s.tripComp c) := by
  intro h
  obtain ⟨stands, empty, levels⟩ := comp_tripComp (c := c) quiet
  have others : ∀ d, d ≠ c → (s.tripComp c).comp d = s.comp d := fun d e => by
    unfold State.tripComp
    simp only
    split
    · rw [(drives_stopCompressor _ c).others d e]
      exact (stands.comps d).trans (comp_modComp_other s _ e)
    · exact (stands.comps d).trans (comp_modComp_other s _ e)
  refine sound_emptied h others empty ?_ (fun i => ?_) (levels h)
  · unfold State.tripComp
    simp only
    split
    · exact (drives_stopCompressor _ c).waitList.trans stands.waitList
    · exact stands.waitList
  · unfold State.tripComp
    simp only
    split
    · exact ((aside_stopCompressor _ c).demand i).trans (stands.demands i)
    · exact stands.demands i

theorem quiet_of_inside {s t : State} (h : Inside s t) (quiet : ∀ i, s.isActive i = false) (i : SpotId) :
    t.isActive i = false := by
  rw [← Bool.not_eq_true]
  exact fun active => absurd ((quiet i).symm.trans (h.active i active)) (by decide)

theorem steady_tripComps {s : State} (quiet : ∀ i, s.isActive i = false) : Steady s s.tripComps := by
  have fold : ∀ (l : List CompId) (u : State), (∀ i, u.isActive i = false) → Steady u (l.foldl State.tripComp u) := by
    intro l
    induction l with
    | nil => exact fun u _ => .refl u
    | cons c l ih =>
      exact fun u hu => (steady_tripComp hu c).trans (ih _ (quiet_of_inside (inner_tripComp u c) hu))
  have still : ∀ i, (allComps.foldl State.tripComp s).isActive i = false :=
    quiet_of_inside (Inside.foldl _ inner_tripComp _ _) quiet
  unfold State.tripComps
  simp only
  refine (fold allComps s quiet).trans ?_
  generalize allComps.foldl State.tripComp s = u at *
  refine Steady.trans (b := { u with waitList := [] }) (fun h => ⟨fun i => ?_, h.levels⟩)
    (stands_quiet_reports u.waitList (s := { u with waitList := [] }) still).steady
  exact (h.lodged i).congr (fun _ => id) (fun hw => nomatch hw) (fun _ => id) rfl

theorem OnlyMap.steady {s t : State} (h : OnlyMap s t) : Steady s t := h.stands.steady

theorem onlyMap_forceAllSafe (s : State) : OnlyMap s s.forceAllSafe := OnlyMap.foldl _ onlyMap_forceSafe _ _

theorem steady_tripSpots (s : State) : Steady s s.tripSpots := .foldl _ (fun s i => steady_faultSpot s i .tripped) _ _

theorem steady_addTripCause (s : State) (added : TripCauses) : Steady s (s.addTripCause added) := by
  unfold State.addTripCause
  split
  · rw [tripEntry_eq]
    refine Steady.trans ?_ (onlyMap_forceAllSafe _).steady
    refine Steady.trans ?_ (steady_tripComps (tripSpots_quiet _))
    refine Steady.trans ?_ (steady_tripSpots _)
    exact ((stands_of_parts s (t := s.tripMark added) rfl rfl rfl).trans (stands_notice _ _)).steady
  · exact Stands.steady ⟨fun _ => rfl, rfl, fun _ => rfl⟩

end Sys2Proof.Machine
end

section
/-! Every command keeps the law of the Coordinator (R137 to R155). -/

namespace Sys2Proof.Machine

/-! ## Samples and staleness -/

theorem steady_tellFresh (s : State) (r : Role) (l : List SpotId) : Steady s (s.tellFresh r l) := by
  have fresh : Steady s (l.foldl State.freshSpot s) := .foldl _ (fun u i => by
    unfold State.freshSpot
    split
    exacts [.refl u, steady_changeCauses u i _]) l s
  unfold State.tellFresh
  split
  exacts [fresh, fresh, fresh, fresh, .refl s]

theorem steady_deliver (s : State) (k : Nat) (e : MapEntry) (l : List SpotId) (v : Value) : Steady s (s.deliver k e l v) := by
  unfold State.deliver
  split
  · exact .foldl _ (fun u i => steady_meterSample u k i _ _) l s
  · exact .refl s
  · split
    · exact .foldl _ (fun u i => steady_deliverCarPressure u i _) l s
    · exact .foldl _ steady_deliverTankPressure l s
  · exact .foldl _ (fun u i => steady_deliverPosition u i _ _) l s
  · exact .foldl _ (fun u i => steady_deliverTag u i _) l s
  · split
    · exact steady_stateReport s _ _
    · exact .refl s
  · split
    · exact .foldl _ (fun u i => steady_connectionReport u i _ _) l s
    · exact .foldl _ (fun u i => steady_connectionReport u i _ _) l s
    · exact .foldl _ (fun u i => steady_connectionReport u i _ _) l s
    · exact .foldl _ (fun u i => steady_changeCauses u i _) l s
    · split
      exacts [steady_addTripCause s _, .refl s]
    · exact .refl s

theorem steady_acceptSample (s : State) (k : Nat) (e : MapEntry) (d : Dynamic) (q : Byte) (v : Value) :
    Steady s (s.acceptSample k e d q v) := by
  unfold State.acceptSample
  simp only
  refine Steady.trans ?_ (steady_deliver _ k e _ _)
  generalize hu : s.setBody k (.input (acceptInto d e.role q v s.uptime)) = u
  have stored : Stands s u := hu ▸ stands_setBody s k _
  refine (stored.trans (stands_reevaluateAll u (concernedSpots u e.role e.owner))).steady.trans ?_
  split
  exacts [steady_tellFresh _ _ _, .refl _]

theorem steady_offerSample (s : State) (f : Frame) : Steady s (s.offerSample f) := by
  unfold State.offerSample
  split
  · exact .refl s
  · split
    · exact .refl s
    · split
      · exact .refl s
      · split
        · exact .refl s
        · split
          · split
            · exact (steady_acceptSample s _ _ _ _ _).trans (steady_endScan _)
            · exact .refl s
          · exact .refl s

theorem steady_tellStale (s : State) (r : Role) (o : Nat) (l : List SpotId) : Steady s (s.tellStale r o l) := by
  have lost : ∀ e, Steady s (l.foldl (fun s i => s.connectionLost i e) s) := fun e =>
    .foldl _ (fun u i => steady_connectionLost u i e) l s
  have caused : ∀ f, Steady s (l.foldl (fun s i => s.changeCauses i f) s) := fun f =>
    .foldl _ (fun u i => steady_changeCauses u i f) l s
  unfold State.tellStale
  split
  case h_6 =>
    split
    exacts [steady_checkUsable s _, .refl s]
  exacts [lost _, lost _, lost _, caused _, steady_addTripCause s _, caused _, caused _, caused _, caused _, .refl s,
    .refl s, .refl s, .refl s, .refl s, .refl s, .refl s]

theorem steady_stalenessExpiry (s : State) (k : Nat) : Steady s (s.stalenessExpiry k) := by
  unfold State.stalenessExpiry
  split
  · exact .refl s
  · split
    · exact .refl s
    · split
      · unfold State.goStale
        simp only
        refine Steady.trans ?_ (steady_endScan _)
        refine Steady.trans ?_ (stands_reevaluateAll _ _).steady
        exact (stands_setBody s k _).steady.trans (steady_tellStale _ _ _ _)
      · exact .refl s

/-! ## Expiries -/

theorem steady_travelExpired (s : State) (i : SpotId) : Steady s (s.travelExpired i) := by
  unfold State.travelExpired
  split
  exacts [(steady_faultSpot s i _).trans (steady_endScan _), .refl s]

theorem steady_pressuriseExpired (s : State) (i : SpotId) : Steady s (s.pressuriseExpired i) := by
  unfold State.pressuriseExpired
  split
  exacts [(steady_faultSpot s i _).trans (steady_endScan _), .refl s]

theorem steady_suspendExpired (s : State) (i : SpotId) : Steady s (s.suspendExpired i) := by
  unfold State.suspendExpired
  simp only
  split
  · refine Steady.trans ?_ (steady_endScan _)
    refine Steady.trans ?_ (steady_causeTest _ i)
    refine Steady.trans ?_ (stands_setNoCompressor _ i false).steady
    exact (stands_modSpot s i _).steady.trans (steady_handDemand _ i .none)
  · exact .refl s

theorem steady_passExpired (s : State) (i : SpotId) : Steady s (s.passExpired i) := by
  unfold State.passExpired
  simp only
  split
  exacts [(steady_endPass s i).trans (steady_endScan _), .refl s]

theorem steady_settleExpired (s : State) (i : SpotId) : Steady s (s.settleExpired i) := by
  unfold State.settleExpired
  simp only
  split
  exacts [(steady_settleTest s i).trans (steady_endScan _), .refl s]

theorem steady_confirmationExpired (s : State) (c : CompId) : Steady s (s.confirmationExpired c) := by
  unfold State.confirmationExpired
  split
  exacts [(steady_enterUnavailable s c).trans (steady_endScan _), .refl s]

theorem steady_popdownDue (s : State) (c : CompId) : Steady s (s.popdownDue c) := by
  unfold State.popdownDue
  cases timer : (s.comp c).popdown with
  | none => exact .refl s
  | some u =>
    split
    exacts [steady_popdownExpired (by rw [timer]; rfl), .refl s]

theorem steady_startAged (s : State) (c : CompId) : Steady s (s.startAged c) := by
  unfold State.startAged
  split
  exacts [(steady_removeStart s c).trans (steady_endScan _), .refl s]

theorem stands_refreshExpired (s : State) (k : Nat) : Stands s (s.refreshExpired k) := by
  unfold State.refreshExpired
  split
  · exact .refl s
  · split
    · exact .refl s
    · split
      · split
        exacts [(onlyMap_offerCommand s k _).stands, .refl s]
      · exact .refl s

/-- A change of a compressor that the law does not speak of. -/
theorem steady_modComp (s : State) (c : CompId) (f : Compressor → Compressor)
    (attached : (f (s.comp c)).attached = (s.comp c).attached) (level : (f (s.comp c)).level = (s.comp c).level)
    (deferred : (f (s.comp c)).deferred = (s.comp c).deferred) (confirm : (f (s.comp c)).confirm = (s.comp c).confirm)
    (popdown : (f (s.comp c)).popdown = (s.comp c).popdown) (held : (f (s.comp c)).held = (s.comp c).held)
    (history : (f (s.comp c)).history = (s.comp c).history) : Steady s (s.modComp c f) := by
  refine steady_drives (drives_modComp s c f attached (by rw [history])) (aside_modComp s c f) (fun h k => ?_) fun h => ?_
  · rw [comp_modComp_same, level]
    exact fun down => k (h.empty down)
  · rw [comp_modComp_same]
    exact (h.levels c).congr level deferred confirm popdown held

theorem stands_tickUptime (s : State) : Stands s s.tickUptime := by
  unfold State.tickUptime
  split <;> exact stands_of_parts s rfl rfl rfl

/-! ## The ring port and the Management Unit -/

theorem stands_takeRequest (s : State) : Stands s s.takeRequest := by
  obtain ⟨m, l, q, e⟩ := takeRequest_eq s
  rw [e]
  exact ⟨fun _ => rfl, rfl, fun _ => rfl⟩

theorem stands_answer (s : State) (q : Request) (r : Reply) : Stands s (s.answer q r) :=
  (stands_of_parts s (t := { s with
      mgu := { s.mgu with held := none }
      rpu := kick { s.rpu with messages := fillReservation (replyMessage q r) s.rpu.messages } }) rfl rfl rfl).trans
    (stands_takeRequest _)

theorem stands_modRpu (s : State) (f : Rpu → Rpu) : Stands s (s.modRpu f) := stands_of_parts s rfl rfl rfl

theorem stands_takeManage (s : State) (f : Frame) : Stands s (s.takeManage f) := by
  unfold State.takeManage
  split
  exacts [(stands_modRpu s _).trans (stands_takeRequest _), stands_modRpu s _]

theorem steady_frameArrival (s : State) (f : Frame) : Steady s (s.frameArrival f) := by
  unfold State.frameArrival
  split
  · refine (stands_of_parts s (t := s.noteValidFrame) rfl rfl rfl).steady.trans ?_
    generalize s.noteValidFrame = t
    simp only
    split
    · split
      exacts [.refl t, (stands_modRpu _ _).steady]
    · split
      · exact .refl t
      · split
        · exact .refl t
        · unfold State.disposeFrame
          split
          · exact (steady_offerSample t f).trans (stands_modRpu _ _).steady
          · split
            exacts [(stands_takeManage _ _).steady, (stands_modRpu _ _).steady]
  · exact .refl s

theorem stands_transmitComplete (s : State) : Stands s s.transmitComplete := by
  unfold State.transmitComplete
  split
  exacts [.refl s, (stands_modRpu s _).trans (stands_takeRequest _)]

theorem steady_silenceExpired (s : State) : Steady s s.silenceExpired := by
  unfold State.silenceExpired
  split
  · exact .refl s
  · split
    · refine Steady.trans (Stands.steady ?_) (steady_addTripCause _ _)
      exact stands_of_parts s rfl rfl rfl
    · exact .refl s

/-! ## Requests -/

theorem steady_checkOwner (s : State) (r : Role) (o : Nat) : Steady s (s.checkOwner r o) := by
  unfold State.checkOwner
  split
  · split
    exacts [steady_checkUsable s _, .refl s]
  · exact .refl s

theorem stands_of_imap (s : State) (m : List (Nat × MapEntry)) : Stands s { s with imap := m } := stands_of_parts s rfl rfl rfl

theorem steady_withdraw (s : State) (k : Nat) (e : MapEntry) : Steady s (s.withdraw k e) :=
  (stands_of_imap s _).steady.trans (steady_checkOwner _ _ _)

theorem steady_takeEntry (s : State) (k : Nat) (w : MapWrite) : Steady s (s.takeEntry k w) := by
  unfold State.takeEntry
  split
  · refine Steady.trans ?_ (steady_checkOwner _ _ _)
    refine (onlyMap_settleOutput s k none).steady.trans ?_
    split
    exacts [(onlyMap_writeLatch _ .liqCmd w.owner .closed).steady, .refl _]
  · split
    exacts [steady_tellStale s _ _ _, .refl s]

theorem steady_writeEntry (s : State) (k : Nat) (w : MapWrite) : Steady s (s.writeEntry k w) := by
  unfold State.writeEntry
  refine Steady.trans ?_ ((stands_reevaluateAll _ _).steady.trans (steady_endScan _))
  refine Steady.trans ?_ (steady_takeEntry _ k w)
  refine Steady.trans ?_ (stands_of_imap _ _).steady
  refine Steady.trans (b := s.clearIndex k) (stands_modRpu s _).steady ?_
  unfold State.withdrawOld
  split
  · split
    exacts [.refl _, steady_withdraw _ k _]
  · exact .refl _

theorem steady_removeEntry (s : State) (k : Nat) (e : MapEntry) : Steady s (s.removeEntry k e) :=
  ((stands_modRpu s _).steady.trans (steady_withdraw _ k e)).trans
    ((stands_reevaluateAll _ _).steady.trans (steady_endScan _))

theorem stands_storeRecord (s : State) (i : SpotId) (r : SpotRecord) : Stands s (s.storeRecord i r) := by
  unfold State.storeRecord
  simp only
  refine (stands_of_parts s (t := s.setRecord i r) rfl rfl rfl).trans ?_
  generalize conditionSet (s.setRecord i r) i _ = now
  refine (onlyConditions_storeConditions (s.setRecord i r) i now).stands.trans ?_
  split
  exacts [.refl _, stands_changeState _ i _]

theorem stands_removeRecord (s : State) (p : Nat) : Stands s (s.removeRecord p) :=
  ⟨fun _ => rfl, rfl, fun i => by simp [State.removeRecord, State.spot, Vector.get_eq_getElem]⟩

theorem stands_dropTally (s : State) (i : SpotId) : Stands s (s.dropTally i) :=
  (stands_modSpot s i fun x => { x with unassigned := 0 }).trans ⟨fun _ => rfl, rfl, fun _ => rfl⟩

theorem stands_clearVacant (s : State) (i : SpotId) : Stands s (s.clearVacant i) := by
  unfold State.clearVacant
  refine (stands_dropTally s i).trans ?_
  simp only
  split
  exacts [stands_matchTag _ i _, stands_reportUnknownTag _ i false]

theorem stands_startTransfer (s : State) (i : SpotId) : Stands s (s.startTransfer i) := by
  unfold State.startTransfer
  simp only
  refine Stands.trans ?_ (stands_announce _ i)
  refine Stands.trans ?_ ((stands_modSpot _ i _).trans (stands_modSpot _ i _))
  exact ((stands_modSpot s i _).trans (stands_writeValve _ _ i _)).trans (stands_writeValve _ _ i _)

theorem steady_stopTransfer (s : State) (i : SpotId) : Steady s (s.stopTransfer i) := by
  unfold State.stopTransfer
  simp only
  refine Steady.trans ?_ (steady_endScan _)
  exact ((stands_modSpot s i _).trans (stands_modSpot _ i _)).steady.trans (steady_enterLiquidClosing _ i)

theorem steady_resumeTransfer (s : State) (i : SpotId) : Steady s (s.resumeTransfer i) :=
  ((stands_modSpot s i _).steady.trans (steady_causeTest _ i)).trans (steady_endScan _)

theorem steady_abortTransfer (s : State) (i : SpotId) : Steady s (s.abortTransfer i) := by
  unfold State.abortTransfer
  simp only
  refine Steady.trans ?_ (steady_endScan _)
  have first : ∀ u, Stands s u → Steady s ((u.handDemand i .none).modSpot i fun x =>
      { x with pendingOutcome := some .aborted }) := fun u hu =>
    (hu.steady.trans (steady_handDemand u i .none)).trans (stands_modSpot _ i _).steady
  have begun := first _ ((((stands_modSpot s i fun x =>
    { x with pressurise := none, suspendTimer := none, pass := none, settle := none }).trans (stands_closeValves _ i)).trans
      (stands_modSpot _ i (emptyCauses (liveCauses s i)))).trans (stands_modSpot _ i fun x => { x with sub := none }))
  split
  · exact begun
  · exact begun.trans (((stands_modSpot _ i _).trans (stands_modSpot _ i _)).trans (stands_announce _ i)).steady

theorem steady_carries {c : Instr} {s t : State} (h : Carries s c t) : Steady s t := by
  cases h with
  | readSpot i b => exact Stands.steady ⟨fun _ => rfl, rfl, fun _ => rfl⟩
  | readCompressor c => exact steady_modComp s c _ rfl rfl rfl rfl rfl rfl rfl
  | writeEntry k w => exact steady_writeEntry s k w
  | removeEntry k e => exact steady_removeEntry s k e
  | storeRecord i r => exact (stands_storeRecord s i r).steady
  | storeCurve i r points => exact Stands.steady ⟨fun _ => rfl, rfl, fun _ => rfl⟩
  | storeGroup g v => exact Stands.steady ⟨fun _ => rfl, rfl, fun _ => rfl⟩
  | storeComp c r => exact steady_modComp s c _ rfl rfl rfl rfl rfl rfl rfl
  | removeComp c =>
    exact (steady_modComp s c (fun x => { x with record := none }) rfl rfl rfl rfl rfl rfl rfl).trans
      ((steady_checkUsable _ c).trans (steady_endScan _))
  | addCar r => exact (stands_manifest s _).steady
  | removeCar p => exact (stands_removeRecord s p).steady
  | start i => exact (stands_startTransfer s i).steady
  | suspend i => exact (steady_changeCauses s i _).trans (steady_endScan _)
  | resume i => exact steady_resumeTransfer s i
  | stop i => exact steady_stopTransfer s i
  | abort i => exact steady_abortTransfer s i
  | abortIdle i => exact steady_endTransfer s i _ _ _
  | release i => exact ((stands_dropTally s i).trans (stands_changeState _ i _)).steady
  | clearFaulted i =>
    exact (((stands_dropTally s i).trans (stands_reportUnknownTag _ i false)).trans (stands_changeState _ i _)).steady
  | clearVacant i => exact (stands_clearVacant s i).steady
  | drive k e o b cmd => exact (onlyMap_changeOutput s k _).steady
  | monitor k e o =>
    exact ((onlyMap_changeOutput s k _).steady.trans (steady_checkOwner _ _ _)).trans (steady_endScan _)
  | ackChanges i named => exact Stands.steady ⟨fun _ => rfl, rfl, fun _ => rfl⟩
  | trip => exact steady_addTripCause s _
  | tripReset =>
    rw [enterRun_eq]
    exact (stands_of_parts s (t := s.runMark) rfl rfl rfl).steady.trans (onlyMap_enterRun s).steady

/-! ## RESET_PART -/

/-- After RESET_PART at the spots no spot is active (R87). -/
theorem resetSpot_inactive (s : State) (i : SpotId) : (s.resetSpot i).isActive i = false := by
  have rest : (s.restState i).active = false := by
    unfold State.restState
    split
    · split <;> rfl
    · rfl
  have close : ∀ u : State, (if ((u.reportUnknownTag i false).spot i).state = s.restState i then u.reportUnknownTag i false
      else (u.reportUnknownTag i false).changeState i (s.restState i)).isActive i = false := fun u => by
    split
    · next e => rw [State.isActive, e, rest]
    · rw [State.isActive, state_changeState, rest]
  unfold State.resetSpot
  simp only
  split
  · rw [State.isActive, state_reportUnknownTag, state_endTransfer, rest]
  · split
    exacts [close _, close _, close _]

theorem resetSpots_quiet (s : State) (i : SpotId) : s.resetSpots.isActive i = false :=
  foldl_inactive _ inner_resetSpot resetSpot_inactive _ _ _ (mem_allSpots i)

theorem steady_monitorAll (s : State) : Steady s s.monitorAll :=
  (OnlyMap.foldl _ (fun u k => onlyMap_changeOutput u k _) _ s).steady.trans (.foldl _ steady_monitorComp _ _)

theorem steady_addReset (s : State) : Steady s s.addReset := by
  unfold State.addReset
  split
  exacts [steady_addTripCause s _, (steady_addTripCause s _).trans (onlyMap_forceAllSafe _).steady]

theorem stands_clearStanding (s : State) : Stands s s.clearStanding := stands_of_parts s rfl rfl rfl

theorem isActive_clearStanding (s : State) (i : SpotId) : s.clearStanding.isActive i = s.isActive i := rfl

theorem steady_resetSpots (s : State) : Steady s s.resetSpots := .foldl _ steady_resetSpot _ _

theorem steady_resetEffect (s : State) (m : Message) : Steady s (s.resetEffect m) := by
  unfold State.resetEffect
  refine Steady.trans ?_ (steady_endScan _)
  refine Steady.trans ?_ (steady_addReset _)
  refine Steady.trans ?_ (steady_monitorAll _)
  have quiet : ∀ i, (s.resetPort m).resetSpots.clearStanding.isActive i = false := fun i => by
    rw [isActive_clearStanding, resetSpots_quiet]
  refine Steady.trans ?_ (steady_tripComps quiet)
  refine Steady.trans ?_ (stands_clearStanding _).steady
  exact (stands_modRpu s _).steady.trans (steady_resetSpots _)

theorem stands_letGo (s : State) : Stands s { s with mgu := { s.mgu with held := none } } := stands_of_parts s rfl rfl rfl

/-! ## Every command -/

theorem steady_acts {c : Instr} {s t : State} (h : Acts s c t) : Steady s t := by
  cases h with
  | esdAsserted =>
    refine Steady.trans (Stands.steady ?_) (steady_addTripCause _ _)
    exact stands_of_parts s rfl rfl rfl
  | esdReleased => exact Stands.steady ⟨fun _ => rfl, rfl, fun _ => rfl⟩
  | frame f => exact steady_frameArrival s f
  | transmit => exact (stands_transmitComplete s).steady
  | silence => exact steady_silenceExpired s
  | staleness k => exact steady_stalenessExpiry s k
  | travel n i => exact steady_travelExpired s i
  | pressurise n i => exact steady_pressuriseExpired s i
  | suspend n i => exact steady_suspendExpired s i
  | pass n i => exact steady_passExpired s i
  | settle n i => exact steady_settleExpired s i
  | confirmation n c => exact steady_confirmationExpired s c
  | popdown n c => exact steady_popdownDue s c
  | history n c => exact steady_startAged s c
  | refresh k => exact (stands_refreshExpired s k).steady
  | tick =>
    exact (Steady.foldl _ (fun u k => steady_modComp u k addSecond rfl rfl rfl rfl rfl rfl rfl) _ s).trans
      (stands_tickUptime _).steady
  | answered _ q r => exact (stands_answer s q r).steady
  | carried _ u q r _ effect => exact (steady_carries effect).trans (stands_answer _ _ _).steady
  | resetPart q =>
    exact ((steady_resetEffect s (replyMessage q ⟨.done, []⟩)).trans (stands_letGo _).steady).trans
      (stands_takeRequest _).steady

/-- A part without transfers and with every compressor UNAVAILABLE. -/
theorem sound_powerOn (s : State) (b : Byte) : Sound (s.powerOnState b) := by
  have comp : ∀ c, (s.powerOnState b).comp c = Compressor.initial := by
    have fresh : ∀ c : CompId, (Vector.replicate 4 Compressor.initial).get c = Compressor.initial := fun c => by
      simp [Vector.get_eq_getElem]
    exact fresh
  refine ⟨fun i => Nowhere.lodged ⟨fun c => ?_, List.not_mem_nil⟩, fun c => ?_⟩
  · rw [comp]
    exact List.not_mem_nil
  · rw [comp, resolved_none_of_empty (by rw [comp]; rfl)]
    exact levels_resting (.inr rfl) ⟨nofun, fun e => absurd rfl e.2⟩ rfl rfl rfl

theorem sound_falls {c : Instr} {s t : State} (h : Falls s c t) (k : Sound s) : Sound t := by
  cases h with
  | idle => exact k
  | powerOn b => exact sound_powerOn s b
  | resetInput b => exact sound_powerOn _ b
  | resetLine b => exact Stands.sound (s := s) ⟨fun _ => rfl, rfl, fun _ => rfl⟩ k
  | resetRelease => exact Stands.sound (s := s) ⟨fun _ => rfl, rfl, fun _ => rfl⟩ k
  | loss => exact Stands.sound (s := s) ⟨fun _ => rfl, rfl, fun _ => rfl⟩ k
  | esdLevel c b line => exact Stands.sound (s := s) ⟨fun _ => rfl, rfl, fun _ => rfl⟩ k
  | acts c t on effect => exact steady_acts effect k

/-! ## The laws of the arbiter and of the levels -/

theorem sound_of_laws {s : State} (arbiter : ArbiterOk s) (levels : LevelsOk s) : Sound s := by
  have none : ∀ c, s.resolved c = .none ↔ (s.comp c).attached = [] := fun c =>
    ⟨fun h => List.eq_nil_iff_forall_not_mem.mpr fun i hi => resolved_ne_none hi (arbiter.asks c i hi) h,
      resolved_none_of_empty⟩
  refine ⟨fun i => ⟨fun c d hc hd => arbiter.oneHome c d i hc hd, fun c hc => arbiter.apart c i hc, fun c hc down => ?_,
    fun c hc => arbiter.asks c i hc, fun hw => flows_ne_none (arbiter.waits i hw)⟩, fun c => ?_⟩
  · rw [arbiter.nobody c down] at hc
    cases hc
  · exact ⟨(levels.deferred c).trans (and_congr_right fun _ => not_congr (none c).symm), levels.confirm c,
      (levels.idle c).trans (and_congr_right fun _ => (none c).symm), levels.either c, levels.follows c⟩

theorem Sound.levelsOk {s : State} (h : Sound s) : LevelsOk s := by
  have none : ∀ c, s.resolved c = .none ↔ (s.comp c).attached = [] := fun c =>
    ⟨fun e => by_contra fun k => h.asked k e, resolved_none_of_empty⟩
  exact ⟨fun c => (h.levels c).deferred.trans (and_congr_right fun _ => not_congr (none c)), fun c => (h.levels c).confirm,
    fun c => (h.levels c).idle.trans (and_congr_right fun _ => none c), fun c => (h.levels c).either,
    fun c => (h.levels c).follows⟩

/-- Settles O59: every step keeps one place for each spot beside levels, marks and timers of every compressor. -/
theorem stepsKeepTheLevels : Obligations.StepsKeepTheLevels := by
  unfold Obligations.StepsKeepTheLevels
  intro s t hs ⟨arbiter, levels⟩
  exact (step_keeps (P := Sound) (fun u l h => Stands.sound (s := u) ⟨fun _ => rfl, rfl, fun _ => rfl⟩ h)
    (fun _ _ _ => sound_falls) hs (sound_of_laws arbiter levels)).levelsOk

end Sys2Proof.Machine
end

section
/-! The grant scan (R145, R148): which compressor takes a spot, what one grant does, and that the scan goes on until no spot of the list
can be taken. -/

namespace Sys2Proof.Machine

/-! ## Which compressor takes a spot -/

theorem opposite_eq (a b : Demand) : some b = opposite a ↔ (a = .push ∧ b = .recover) ∨ (a = .recover ∧ b = .push) := by
  cases a <;> cases b <;> decide

theorem conflicts_eq_false {s : State} {c : CompId} {i : SpotId} {d : Demand} :
    s.conflicts c i d = false ↔ ∀ j ∈ (s.comp c).attached, j ≠ i →
      ¬ (d = .push ∧ (s.spot j).demand = .recover) ∧ ¬ (d = .recover ∧ (s.spot j).demand = .push) := by
  unfold State.conflicts
  simp only [List.any_eq_false, Bool.and_eq_true, decide_eq_true_eq, opposite_eq, not_and, not_or]

theorem canTake_iff (s : State) (c : CompId) (i : SpotId) : s.canTake c i = true ↔ (s.comp c).level ≠ .unavailable ∧
    (s.comp c).attached.length < 2 ∧ ∀ j ∈ (s.comp c).attached, j ≠ i →
      ¬ ((s.spot i).demand = .push ∧ (s.spot j).demand = .recover) ∧
      ¬ ((s.spot i).demand = .recover ∧ (s.spot j).demand = .push) := by
  unfold State.canTake
  rw [Bool.and_eq_true, Bool.and_eq_true, decide_eq_true_eq, decide_eq_true_eq, Bool.not_eq_true', conflicts_eq_false,
    and_assoc]
  rfl

theorem taker_iff (s : State) (c : CompId) (i : SpotId) : s.taker i = some c ↔ ∃ r, s.record i = some r ∧
    ((s.canTake r.primary i = true ∧ c = r.primary) ∨
      (s.canTake r.primary i = false ∧ r.alternate = some c ∧ s.canTake c i = true)) := by
  unfold State.taker
  constructor
  · intro h
    split at h
    · next r record =>
      refine ⟨r, record, ?_⟩
      split at h
      · next takes => exact .inl ⟨takes, (Option.some.inj h).symm⟩
      · next full =>
        split at h
        · next a alternate =>
          split at h
          · next takes =>
            cases h
            exact .inr ⟨(Bool.not_eq_true _).mp full, alternate, takes⟩
          · cases h
        · cases h
    · cases h
  · rintro ⟨r, record, ⟨takes, rfl⟩ | ⟨full, alternate, takes⟩⟩
    · rw [record]
      exact if_pos takes
    · rw [record]
      dsimp only
      rw [full, alternate]
      exact (if_neg Bool.false_ne_true).trans (if_pos takes)

/-! ## The first spot that can be taken -/

theorem firstTakeable_none {s : State} {l : List SpotId} : s.firstTakeable l = none ↔ ∀ i ∈ l, s.taker i = none := by
  induction l with
  | nil => simp [State.firstTakeable]
  | cons i l ih =>
    unfold State.firstTakeable
    cases h : s.taker i with
    | some c => simp [h]
    | none => simpa [h] using ih

theorem firstTakeable_some {s : State} {l : List SpotId} {i : SpotId} {c : CompId} : s.firstTakeable l = some (i, c) ↔
    ∃ before rest, l = before ++ i :: rest ∧ (∀ j ∈ before, s.taker j = none) ∧ s.taker i = some c := by
  induction l with
  | nil => simp [State.firstTakeable]
  | cons j l ih =>
    unfold State.firstTakeable
    cases h : s.taker j with
    | some d =>
      simp only [Option.some.injEq, Prod.mk.injEq]
      constructor
      · rintro ⟨rfl, rfl⟩
        exact ⟨[], l, rfl, by simp, h⟩
      · rintro ⟨before, rest, e, out, taken⟩
        cases before with
        | nil =>
          cases e
          exact ⟨rfl, Option.some.inj (h.symm.trans taken)⟩
        | cons k before =>
          cases e
          have none := out j (List.mem_cons_self ..)
          rw [h] at none
          cases none
    | none =>
      simp only [ih]
      constructor
      · rintro ⟨before, rest, rfl, out, taken⟩
        exact ⟨j :: before, rest, rfl, by simpa [h] using out, taken⟩
      · rintro ⟨before, rest, e, out, taken⟩
        cases before with
        | nil =>
          cases e
          rw [h] at taken
          cases taken
        | cons k before =>
          cases e
          exact ⟨before, rest, rfl, fun i hi => out i (List.mem_cons_of_mem _ hi), taken⟩

theorem endScan_none {s : State} (h : ∀ i ∈ s.waitList, s.taker i = none) : s.endScan = s := by
  unfold State.endScan
  cases s.waitList.length with
  | zero => rfl
  | succ n => rw [grantScan, firstTakeable_none.mpr h]

/-! ## A spot at its one compressor -/

/-- The spot is attached to that compressor and no other. -/
def Home (s : State) (i : SpotId) (c : CompId) : Prop := ∀ d, i ∈ (s.comp d).attached ↔ d = c

theorem Home.congr {s t : State} {i : SpotId} {c : CompId} (h : Home s i c)
    (places : ∀ d, (t.comp d).attached = (s.comp d).attached) : Home t i c := fun d => by
  rw [places]
  exact h d

theorem Home.attachedTo {s : State} {i : SpotId} {c : CompId} (h : Home s i c) : s.attachedTo i = some c := by
  cases e : s.attachedTo i with
  | some d => rw [(h d).mp (attachedTo_eq_some e)]
  | none => exact absurd ((h c).mpr rfl) (attachedTo_eq_none e c)

/-- The answer to a spot at its one compressor (R142, R147). -/
theorem Home.answer {s : State} {i : SpotId} {c : CompId} (h : Home s i c) :
    s.standingAnswer i = if (s.comp c).deferred then .waiting else .attached c := by
  rw [State.standingAnswer, h.attachedTo]

/-- A compressor asked before and after defers no start by acting. -/
theorem deferred_actOn {s : State} {c : CompId} {old : Demand} (mark : (s.comp c).deferred = false) (was : old ≠ .none)
    (now : s.resolved c ≠ .none) : ((s.actOn c old).comp c).deferred = false := by
  have follow : ((s.followDemand c).comp c).deferred = false := by
    rw [comp_followDemand]
    cases s.resolved c with
    | push => dsimp only [State.followed]; split <;> exact mark
    | recover => dsimp only [State.followed]; split <;> exact mark
    | hold => exact mark
    | none => exact mark
  by_cases same : s.resolved c = old
  · rw [actOn_same same]
    exact mark
  · rw [State.actOn, if_neg same]
    cases level : (s.comp c).level with
    | stopped =>
      dsimp only
      rw [if_neg now, if_neg was]
      exact mark
    | idleRun => exact follow
    | push => exact follow
    | recover => exact follow
    | starting => exact mark
    | reversing => exact mark
    | stopping => exact mark
    | unavailable => exact mark

theorem comp_takeGrant (s : State) (i : SpotId) (c : CompId) : (s.takeGrant i).comp c = s.comp c := (stands_takeGrant s i).comps c

/-- What holding at its compressor makes of a SUSPENDED spot, and of the compressor (R98). -/
structure HoldsAt (s : State) (i : SpotId) (c : CompId) (t : State) : Prop where
  others   : ∀ d, d ≠ c → t.comp d = s.comp d
  places   : ∀ d, (t.comp d).attached = (s.comp d).attached
  deferred : (t.comp c).deferred = false
  waitList : t.waitList = s.waitList
  spot     : t.spot i = (s.spot i).handed .hold (.compressor c) (s.spot i).pass

theorem holds_handHold {s : State} {i : SpotId} {c : CompId} (home : Home s i c) (mark : (s.comp c).deferred = false)
    (asks : (s.spot i).demand.flows = true) (held : (s.spot i).state = .suspended) : HoldsAt s i c (s.handHold i) := by
  have change : (s.spot i).demand ≠ .hold := fun e => by rw [e] at asks; cases asks
  generalize hu : (s.modSpot i fun x => { x with demand := .hold }) = u
  have comps : ∀ d, u.comp d = s.comp d := fun d => by rw [← hu]; rfl
  have self : u.spot i = { s.spot i with demand := .hold } := by rw [← hu, spot_modSpot_same]
  have place : u.place i = u := by
    unfold State.place
    rw [Home.attachedTo (home.congr fun d => by rw [comps]), self]
  have elsewhere : ∀ d, d ≠ c → u.resolved d = s.resolved d := fun d e =>
    resolved_of (by rw [comps]) fun j hj => by
      have other : j ≠ i := fun h => e ((home d).mp (h ▸ hj))
      rw [← hu, spot_modSpot_other _ _ other]
  have drives := drives_actOn u c (s.resolved c)
  have aside := aside_actOn u c (s.resolved c)
  have mark' := deferred_actOn (s := u) (c := c) (old := s.resolved c) (by rw [comps]; exact mark)
    (resolved_ne_none ((home c).mpr rfl) (flows_ne_none asks))
    (resolved_ne_none (j := i) (by rw [comps]; exact (home c).mpr rfl) (by rw [self]; nofun))
  have hand : s.handDemand i .hold = (u.actOn c (s.resolved c)).takeGrant i := by
    rw [State.handDemand, if_neg change]
    simp only [hu, place, actAll_only c elsewhere]
  generalize hv : u.actOn c (s.resolved c) = v at *
  have places : ∀ d, (v.comp d).attached = (s.comp d).attached := fun d => by rw [drives.places, comps]
  have answer : v.standingAnswer i = .attached c := by
    rw [(home.congr places).answer, mark']
    rfl
  have outside : ¬ (u.spot i).inPass := inPass_of_suspended (by rw [self]; exact held)
  have spot : v.spot i = u.spot i := by rw [aside.spots i, aside.pass i outside]
  obtain ⟨p, hp, granted⟩ := spot_takeGrant v i
  have pass : p = (s.spot i).pass := by
    rw [hp (by rw [spot]; exact outside), spot, self]
  have holds : HoldsAt s i c ((u.actOn c (s.resolved c)).takeGrant i) := by
    rw [hv]
    refine ⟨fun d e => ?_, fun d => ?_, ?_, ?_, ?_⟩
    · rw [comp_takeGrant, drives.others d e, comps]
    · rw [comp_takeGrant, places]
    · rw [comp_takeGrant]
      exact mark'
    · rw [(stands_takeGrant v i).waitList, drives.waitList, ← hu]
      rfl
    · rw [granted, answer, spot, self, pass]
      rfl
  have still : (s.handDemand i .hold).standingAnswer i = .attached c := by
    rw [hand, Home.answer (home.congr (fun d => by rw [comp_takeGrant, places])), comp_takeGrant, mark']
    rfl
  unfold State.handHold
  simp only [still]
  rw [hand, ← hv]
  exact holds

end Sys2Proof.Machine
end

section
/-! One grant of the scan and the whole scan (R94, R100, R148): the answer to a SUSPENDED spot at its compressor; O41. -/

namespace Sys2Proof.Machine

/-! ## The answer to a SUSPENDED spot at its compressor -/

theorem isActive_of_suspended {s : State} {i : SpotId} (h : (s.spot i).state = .suspended) : s.isActive i = true := by
  rw [State.isActive, h]
  rfl

/-- A SUSPENDED spot whose start is deferred waits on (R94, R142). -/
theorem takeReport_deferred {s : State} {i : SpotId} {c : CompId} (home : Home s i c) (mark : (s.comp c).deferred = true)
    (asks : (s.spot i).demand.flows = true) (held : (s.spot i).state = .suspended) :
    s.takeReport i = (s.takeGrant i).setNoCompressor i true := by
  have answer : s.standingAnswer i = .waiting := by rw [home.answer, mark]; rfl
  obtain ⟨p, _, granted⟩ := spot_takeGrant s i
  have test : ((s.takeGrant i).setNoCompressor i true).causeTest i = (s.takeGrant i).setNoCompressor i true := by
    have self := spot_setNoCompressor (s.takeGrant i) i true
    rw [granted] at self
    unfold State.causeTest
    simp only
    rw [if_pos (by rw [self]; exact any_marked_true _)]
    have none : savedOf (((s.takeGrant i).setNoCompressor i true).spot i).state
        (((s.takeGrant i).setNoCompressor i true).spot i).sub = none := by
      rw [self]
      show savedOf (s.spot i).state _ = none
      rw [held]
      rfl
    rw [none]
  unfold State.takeReport
  simp only [isActive_of_suspended held, answer, if_true]
  cases d : (s.spot i).demand with
  | push => exact test
  | recover => exact test
  | hold => rw [d] at asks; cases asks
  | none => rw [d] at asks; cases asks

/-- What an answer that names its compressor leaves of the rest (R94). -/
structure Served (s : State) (i : SpotId) (c : CompId) (t : State) : Prop where
  others   : ∀ d, d ≠ c → t.comp d = s.comp d
  places   : ∀ d, (t.comp d).attached = (s.comp d).attached
  deferred : (t.comp c).deferred = false
  waitList : t.waitList = s.waitList
  grant    : (t.spot i).grant = .compressor c
  mark     : (t.spot i).causes.noCompressor = false
  holds    : (s.spot i).causes.others = true →
    (t.spot i).state = .suspended ∧ (t.spot i).saved = (s.spot i).saved ∧ (t.spot i).demand = .hold
  returns  : (s.spot i).causes.others = false → ∀ v, (s.spot i).saved = some v →
    (t.spot i).state = v.state ∧ (t.spot i).saved = none ∧ (t.spot i).demand = (s.spot i).demand

/-- The grant taken and NO_COMPRESSOR cleared (R94). -/
def State.answered (s : State) (i : SpotId) : State := (s.takeGrant i).setNoCompressor i false

theorem stands_answered (s : State) (i : SpotId) : Stands s (s.answered i) :=
  (stands_takeGrant s i).trans (stands_setNoCompressor _ i false)

theorem spot_answered {s : State} {i : SpotId} {c : CompId} (answer : s.standingAnswer i = .attached c)
    (asks : (s.spot i).demand ≠ .none) (held : (s.spot i).state = .suspended) :
    (s.answered i).spot i = ((s.spot i).handed (s.spot i).demand (.compressor c) (s.spot i).pass).marked false := by
  obtain ⟨p, hp, granted⟩ := spot_takeGrant s i
  rw [State.answered, spot_setNoCompressor, granted, answer, hp (inPass_of_suspended held)]
  congr 2
  exact if_neg asks

theorem served_takeReport {s : State} {i : SpotId} {c : CompId} {v : Saved} (home : Home s i c)
    (mark : (s.comp c).deferred = false) (asks : (s.spot i).demand.flows = true) (held : (s.spot i).state = .suspended)
    (saved : (s.spot i).saved = some v) (serves : v.demand = (s.spot i).demand) : Served s i c (s.takeReport i) := by
  have answer : s.standingAnswer i = .attached c := by rw [home.answer, mark]; rfl
  have stands := stands_answered s i
  have self := spot_answered answer (flows_ne_none asks) held
  have report : s.takeReport i = if ((s.answered i).spot i).causes.any then (s.answered i).handHold i
      else (s.answered i).returnAttempt i := by
    unfold State.takeReport
    simp only [isActive_of_suspended held, answer, held, if_true]
    rfl
  rw [report]
  have any : ((s.answered i).spot i).causes.any = (s.spot i).causes.others := by
    rw [self]
    rfl
  rw [any]
  generalize s.answered i = u at *
  have home' : Home u i c := home.congr fun d => by rw [stands.comps]
  split
  · next kept =>
    have holds := holds_handHold (s := u) home' (by rw [stands.comps]; exact mark) (by rw [stands.demands]; exact asks)
      (by rw [self]; exact held)
    have spot := holds.spot
    rw [self] at spot
    refine ⟨fun d e => (holds.others d e).trans (stands.comps d), fun d => (holds.places d).trans (by rw [stands.comps]),
      holds.deferred, holds.waitList.trans stands.waitList, ?_, ?_, fun _ => ?_, fun free => ?_⟩
    · rw [spot]
      rfl
    · rw [spot]
      rfl
    · rw [spot]
      exact ⟨held, rfl, rfl⟩
    · exact absurd (kept.symm.trans free) (by decide)
  · next free =>
    have hand : u.handDemand i v.demand = u := by
      rw [State.handDemand, if_pos (by rw [stands.demands, serves])]
    have grant : (u.spot i).grant = .compressor c := by rw [self]; rfl
    have saved' : (u.spot i).saved = some v := by rw [self]; exact saved
    have attempt : u.returnAttempt i = (u.setNoCompressor i false).completeReturn i v := by
      unfold State.returnAttempt
      simp only [saved']
      rw [if_neg (fun e => flows_ne_none asks (serves.symm.trans e)), hand, grant]
    have back := stands.trans ((stands_setNoCompressor u i false).trans (stands_completeReturn _ i v))
    have returned := (returned_completeReturn (u.setNoCompressor i false) i v).1
    rw [spot_setNoCompressor, self] at returned
    rw [attempt]
    refine ⟨fun d _ => back.comps d, fun d => by rw [back.comps], by rw [back.comps]; exact mark, back.waitList, ?_, ?_,
      fun kept => absurd kept free, fun _ w other => ?_⟩
    · rw [returned]
      rfl
    · rw [returned]
      rfl
    · cases saved.symm.trans other
      rw [returned]
      exact ⟨rfl, rfl, rfl⟩

/-! ## One grant -/

/-- The part as a waiting spot has been attached and the compressor has acted, before the answer (R148). -/
def State.takenUp (s : State) (i : SpotId) (c : CompId) : State := ((s.leaveList i).attach c i).actAll s

theorem grantSpot_eq (s : State) (i : SpotId) (c : CompId) : s.grantSpot i c = (s.takenUp i c).takeReport i := rfl

theorem takenUp_facts {s : State} {i : SpotId} {c : CompId} (absent : ∀ d, i ∉ (s.comp d).attached)
    (held : (s.spot i).state = .suspended) : (∀ d, d ≠ c → (s.takenUp i c).comp d = s.comp d) ∧ Home (s.takenUp i c) i c ∧
      (s.takenUp i c).waitList = s.waitList.filter (fun j => j != i) ∧ (s.takenUp i c).spot i = s.spot i := by
  generalize hu : (s.leaveList i).attach c i = u
  have others : ∀ d, d ≠ c → u.comp d = s.comp d := fun d e => by
    rw [← hu, State.attach, comp_modComp_other _ _ e]
    rfl
  have spots : u.spots = s.spots := by rw [← hu]; rfl
  have spot : ∀ j, u.spot j = s.spot j := spot_of_spots spots
  have home : Home u i c := fun d => by
    rw [← hu, attached_attach]
    split
    · next e => simp [mem_insertSpot, e]
    · next e => exact iff_of_false (absent d) e
  have elsewhere : ∀ d, d ≠ c → u.resolved d = s.resolved d := fun d e =>
    resolved_of (by rw [others d e]) fun j _ => by rw [spot]
  have acted : s.takenUp i c = u.actOn c (s.resolved c) := by
    rw [State.takenUp, hu, actAll_only c elsewhere]
  have drives := drives_actOn u c (s.resolved c)
  have aside := aside_actOn u c (s.resolved c)
  rw [acted]
  refine ⟨fun d e => (drives.others d e).trans (others d e), home.congr drives.places, ?_, ?_⟩
  · rw [drives.waitList, ← hu]
    rfl
  · rw [aside.spots i, aside.pass i (inPass_of_suspended (by rw [spot]; exact held)), spot]

theorem filter_middle {l rest : List SpotId} {i : SpotId} (h : (l ++ i :: rest).Nodup) :
    (l ++ i :: rest).filter (fun j => j != i) = l ++ rest := by
  obtain ⟨out, _⟩ := List.nodup_cons.mp (List.nodup_middle.mp h)
  rw [List.mem_append, not_or] at out
  have keep : ∀ m : List SpotId, i ∉ m → m.filter (fun j => j != i) = m := fun m hm =>
    List.filter_eq_self.mpr fun j hj => bne_iff_ne.mpr fun e => hm (e ▸ hj)
  rw [List.filter_append, List.filter_cons_of_neg (by simp), keep l out.1, keep rest out.2]

/-- One grant of the scan: the spot leaves the list, its compressor alone acts, and it is answered (R94, R148). -/
structure GrantMade (s : State) (i : SpotId) (c : CompId) (t : State) : Prop where
  attached : i ∈ (t.comp c).attached
  deferred : (t.comp c).deferred = true → (t.spot i).state = .suspended ∧ (t.spot i).saved = (s.spot i).saved ∧
    (t.spot i).demand = (s.spot i).demand ∧ (t.spot i).causes.noCompressor = true
  served   : (t.comp c).deferred = false → (t.spot i).grant = .compressor c ∧ (t.spot i).causes.noCompressor = false ∧
    ((s.spot i).causes.others = true →
      (t.spot i).state = .suspended ∧ (t.spot i).saved = (s.spot i).saved ∧ (t.spot i).demand = .hold) ∧
    ((s.spot i).causes.others = false → ∀ v, (s.spot i).saved = some v →
      (t.spot i).state = v.state ∧ (t.spot i).saved = none ∧ (t.spot i).demand = (s.spot i).demand)
  others   : ∀ d, d ≠ c → t.comp d = s.comp d
  list     : t.waitList = s.waitList.filter fun j => j != i

theorem grantMade {s : State} {i : SpotId} {c : CompId} (ok : WaitersSuspended s) (waits : i ∈ s.waitList) :
    GrantMade s i c (s.grantSpot i c) := by
  obtain ⟨_, suspended⟩ := ok
  obtain ⟨held, asks, ⟨v, saved, serves⟩, absent⟩ := suspended i waits
  obtain ⟨others, home, list, spot⟩ := takenUp_facts (c := c) absent held
  rw [grantSpot_eq]
  generalize s.takenUp i c = u at *
  by_cases mark : (u.comp c).deferred = true
  · rw [takeReport_deferred home mark (by rw [spot]; exact asks) (by rw [spot]; exact held)]
    have stands := (stands_takeGrant u i).trans (stands_setNoCompressor _ i true)
    obtain ⟨p, _, granted⟩ := spot_takeGrant u i
    have self : ((u.takeGrant i).setNoCompressor i true).spot i =
        ((s.spot i).handed (s.spot i).demand (grantOf (u.standingAnswer i) (s.spot i).demand) p).marked true := by
      rw [spot_setNoCompressor, granted, spot]
    refine ⟨by rw [stands.comps]; exact (home c).mpr rfl, fun _ => ?_, fun e => ?_, fun d e => ?_, ?_⟩
    · rw [self]
      exact ⟨held, rfl, rfl, rfl⟩
    · rw [stands.comps] at e
      exact absurd (mark.symm.trans e) (by decide)
    · rw [stands.comps, others d e]
    · rw [stands.waitList, list]
  · rw [Bool.not_eq_true] at mark
    have served := served_takeReport (v := v) home mark (by rw [spot]; exact asks) (by rw [spot]; exact held)
      (by rw [spot]; exact saved) (by rw [spot]; exact serves)
    have holds := served.holds
    have returns := served.returns
    rw [spot] at holds returns
    refine ⟨by rw [served.places]; exact (home c).mpr rfl, fun e => ?_, fun _ => ⟨served.grant, served.mark, holds, returns⟩,
      fun d e => (served.others d e).trans (others d e), served.waitList.trans list⟩
    exact absurd (served.deferred.symm.trans e) (by decide)

/-! ## The scan -/

/-- A grant leaves the rest of the list as it was (R148). -/
theorem waitersSuspended_grant {s : State} {i : SpotId} {c : CompId} (ok : WaitersSuspended s) (waits : i ∈ s.waitList)
    (taken : s.taker i = some c) : WaitersSuspended (s.grantSpot i c) := by
  have made := grantMade (c := c) ok waits
  have beside := beside_grant taken
  obtain ⟨nodup, suspended⟩ := ok
  refine ⟨by rw [made.list]; exact nodup.filter _, fun j hj => ?_⟩
  rw [made.list, List.mem_filter, bne_iff_ne] at hj
  obtain ⟨held, asks, saved, absent⟩ := suspended j hj.1
  rw [beside.spots j hj.2]
  exact ⟨held, asks, saved, fun d hd => absent d ((beside.homes d j hj.2).mp hd)⟩

theorem length_filter_ne {l : List SpotId} {i : SpotId} (nodup : l.Nodup) (h : i ∈ l) :
    (l.filter fun j => j != i).length + 1 = l.length := by
  obtain ⟨a, b, rfl⟩ := List.append_of_mem h
  rw [filter_middle nodup]
  simp only [List.length_append, List.length_cons]
  omega

theorem endScan_grant {s : State} {i : SpotId} {c : CompId} (ok : WaitersSuspended s)
    (first : s.firstTakeable s.waitList = some (i, c)) : s.endScan = (s.grantSpot i c).endScan := by
  obtain ⟨waits, _⟩ := firstTakeable_eq_some first
  have list := (grantMade (c := c) ok waits).list
  unfold State.endScan
  rw [← length_filter_ne ok.1 waits, ← list, grantScan, first]

/-- The scan goes on until no spot of the list can be taken (R148). -/
theorem endScan_finished {s : State} (ok : WaitersSuspended s) :
    s.endScan.waitList.Sublist s.waitList ∧ ∀ i ∈ s.endScan.waitList, s.endScan.taker i = none := by
  generalize hn : s.waitList.length = n
  induction n generalizing s with
  | zero =>
    have none : s.waitList = [] := List.length_eq_zero_iff.mp hn
    rw [endScan_empty none, none]
    exact ⟨List.Sublist.refl _, fun _ h => nomatch h⟩
  | succ n ih =>
    cases first : s.firstTakeable s.waitList with
    | none =>
      rw [endScan_none (firstTakeable_none.mp first)]
      exact ⟨List.Sublist.refl _, firstTakeable_none.mp first⟩
    | some p =>
      obtain ⟨i, c⟩ := p
      obtain ⟨waits, taken⟩ := firstTakeable_eq_some first
      have list := (grantMade (c := c) ok waits).list
      have length := length_filter_ne ok.1 waits
      obtain ⟨sub, done⟩ := ih (waitersSuspended_grant ok waits taken) (by rw [list]; omega)
      rw [endScan_grant ok first]
      exact ⟨sub.trans (by rw [list]; exact List.filter_sublist), done⟩

/-- Settles O41: which compressor takes a spot, what one grant does, and where the scan ends. -/
theorem grantScanServesTheList : Obligations.GrantScanServesTheList := by
  unfold Obligations.GrantScanServesTheList
  refine ⟨canTake_iff, taker_iff, fun s => endScan_none, fun s l rest i c ok list before taken => ?_, fun s ok => ?_⟩
  · have waits : i ∈ s.waitList := by rw [list]; simp
    have made := grantMade (c := c) ok waits
    have beside := beside_grant taken
    have rest' := made.list
    rw [list, filter_middle (list ▸ ok.1)] at rest'
    exact ⟨endScan_grant ok (firstTakeable_some.mpr ⟨l, rest, list, before, taken⟩), rest', made.attached, made.deferred,
      made.served, made.others, beside.spots⟩
  · obtain ⟨sub, done⟩ := endScan_finished ok
    exact ⟨sub, done, (endScan_aside s).2, (endScan_aside s).1, (does_endScan (c := true) s).sdu⟩

end Sys2Proof.Machine
end

section
/-! COMP_STATE reports (R138): the readings a level expects, the confirmations of a start, a reversal and a stop without spots, and the
return from UNAVAILABLE (R140 to R143, R150). -/

namespace Sys2Proof.Machine

/-! ## Readings -/

theorem runsAsDirected_iff (s : State) (c : CompId) (r : CompReading) : s.runsAsDirected c r = true ↔ RunsAsDirected s c r := by
  unfold State.runsAsDirected RunsAsDirected
  rw [Bool.and_eq_true, decide_eq_true_eq]
  cases r with
  | stopped => simp [readingDirection]
  | runningFwd => simpa [readingDirection] using eq_comm
  | runningRev => simpa [readingDirection] using eq_comm
  | fault => simp [readingDirection]

theorem direction_eq (s : State) (c : CompId) : s.direction c = latchOf s .compDir (compNumber c) := by
  unfold State.direction latchOf State.compEntry
  cases findRole s.imap .compDir (compNumber c) <;> rfl

/-- A reading the level expects leaves the part as it is (R138, R140). -/
theorem stateReport_leaves {s : State} {c : CompId} {r : CompReading} (h : LeavesTheLevel s c r) : s.stateReport c r = s := by
  unfold LeavesTheLevel at h
  unfold State.stateReport
  cases level : (s.comp c).level with
  | stopped =>
    rw [level] at h
    cases h
    rfl
  | starting =>
    rw [level] at h
    cases h
    rfl
  | idleRun =>
    rw [level] at h
    exact if_pos ((runsAsDirected_iff s c r).mpr h)
  | push =>
    rw [level] at h
    exact if_pos ((runsAsDirected_iff s c r).mpr h)
  | recover =>
    rw [level] at h
    exact if_pos ((runsAsDirected_iff s c r).mpr h)
  | reversing =>
    rw [level] at h
    obtain ⟨sound, other⟩ := h
    rw [← runsAsDirected_iff] at other
    cases r with
    | stopped => rfl
    | runningFwd => exact if_neg other
    | runningRev => exact if_neg other
    | fault => exact absurd rfl sound
  | stopping =>
    rw [level] at h
    rcases h with rfl | rfl <;> rfl
  | unavailable =>
    rw [level] at h
    dsimp only
    unfold State.leaveUnavailable
    rcases h with rfl | useless
    · split <;> rfl
    · exact if_pos useless

/-- A contradicting reading takes the compressor down (R138, R139). -/
theorem stateReport_contradicts {s : State} {c : CompId} {r : CompReading} (h : ContradictsTheLevel s c r) :
    s.stateReport c r = s.enterUnavailable c := by
  unfold ContradictsTheLevel at h
  unfold State.stateReport
  cases level : (s.comp c).level with
  | stopped =>
    rw [level] at h
    cases r with
    | stopped => exact absurd rfl h
    | runningFwd => rfl
    | runningRev => rfl
    | fault => rfl
  | starting =>
    rw [level] at h
    obtain ⟨running, other⟩ := h
    rw [← runsAsDirected_iff] at other
    cases r with
    | stopped => exact absurd rfl running
    | runningFwd => exact if_neg other
    | runningRev => exact if_neg other
    | fault => rfl
  | idleRun =>
    rw [level] at h
    exact if_neg fun e => h ((runsAsDirected_iff s c r).mp e)
  | push =>
    rw [level] at h
    exact if_neg fun e => h ((runsAsDirected_iff s c r).mp e)
  | recover =>
    rw [level] at h
    exact if_neg fun e => h ((runsAsDirected_iff s c r).mp e)
  | reversing =>
    rw [level] at h
    cases h
    rfl
  | stopping =>
    rw [level] at h
    cases h
    rfl
  | unavailable =>
    rw [level] at h
    cases h

/-- The reading that confirms a start or a reversal (R142, R143). -/
theorem stateReport_confirms {s : State} {c : CompId} {r : CompReading}
    (level : (s.comp c).level = .starting ∨ (s.comp c).level = .reversing) (h : RunsAsDirected s c r) :
    s.stateReport c r = s.confirmRunning c := by
  have directed := (runsAsDirected_iff s c r).mpr h
  have running : r = .runningFwd ∨ r = .runningRev := h.imp And.left And.left
  unfold State.stateReport
  rcases level with level | level <;> rw [level] <;> rcases running with rfl | rfl <;> exact if_pos directed

theorem stateReport_stops {s : State} {c : CompId} (level : (s.comp c).level = .stopping) :
    s.stateReport c .stopped = s.confirmStop c := by
  unfold State.stateReport
  rw [level]

theorem stateReport_found {s : State} {c : CompId} (level : (s.comp c).level = .unavailable) (r : CompReading) :
    s.stateReport c r = s.leaveUnavailable c r := by
  unfold State.stateReport
  rw [level]

/-! ## A confirmed start or reversal -/

theorem imap_confirmed (s : State) (c : CompId) (l : Level) : (s.confirmed c l).imap = s.imap := imap_setLevel _ c l

theorem direction_confirmed (s : State) (c : CompId) (l : Level) : (s.confirmed c l).direction c = s.direction c := by
  rw [State.direction, State.direction, State.compEntry, State.compEntry, imap_confirmed]

theorem uptime_confirmed (s : State) (c : CompId) (l : Level) : (s.confirmed c l).uptime = s.uptime :=
  (inner_setLevel _ c l).uptime

theorem compField_confirmed (s : State) (c : CompId) (l : Level) (f : CompRecord → Nat) :
    (s.confirmed c l).compField c f = s.compField c f := compField_congr (by rw [comp_confirmed]) f

theorem resolved_confirmed (s : State) (c : CompId) (l : Level) : (s.confirmed c l).resolved c = s.resolved c :=
  (drives_confirmed s c l).resolved (aside_confirmed s c l) c

theorem comp_confirmRunning (s : State) (c : CompId) :
    (s.confirmRunning c).comp c = (s.confirmed c .idleRun).followed c (s.resolved c) := by
  rw [confirmRunning_eq, comp_followDemand, resolved_confirmed]

theorem drives_confirmRunning (s : State) (c : CompId) : Drives c s (s.confirmRunning c) :=
  (drives_confirmed s c .idleRun).trans (drives_followDemand _ c)

theorem aside_confirmRunning (s : State) (c : CompId) : Aside s (s.confirmRunning c) :=
  (aside_confirmed s c .idleRun).trans (aside_followDemand _ c)

/-- A reversal writes the direction where its latch stands (R141). -/
theorem direction_reverseTo {s : State} (hr : Rising s.imap) {c : CompId} {x : Command} (present : s.direction c = some x)
    (cmd : Command) (a : CompReading) : (s.reverseTo c cmd a).direction c = some cmd := by
  have map : (s.reverseTo c cmd a).imap = (s.writeComp .compDir c cmd).imap := by
    rw [State.reverseTo, imap_startConfirmation, imap_setLevel]
  rw [direction_eq] at present ⊢
  rw [latchOf_of_imap map, State.writeComp, latchOf_writeLatch_same s hr, present]
  rfl

theorem direction_clearIdle (s : State) (c : CompId) : (s.clearIdle c).direction c = s.direction c := rfl

/-- A compressor confirmed against its demand reverses (R141, R143). -/
theorem direction_confirmRunning {s : State} (hr : Rising s.imap) {c : CompId} {x cmd : Command}
    (present : s.direction c = some x) (other : x ≠ cmd)
    (demand : (s.resolved c = .push ∧ cmd = .fwd) ∨ (s.resolved c = .recover ∧ cmd = .rev)) :
    (s.confirmRunning c).direction c = some cmd := by
  have direction := (direction_confirmed s c .idleRun).trans present
  have wrong : ¬ (s.confirmed c .idleRun).direction c = some cmd := fun e =>
    other (Option.some.inj (direction.symm.trans e))
  have rising : Rising ((s.confirmed c .idleRun).clearIdle c).imap := by
    show Rising (s.confirmed c .idleRun).imap
    rw [imap_confirmed]
    exact hr
  rw [confirmRunning_eq]
  unfold State.followDemand
  rw [resolved_confirmed]
  rcases demand with ⟨d, rfl⟩ | ⟨d, rfl⟩
  · rw [d]
    dsimp only
    rw [if_neg wrong]
    exact direction_reverseTo rising direction _ _
  · rw [d]
    dsimp only
    rw [if_neg wrong]
    exact direction_reverseTo rising direction _ _

/-! ## A return from UNAVAILABLE -/

/-- The image of a role that does not stand in MONITOR has a latch. -/
theorem latchOf_of_notDriven {s : State} {r : Role} {c : CompId} (h : notDriven (s.compEntry r c) = false) :
    ∃ x, latchOf s r (compNumber c) = some x := by
  cases found : s.compEntry r c with
  | none => rw [found] at h; cases h
  | some p =>
    have found' : findRole s.imap r (compNumber c) = some (p.1, p.2) := found
    rw [latchOf_found found']
    cases image : p.2.image with
    | none => simp [found, notDriven, image] at h
    | some o => exact ⟨_, rfl⟩

/-- A usable compressor has its two latches (R139). -/
theorem latches_of_usable {s : State} {c : CompId} (h : unusable s c = false) :
    (∃ x, latchOf s .compRun (compNumber c) = some x) ∧ ∃ x, latchOf s .compDir (compNumber c) = some x := by
  simp only [unusable, unavailability, List.any_cons, List.any_nil, Bool.or_false, Bool.or_eq_false_iff] at h
  obtain ⟨_, _, runs, dir⟩ := h
  exact ⟨latchOf_of_notDriven runs, latchOf_of_notDriven dir⟩

/-- What a usable compressor found in a reading has in its latches. -/
structure Found (t : State) (c : CompId) (cmd : Command) (dir : Option Command) : Prop where
  latch     : latchOf t .compRun (compNumber c) = some cmd
  direction : t.direction c = dir

theorem imap_returnToLevel (s : State) (c : CompId) (l : Level) : (s.returnToLevel c l).imap = s.imap := imap_setLevel s c l

/-- A latch of a compressor beside another that is written. -/
theorem latchOf_writeComp_other {s : State} (hr : Rising s.imap) (r r' : Role) (c : CompId) (cmd : Command) (h : r' ≠ r) :
    latchOf (s.writeComp r c cmd) r' (compNumber c) = latchOf s r' (compNumber c) :=
  latchOf_writeLatch_other s hr cmd fun e => h e.1

theorem latchOf_writeComp {s : State} (hr : Rising s.imap) {r : Role} {c : CompId} {x : Command}
    (present : latchOf s r (compNumber c) = some x) (cmd : Command) :
    latchOf (s.writeComp r c cmd) r (compNumber c) = some cmd := by
  rw [State.writeComp, latchOf_writeLatch_same s hr, present]
  rfl

/-- Both latches written behind one another hold what was written last (R140, R142). -/
theorem found_writes {s t : State} (hr : Rising s.imap) {c : CompId} {x y : Command}
    (run : latchOf s .compRun (compNumber c) = some x) (dir : latchOf s .compDir (compNumber c) = some y) (d cmd : Command)
    (map : t.imap = ((s.writeComp .compDir c d).writeComp .compRun c cmd).imap) : Found t c cmd (some d) := by
  have rising : Rising (s.writeComp .compDir c d).imap := rising_writeLatch hr _ _ d
  refine ⟨?_, ?_⟩
  · rw [latchOf_of_imap map]
    exact latchOf_writeComp rising ((latchOf_writeComp_other hr .compDir .compRun c d (by decide)).trans run) cmd
  · rw [direction_eq, latchOf_of_imap map, latchOf_writeComp_other rising .compRun .compDir c cmd (by decide)]
    exact latchOf_writeComp hr dir d

theorem found_takeOver {s : State} (hr : Rising s.imap) {c : CompId} (usable : unusable s c = false) (d : Command) :
    Found (s.takeOver c d) c (if s.sdu.device = .run then .run else .stop) (some d) := by
  obtain ⟨⟨x, run⟩, y, dir⟩ := latches_of_usable usable
  unfold State.takeOver
  simp only [(inner_writeComp s .compDir c d).sdu]
  cases s.sdu.device with
  | run => exact found_writes hr run dir d .run (by rw [imap_returnToLevel, imap_startPopdown])
  | tripped => exact found_writes hr run dir d .stop (by rw [imap_returnToLevel, imap_startConfirmation])

end Sys2Proof.Machine
end

section
/-! A compressor that goes down and its spots (R94, R139): each is answered that it waits; one that asks for flow is suspended and waits
on, one that holds gives its demand up and leaves the list. -/

namespace Sys2Proof.Machine

/-! ## Latches behind the answers -/

theorem compNumber_inj {c d : CompId} (h : compNumber c = compNumber d) : c = d :=
  Fin.ext (Nat.succ.inj h)

/-- The latches of a compressor that is still are not free to be written by an answer. -/
theorem not_free_of_still {s : State} {i : SpotId} {c : CompId} (still : s.still c) {r : Role}
    (role : r = .compRun ∨ r = .compDir) : ¬ FreeLatch i s r (compNumber c) := by
  rintro (⟨liquid, _⟩ | ⟨d, ⟨_, number⟩, up⟩)
  · rcases role with rfl | rfl <;> cases liquid
  · exact up (compNumber_inj number ▸ still)

/-- Answers leave the latches of a compressor that is still, and it stays so. -/
theorem still_reports {c : CompId} {r : Role} (role : r = .compRun ∨ r = .compDir) (l : List SpotId) {s : State}
    (hr : Rising s.imap) (still : s.still c) : (l.foldl State.takeReport s).still c ∧
      latchOf (l.foldl State.takeReport s) r (compNumber c) = latchOf s r (compNumber c) := by
  induction l generalizing s with
  | nil => exact ⟨still, rfl⟩
  | cons i l ih =>
    have beside := beside_takeReport s i
    have entries := beside.entries hr
    obtain ⟨stays, latch⟩ := ih (s := s.takeReport i) (entries.rising hr) (beside.still still)
    exact ⟨stays, latch.trans (entries.latchOf hr (not_free_of_still still role))⟩

theorem conditions_reports (l : List SpotId) (s : State) : (l.foldl State.takeReport s).conditions = s.conditions := by
  induction l generalizing s with
  | nil => rfl
  | cons i l ih => exact (ih _).trans (beside_takeReport s i).conditions

theorem conditions_joins (l : List SpotId) (s : State) : (l.foldl State.joinList s).conditions = s.conditions := by
  induction l generalizing s with
  | nil => rfl
  | cons i l ih => exact (ih _).trans (beside_joinList s i).conditions

theorem conditions_enterUnavailable (s : State) (c : CompId) : (s.enterUnavailable c).conditions = s.conditions := by
  rw [enterUnavailable_eq, conditions_reports, State.downMark, conditions_joins]
  exact (aside_writeComp _ _ _ _).conditions

theorem still_downMark (s : State) (c : CompId) : (s.downMark c).still c := by
  refine .inl ?_
  rw [comp_downMark, if_pos rfl]
  rfl

/-- A compressor that goes down holds STOP where it has a COMP_RUN latch, and keeps its direction (R139). -/
theorem found_enterUnavailable {s : State} (hr : Rising s.imap) (c : CompId) :
    latchOf (s.enterUnavailable c) .compRun (compNumber c) = (latchOf s .compRun (compNumber c)).map (fun _ => .stop) ∧
      (s.enterUnavailable c).direction c = s.direction c := by
  have marked := entries_downMark hr c
  have still := still_downMark s c
  rw [enterUnavailable_eq]
  refine ⟨?_, ?_⟩
  · rw [(still_reports (.inl rfl) _ (marked.rising hr) still).2, latchOf_downMark hr]
  · rw [direction_eq, direction_eq, (still_reports (.inr rfl) _ (marked.rising hr) still).2,
      marked.latchOf hr fun free => absurd free.1 (by decide)]

/-! ## The answer to a spot that waits -/

/-- A spot without a compressor that waits and asks. -/
structure Waiting (s : State) (i : SpotId) : Prop where
  active : s.isActive i = true
  absent : ∀ c, i ∉ (s.comp c).attached
  listed : i ∈ s.waitList
  asks   : (s.spot i).demand ≠ .none
  serves : DemandsItsState s i

theorem attachedTo_absent {s : State} {i : SpotId} (h : ∀ c, i ∉ (s.comp c).attached) : s.attachedTo i = none := by
  cases e : s.attachedTo i with
  | none => rfl
  | some c => exact absurd (attachedTo_eq_some e) (h c)

theorem Waiting.answer {s : State} {i : SpotId} (h : Waiting s i) : s.standingAnswer i = .waiting := by
  rw [State.standingAnswer, attachedTo_absent h.absent]
  exact if_pos (List.contains_iff_mem.mpr h.listed)

/-- Entering SUSPENDED with the demand its saved state needs and no compressor hands no demand (R97, R98). -/
theorem suspends_waiting {s : State} {i : SpotId} {v : Saved} (grant : (s.spot i).grant = .waiting)
    (serves : v.demand = (s.spot i).demand) : Stands s (s.enterSuspended i v) ∧
      ((s.enterSuspended i v).spot i).state = .suspended ∧ ((s.enterSuspended i v).spot i).saved = some v ∧
      ((s.enterSuspended i v).spot i).grant = .waiting ∧ ((s.enterSuspended i v).spot i).causes = (s.spot i).causes := by
  unfold State.enterSuspended
  simp only
  generalize hu : ((s.modSpot i fun x => { x with
    saved := some v, travel := none, pressurise := none, pass := none, settle := none,
    liquidConfirmed := false }).writeValve .liqCmd i .closed).setState i .suspended = u
  have stands : Stands s u := by
    rw [← hu]
    exact ((stands_modSpot s i _).trans (stands_writeValve _ _ i _)).trans (stands_modSpot _ i _)
  have self : u.spot i = { s.spot i with
      saved := some v, travel := none, pressurise := none, pass := none, settle := none, liquidConfirmed := false,
      state := .suspended } := by
    rw [← hu, State.setState, spot_modSpot_same, spot_writeValve, spot_modSpot_same]
  have follow : u.followGrant i v = u := by
    unfold State.followGrant
    have waiting : (u.spot i).grant = .waiting := by rw [self]; exact grant
    rw [waiting]
    exact if_pos (by rw [self, serves])
  rw [follow]
  refine ⟨stands.trans ((stands_modSpot u i _).trans (stands_announce _ i)), ?_⟩
  rw [spot_announce, State.startSuspend, spot_modSpot_same, self]
  exact ⟨rfl, rfl, grant, rfl⟩

/-- What the answer that it waits makes of a spot that asks for flow (R94, R97). -/
structure Evicted (x y : SpotContext) : Prop where
  demand : y.demand = x.demand
  grant  : y.grant = .waiting
  mark   : y.causes.noCompressor = true
  saves  : ∀ v, savedOf x.state x.sub = some v → y.state = .suspended ∧ y.saved = some v
  stays  : savedOf x.state x.sub = none → y.state = x.state ∧ y.sub = x.sub ∧ y.saved = x.saved

/-- Answered that it waits, a spot that asks for flow has its causes tested (R94). -/
theorem takeReport_waits {s : State} {i : SpotId} (active : s.isActive i = true) (answer : s.standingAnswer i = .waiting)
    (asks : (s.spot i).demand.flows = true) :
    s.takeReport i = ((s.takeGrant i).setNoCompressor i true).causeTest i := by
  unfold State.takeReport
  simp only [active, answer, if_true]
  cases d : (s.spot i).demand with
  | push => rfl
  | recover => rfl
  | hold => rw [d] at asks; cases asks
  | none => rw [d] at asks; cases asks

theorem evicted_takeReport {s : State} {i : SpotId} (active : s.isActive i = true) (answer : s.standingAnswer i = .waiting)
    (asks : (s.spot i).demand.flows = true) (serves : DemandsItsState s i) :
    Stands s (s.takeReport i) ∧ Evicted (s.spot i) ((s.takeReport i).spot i) := by
  rw [takeReport_waits active answer asks]
  obtain ⟨p, _, granted⟩ := spot_takeGrant s i
  have stands := (stands_takeGrant s i).trans (stands_setNoCompressor _ i true)
  have self := spot_setNoCompressor (s.takeGrant i) i true
  rw [granted, answer] at self
  have waiting : grantOf .waiting (s.spot i).demand = .waiting := if_pos asks
  rw [waiting] at self
  generalize (s.takeGrant i).setNoCompressor i true = u at *
  have any : (u.spot i).causes.any = true := by rw [self]; exact any_marked_true _
  have saved : savedOf (u.spot i).state (u.spot i).sub = savedOf (s.spot i).state (s.spot i).sub := by rw [self]; rfl
  unfold State.causeTest
  simp only
  rw [if_pos any, saved]
  cases saves : savedOf (s.spot i).state (s.spot i).sub with
  | some v =>
    obtain ⟨still, state, kept, grant, causes⟩ := suspends_waiting (s := u) (i := i) (v := v) (by rw [self]; rfl)
      ((serves v saves).trans (stands.demands i).symm)
    dsimp only
    refine ⟨stands.trans still, (stands.trans still).demands i, grant, ?_, fun w hw => ?_, fun h => ?_⟩
    · rw [causes, self]
      rfl
    · cases saves.symm.trans hw
      exact ⟨state, kept⟩
    · rw [saves] at h
      cases h
  | none =>
    dsimp only
    refine ⟨stands, stands.demands i, ?_, ?_, fun w hw => ?_, fun _ => ?_⟩
    · rw [self]
      rfl
    · rw [self]
      rfl
    · rw [saves] at hw
      cases hw
    · rw [self]
      exact ⟨rfl, rfl, rfl⟩

/-- No compressor acts while a spot that stands at none gives its demand up (R147). -/
theorem drops_waiting {s : State} {i : SpotId} (absent : ∀ c, i ∉ (s.comp c).attached) (listed : i ∈ s.waitList)
    (asks : (s.spot i).demand ≠ .none) : (∀ c, (s.handDemand i .none).comp c = s.comp c) ∧
      (s.handDemand i .none).waitList = s.waitList.filter (fun j => j != i) := by
  generalize hu : (s.modSpot i fun x => { x with demand := .none }) = u
  have comps : ∀ c, u.comp c = s.comp c := fun c => by rw [← hu]; rfl
  have list : u.waitList = s.waitList := by rw [← hu]; rfl
  have self : (u.spot i).demand = .none := by rw [← hu, spot_modSpot_same]
  have place : u.place i = u.leaveList i := by
    unfold State.place
    rw [attachedTo_absent fun c => by rw [comps]; exact absent c, self]
    exact if_pos (List.contains_iff_mem.mpr (by rw [list]; exact listed))
  have resolved : ∀ c, (u.leaveList i).resolved c = s.resolved c := fun c =>
    resolved_of (congrArg Compressor.attached (comps c)) fun j hj => by
      have other : j ≠ i := fun h => absent c (h ▸ hj)
      show (u.spot j).demand = _
      rw [← hu, spot_modSpot_other _ _ other]
  have acts : (u.leaveList i).actAll s = u.leaveList i := foldl_actOn_same s _ _ fun c _ => resolved c
  have hand : s.handDemand i .none = (u.leaveList i).takeGrant i := by
    rw [State.handDemand, if_neg asks]
    simp only [hu, place, acts]
  rw [hand]
  have stands := stands_takeGrant (u.leaveList i) i
  refine ⟨fun c => (stands.comps c).trans (comps c), ?_⟩
  rw [stands.waitList, State.leaveList, list]

/-- What the answer that it waits makes of a spot that holds (R94). -/
structure Dropped (x y : SpotContext) : Prop where
  demand : y.demand = .none
  grant  : y.grant = .none
  state  : y.state = x.state
  causes : y.causes = x.causes

theorem dropped_takeReport {s : State} {i : SpotId} (h : Waiting s i) (held : (s.spot i).demand = .hold) :
    (∀ c, (s.takeReport i).comp c = s.comp c) ∧
      (s.takeReport i).waitList = s.waitList.filter (fun j => j != i) ∧ Dropped (s.spot i) ((s.takeReport i).spot i) := by
  have report : s.takeReport i = (s.takeGrant i).handDemand i .none := by
    unfold State.takeReport
    simp only [h.active, h.answer, held, if_true]
  have stands := stands_takeGrant s i
  obtain ⟨p, _, granted⟩ := spot_takeGrant s i
  have held' : ((s.takeGrant i).spot i).demand = .hold := (stands.demands i).trans held
  obtain ⟨comps, list⟩ := drops_waiting (s := s.takeGrant i) (i := i) (fun c => by rw [stands.comps]; exact h.absent c)
    (by rw [stands.waitList]; exact h.listed) (by rw [held']; nofun)
  obtain ⟨g, q, _, e, _, drop⟩ := spot_handDemand (s.takeGrant i) i .none
  obtain ⟨a, rfl⟩ := drop (by rw [held']; nofun)
  rw [report]
  refine ⟨fun c => (comps c).trans (stands.comps c), list.trans (by rw [stands.waitList]), ?_⟩
  rw [e, granted, grantOf_none]
  exact ⟨rfl, rfl, rfl, rfl⟩

/-! ## All spots of a compressor that goes down -/

/-- What becomes of a spot of a compressor that goes down (R139). -/
def Displaced (x y : SpotContext) : Prop :=
  (x.demand = .hold → Dropped x y) ∧ (x.demand.flows = true → Evicted x y)

/-- The spots that wait on when those of a list are answered. -/
def waitsOn (s : State) (l : List SpotId) (j : SpotId) : Bool := !(l.contains j && decide ((s.spot j).demand = .hold))

theorem Waiting.beside {s t : State} {i j : SpotId} (h : Waiting s j) (beside : Beside i s t) (hj : j ≠ i) : Waiting t j := by
  have spot := beside.spots j hj
  refine ⟨?_, fun c hc => h.absent c ((beside.homes c j hj).mp hc), (beside.mem_waitList hj).mpr h.listed, ?_, ?_⟩
  · rw [State.isActive, spot]
    exact h.active
  · rw [spot]
    exact h.asks
  · unfold DemandsItsState
    rw [spot]
    exact h.serves

theorem displaced_pass {x y z : SpotContext} (h : Displaced x y) (pass : z = { y with pass := z.pass }) : Displaced x z := by
  refine ⟨fun held => ?_, fun asks => ?_⟩
  · obtain ⟨demand, grant, state, causes⟩ := h.1 held
    rw [pass]
    exact ⟨demand, grant, state, causes⟩
  · obtain ⟨demand, grant, mark, saves, stays⟩ := h.2 asks
    rw [pass]
    exact ⟨demand, grant, mark, saves, stays⟩

theorem flows_of {d : Demand} (asks : d ≠ .none) (moves : d ≠ .hold) : d.flows = true := by
  cases d with
  | push => rfl
  | recover => rfl
  | hold => exact absurd rfl moves
  | none => exact absurd rfl asks

/-- The answer to one waiting spot: no compressor changes, and the list loses it if it holds (R94, R139). -/
theorem displaced_takeReport {s : State} {i : SpotId} (h : Waiting s i) : (∀ c, (s.takeReport i).comp c = s.comp c) ∧
    (s.takeReport i).waitList = s.waitList.filter (waitsOn s [i]) ∧ Displaced (s.spot i) ((s.takeReport i).spot i) := by
  by_cases held : (s.spot i).demand = .hold
  · obtain ⟨comps, list, dropped⟩ := dropped_takeReport h held
    refine ⟨comps, list.trans (List.filter_congr fun j _ => ?_), fun _ => dropped, fun asks => ?_⟩
    · by_cases e : j = i
      · subst e
        simp [waitsOn, held]
      · simp [waitsOn, e]
    · rw [held] at asks
      cases asks
  · obtain ⟨stands, evicted⟩ := evicted_takeReport h.active h.answer (flows_of h.asks held) h.serves
    refine ⟨stands.comps, stands.waitList.trans (List.filter_eq_self.mpr fun j _ => ?_).symm, fun e => absurd e held,
      fun _ => evicted⟩
    by_cases e : j = i
    · subst e
      simp [waitsOn, held]
    · simp [waitsOn, e]

/-- The answers to the spots of a compressor that has gone down (R94, R139). -/
theorem displaced_reports (l : List SpotId) {s : State} (nodup : l.Nodup) (h : ∀ i ∈ l, Waiting s i) :
    (∀ c, (l.foldl State.takeReport s).comp c = s.comp c) ∧
      (l.foldl State.takeReport s).waitList = s.waitList.filter (waitsOn s l) ∧
      ∀ i ∈ l, Displaced (s.spot i) ((l.foldl State.takeReport s).spot i) := by
  induction l generalizing s with
  | nil => exact ⟨fun _ => rfl, (List.filter_eq_self.mpr fun j _ => rfl).symm, fun _ hi => nomatch hi⟩
  | cons i l ih =>
    obtain ⟨out, nodup⟩ := List.nodup_cons.mp nodup
    obtain ⟨comps, list, displaced⟩ := displaced_takeReport (h i (List.mem_cons_self ..))
    have beside := beside_takeReport s i
    have apart : ∀ j ∈ l, j ≠ i := fun j hj e => out (e ▸ hj)
    obtain ⟨comps', list', displaced'⟩ := ih nodup fun j hj => (h j (List.mem_cons_of_mem _ hj)).beside beside (apart j hj)
    rw [List.foldl_cons]
    refine ⟨fun c => (comps' c).trans (comps c), ?_, fun j hj => ?_⟩
    · rw [list', list, List.filter_filter]
      refine List.filter_congr fun j _ => ?_
      by_cases e : j = i
      · subst e
        simp [waitsOn, out]
      · have demand : ((s.takeReport i).spot j).demand = (s.spot j).demand := by rw [beside.spots j e]
        simp [waitsOn, e, demand]
    · have later : ∀ (m : List SpotId) (u : State), i ∉ m → (m.foldl State.takeReport u).spot i =
          { u.spot i with pass := ((m.foldl State.takeReport u).spot i).pass } := by
        intro m
        induction m with
        | nil => exact fun _ _ => rfl
        | cons k m ihm =>
          intro u hm
          rw [List.mem_cons, not_or] at hm
          rw [List.foldl_cons, ihm _ hm.2, (beside_takeReport u k).spots i hm.1]
      rcases List.mem_cons.mp hj with rfl | hj
      · exact displaced_pass displaced (later l _ out)
      · have first := beside.spots j (apart j hj)
        have rest := displaced' j hj
        rw [first] at rest
        exact ⟨fun held => by
          obtain ⟨demand, grant, state, causes⟩ := rest.1 held
          exact ⟨demand, grant, state, causes⟩, fun asks => by
          obtain ⟨demand, grant, mark, saves, stays⟩ := rest.2 asks
          exact ⟨demand, grant, mark, saves, stays⟩⟩

end Sys2Proof.Machine
end

section
/-! A confirmed stop with spots attached (R142, R150): the start decision, and what it tells the spots; O40. -/

namespace Sys2Proof.Machine

/-! ## The start decision -/

/-- The map of a start: the direction it needs, then RUN (R142). -/
theorem imap_startDecision {s : State} {c : CompId} (few : (s.comp c).history.length < s.compField c (·.startLimit)) :
    (s.startDecision c).imap = (State.writeComp (match s.startDirection c with
      | some cmd => s.writeComp .compDir c cmd
      | none => s) .compRun c .run).imap := by
  rw [State.startDecision, if_pos few]
  simp only
  rw [imap_startConfirmation, imap_setLevel]
  rfl

/-- The direction a start leaves (R142). -/
def startsIn (d : Demand) (x : Command) : Command :=
  match d with
  | .push => .fwd
  | .recover => .rev
  | .hold => x
  | .none => x

theorem startDirection_eq {s : State} {c : CompId} {x : Command} (present : s.direction c = some x) :
    s.startDirection c = some (startsIn (s.resolved c) x) := by
  unfold State.startDirection
  cases s.resolved c with
  | push => rfl
  | recover => rfl
  | hold => exact present
  | none => exact present

theorem rising_startWrites {s : State} (hr : Rising s.imap) (c : CompId) : Rising (State.imap (match s.startDirection c with
    | some cmd => s.writeComp .compDir c cmd
    | none => s)) := by
  split
  exacts [rising_writeLatch hr _ _ _, hr]

theorem latchOf_startDecision {s : State} (hr : Rising s.imap) {c : CompId} {x : Command}
    (few : (s.comp c).history.length < s.compField c (·.startLimit)) (present : latchOf s .compRun (compNumber c) = some x) :
    latchOf (s.startDecision c) .compRun (compNumber c) = some .run := by
  rw [latchOf_of_imap (imap_startDecision few)]
  refine latchOf_writeComp (rising_startWrites hr c) (x := x) ?_ .run
  split
  · exact (latchOf_writeComp_other hr .compDir .compRun c _ (by decide)).trans present
  · exact present

theorem direction_startDecision {s : State} (hr : Rising s.imap) {c : CompId} {x : Command}
    (few : (s.comp c).history.length < s.compField c (·.startLimit)) (present : s.direction c = some x) :
    (s.startDecision c).direction c = some (startsIn (s.resolved c) x) := by
  have chosen := startDirection_eq present
  have map := imap_startDecision few
  rw [chosen] at map
  dsimp only at map
  have rising : Rising (s.writeComp .compDir c (startsIn (s.resolved c) x)).imap := rising_writeLatch hr _ _ _
  rw [direction_eq] at present ⊢
  rw [latchOf_of_imap map, latchOf_writeComp_other rising .compRun .compDir c _ (by decide)]
  exact latchOf_writeComp hr present _

theorem awaited_eq (s : State) (c : CompId) : awaitedRunning (s.startDirection c) = match s.resolved c with
    | .push => .runningFwd
    | .recover => .runningRev
    | .hold => if s.direction c = some .rev then .runningRev else .runningFwd
    | .none => if s.direction c = some .rev then .runningRev else .runningFwd := by
  have either : awaitedRunning (s.direction c) = if s.direction c = some .rev then .runningRev else .runningFwd := by
    unfold awaitedRunning
    split
    · next e => rw [if_pos e]
    · next e => exact (if_neg e).symm
  unfold State.startDirection
  cases s.resolved c with
  | push => rfl
  | recover => rfl
  | hold => exact either
  | none => exact either

/-! ## What the answers leave of a compressor at its limit -/

theorem full_reports {c : CompId} (l : List SpotId) {s : State} (level : (s.comp c).level = .stopped)
    (full : s.historyFull c = true) :
    ∃ a b, (l.foldl State.takeReport s).comp c = { s.comp c with attached := a, deferred := b } := by
  induction l generalizing s with
  | nil => exact ⟨_, _, rfl⟩
  | cons i l ih =>
    have first := (beside_takeReport s i).full c level full
    obtain ⟨a, b, rest⟩ := ih (s := s.takeReport i) (by rw [first]; exact level)
      ((historyFull_congr (by rw [first]) (by rw [first])).trans full)
    exact ⟨a, b, by rw [List.foldl_cons, rest, first]⟩

/-! ## What the answers make of one spot -/

/-- What other spots' answers keep, and the spot's own answer leads to and keeps, holds after all of them. -/
theorem reports_reach {P Q : State → Prop} {i : SpotId} (before : ∀ u j, j ≠ i → P u → P (u.takeReport j))
    (reach : ∀ u, P u → Q (u.takeReport i)) (after : ∀ u j, j ≠ i → Q u → Q (u.takeReport j))
    (again : ∀ u, Q u → Q (u.takeReport i)) {l : List SpotId} (mem : i ∈ l) {s : State} (h : P s) :
    Q (l.foldl State.takeReport s) := by
  have stays : ∀ (m : List SpotId) (u : State), Q u → Q (m.foldl State.takeReport u) := by
    intro m
    induction m with
    | nil => exact fun _ h => h
    | cons j m ih =>
      intro u hu
      by_cases e : j = i
      · exact ih _ (e ▸ again u hu)
      · exact ih _ (after u j e hu)
  induction l generalizing s with
  | nil => cases mem
  | cons j l ih =>
    by_cases e : j = i
    · subst e
      exact stays l _ (reach s h)
    · exact ih ((List.mem_cons.mp mem).resolve_left fun k => e k.symm) (before s j e h)

theorem home_of_attachedOnly {s : State} {c : CompId} {i : SpotId} (h : AttachedOnly s c i) : Home s i c := by
  obtain ⟨here, _, alone⟩ := h
  exact fun d => ⟨fun hd => by_contra fun e => alone d e hd, fun e => e ▸ here⟩

theorem attachedOnly_beside {s t : State} {c : CompId} {i j : SpotId} (h : AttachedOnly s c i) (beside : Beside j s t)
    (hj : i ≠ j) : AttachedOnly t c i := by
  obtain ⟨here, absent, alone⟩ := h
  exact ⟨(beside.homes c i hj).mpr here, fun hw => absent ((beside.mem_waitList hj).mp hw),
    fun d e hd => alone d e ((beside.homes d i hj).mp hd)⟩

theorem attachedOnly_stands {s t : State} {c : CompId} {i : SpotId} (h : AttachedOnly s c i) (stands : Stands s t) :
    AttachedOnly t c i := by
  obtain ⟨here, absent, alone⟩ := h
  exact ⟨by rw [stands.comps]; exact here, by rw [stands.waitList]; exact absent, fun d e => by rw [stands.comps]; exact alone d e⟩

/-- A spot at a compressor that is starting, with a given state and demand. -/
structure Seated (s : State) (c : CompId) (i : SpotId) (st : SpotState) (d : Demand) : Prop where
  level    : (s.comp c).level = .starting
  deferred : (s.comp c).deferred = false
  only     : AttachedOnly s c i
  state    : (s.spot i).state = st
  demand   : (s.spot i).demand = d

theorem Seated.beside {s : State} {c : CompId} {i : SpotId} {st : SpotState} {d : Demand} (h : Seated s c i st d) (j : SpotId)
    (hj : j ≠ i) : Seated (s.takeReport j) c i st d := by
  have beside := beside_takeReport s j
  have comp := beside.deaf c (by rw [h.level]; rfl)
  have spot := beside.spots i hj.symm
  exact ⟨by rw [comp]; exact h.level, by rw [comp]; exact h.deferred, attachedOnly_beside h.only beside hj.symm,
    by rw [spot]; exact h.state, by rw [spot]; exact h.demand⟩

/-- An active spot that runs at a compressor that has started takes the grant (R94). -/
theorem Seated.answered {s : State} {c : CompId} {i : SpotId} {st : SpotState} {d : Demand} (h : Seated s c i st d)
    (active : st.active = true) (runs : st ≠ .suspended) (asks : d ≠ .none) : Seated (s.takeReport i) c i st d ∧
      ((s.takeReport i).spot i).grant = .compressor c ∧ ((s.takeReport i).spot i).causes.noCompressor = false := by
  have answer : s.standingAnswer i = .attached c := by
    rw [(home_of_attachedOnly h.only).answer, h.deferred]
    rfl
  have report : s.takeReport i = s.answered i := by
    have on : s.isActive i = true := by rw [State.isActive, h.state]; exact active
    have state : (s.spot i).state ≠ .suspended := by rw [h.state]; exact runs
    unfold State.takeReport
    simp only [on, answer, if_true]
    exact if_neg state
  have stands := stands_answered s i
  obtain ⟨p, _, granted⟩ := spot_takeGrant s i
  have self : (s.answered i).spot i = ((s.spot i).handed (s.spot i).demand (.compressor c) p).marked false := by
    rw [State.answered, spot_setNoCompressor, granted, answer]
    congr 2
    exact if_neg (by rw [h.demand]; exact asks)
  rw [report]
  refine ⟨⟨by rw [stands.comps]; exact h.level, by rw [stands.comps]; exact h.deferred, attachedOnly_stands h.only stands, ?_, ?_⟩, ?_, ?_⟩
  · rw [self]
    exact h.state
  · rw [stands.demands]
    exact h.demand
  · rw [self]
    rfl
  · rw [self]
    rfl

theorem seated_reports {s : State} {c : CompId} {i : SpotId} {st : SpotState} {d : Demand} {l : List SpotId}
    (h : Seated s c i st d) (active : st.active = true) (runs : st ≠ .suspended) (asks : d ≠ .none) (mem : i ∈ l) :
    Seated (l.foldl State.takeReport s) c i st d ∧ ((l.foldl State.takeReport s).spot i).grant = .compressor c ∧
      ((l.foldl State.takeReport s).spot i).causes.noCompressor = false := by
  refine reports_reach (P := fun u => Seated u c i st d)
    (Q := fun u => Seated u c i st d ∧ (u.spot i).grant = .compressor c ∧ (u.spot i).causes.noCompressor = false)
    (fun u j hj hu => hu.beside j hj) (fun u hu => hu.answered active runs asks) (fun u j hj ⟨hu, grant, mark⟩ => ?_)
    (fun u hu => hu.1.answered active runs asks) mem h
  have spot := (beside_takeReport u j).spots i hj.symm
  exact ⟨hu.beside j hj, by rw [spot]; exact grant, by rw [spot]; exact mark⟩

/-- A spot at a compressor whose start is deferred. -/
structure Stalled (s : State) (c : CompId) (i : SpotId) : Prop where
  level    : (s.comp c).level = .stopped
  full     : s.historyFull c = true
  deferred : (s.comp c).deferred = true
  only     : AttachedOnly s c i
  active   : s.isActive i = true

theorem Stalled.answer {s : State} {c : CompId} {i : SpotId} (h : Stalled s c i) : s.standingAnswer i = .waiting := by
  rw [(home_of_attachedOnly h.only).answer, h.deferred]
  rfl

theorem Stalled.beside {s : State} {c : CompId} {i : SpotId} (h : Stalled s c i) (asks : (s.spot i).demand ≠ .none) (j : SpotId)
    (hj : j ≠ i) : Stalled (s.takeReport j) c i := by
  have beside := beside_takeReport s j
  have comp := beside.full c h.level h.full
  refine ⟨by rw [comp]; exact h.level, (historyFull_congr (by rw [comp]) (by rw [comp])).trans h.full,
    beside.defers c i hj.symm h.only.1 asks h.level h.full h.deferred, attachedOnly_beside h.only beside hj.symm, ?_⟩
  rw [State.isActive, beside.spots i hj.symm]
  exact h.active

theorem Stalled.stands {s t : State} {c : CompId} {i : SpotId} (h : Stalled s c i) (stands : Stands s t)
    (active : t.isActive i = true) : Stalled t c i :=
  ⟨by rw [stands.comps]; exact h.level, (historyFull_congr (by rw [stands.comps]) (by rw [stands.comps])).trans h.full,
    by rw [stands.comps]; exact h.deferred, attachedOnly_stands h.only stands, active⟩

/-- A spot evicted stays so under a further answer that it waits. -/
theorem Evicted.again {x y z : SpotContext} (h : Evicted x y) (k : Evicted y z) : Evicted x z := by
  have none : savedOf y.state y.sub = none := by
    cases e : savedOf x.state x.sub with
    | some v => rw [(h.saves v e).1]; rfl
    | none => obtain ⟨state, sub, _⟩ := h.stays e; rw [state, sub]; exact e
  obtain ⟨state, sub, saved⟩ := k.stays none
  refine ⟨k.demand.trans h.demand, k.grant, k.mark, fun v hv => ?_, fun e => ?_⟩
  · obtain ⟨held, kept⟩ := h.saves v hv
    exact ⟨state.trans held, saved.trans kept⟩
  · obtain ⟨state', sub', saved'⟩ := h.stays e
    exact ⟨state.trans state', sub.trans sub', saved.trans saved'⟩

theorem Evicted.active {x y : SpotContext} (h : Evicted x y) (active : x.state.active = true) : y.state.active = true := by
  cases e : savedOf x.state x.sub with
  | some v => rw [(h.saves v e).1]; rfl
  | none => rw [(h.stays e).1]; exact active

theorem stalled_reports {s : State} {c : CompId} {i : SpotId} {l : List SpotId} (h : Stalled s c i)
    (asks : (s.spot i).demand.flows = true) (serves : DemandsItsState s i) (mem : i ∈ l) :
    Stalled (l.foldl State.takeReport s) c i ∧ Evicted (s.spot i) ((l.foldl State.takeReport s).spot i) := by
  generalize hx : s.spot i = x at *
  have own : ∀ u, Stalled u c i → (u.spot i).demand.flows = true → DemandsItsState u i →
      Stalled (u.takeReport i) c i ∧ Evicted (u.spot i) ((u.takeReport i).spot i) := fun u hu asks serves => by
    obtain ⟨stands, evicted⟩ := evicted_takeReport hu.active hu.answer asks serves
    exact ⟨hu.stands stands (evicted.active hu.active), evicted⟩
  refine reports_reach (P := fun u => Stalled u c i ∧ u.spot i = { x with pass := (u.spot i).pass })
    (Q := fun u => Stalled u c i ∧ Evicted x (u.spot i)) (fun u j hj ⟨hu, spot⟩ => ⟨hu.beside ?_ j hj, ?_⟩)
    (fun u ⟨hu, spot⟩ => ?_) (fun u j hj ⟨hu, evicted⟩ => ⟨hu.beside ?_ j hj, ?_⟩) (fun u ⟨hu, evicted⟩ => ?_) mem
    ⟨h, by rw [hx]⟩
  · rw [spot]
    exact flows_ne_none asks
  · rw [(beside_takeReport u j).spots i hj.symm, spot]
  · obtain ⟨stalled, evicted⟩ := own u hu (by rw [spot]; exact asks) (by
      unfold DemandsItsState
      rw [spot]
      unfold DemandsItsState at serves
      rwa [hx] at serves)
    rw [spot] at evicted
    exact ⟨stalled, ⟨evicted.demand, evicted.grant, evicted.mark, evicted.saves, evicted.stays⟩⟩
  · rw [evicted.demand]
    exact flows_ne_none asks
  · rw [(beside_takeReport u j).spots i hj.symm]
    exact ⟨evicted.demand, evicted.grant, evicted.mark, evicted.saves, evicted.stays⟩
  · have none : savedOf (u.spot i).state (u.spot i).sub = none := by
      cases e : savedOf x.state x.sub with
      | some v => rw [(evicted.saves v e).1]; rfl
      | none => obtain ⟨state, sub, _⟩ := evicted.stays e; rw [state, sub]; exact e
    obtain ⟨stalled, next⟩ := own u hu (by rw [evicted.demand]; exact asks) fun v hv => by rw [none] at hv; cases hv
    exact ⟨stalled, evicted.again next⟩

/-- A spot without a place and a demand keeps so through its answers (R94). -/
theorem nowhere_takeReport {s : State} {i : SpotId} (h : Nowhere s i) (none : (s.spot i).demand = .none) :
    Nowhere (s.takeReport i) i ∧ ((s.takeReport i).spot i).demand = .none := by
  have answer : s.standingAnswer i = .detached := by
    rw [State.standingAnswer, attachedTo_absent h.1]
    exact if_neg (by rw [List.contains_iff_mem]; exact h.2)
  have stands : Stands s (s.takeReport i) := by
    unfold State.takeReport
    simp only [answer, none]
    split
    · exact (stands_takeGrant s i).trans (stands_setNoCompressor _ i false)
    · exact stands_takeGrant s i
  refine ⟨⟨fun d => by rw [stands.comps]; exact h.1 d, by rw [stands.waitList]; exact h.2⟩, ?_⟩
  rw [stands.demands]
  exact none

/-- A spot that holds at a deferred start gives its demand and its place up (R94, R142). -/
theorem Stalled.drops {s : State} {c : CompId} {i : SpotId} (h : Stalled s c i) (held : (s.spot i).demand = .hold) :
    Nowhere (s.takeReport i) i ∧ ((s.takeReport i).spot i).demand = .none := by
  have report : s.takeReport i = (s.takeGrant i).handDemand i .none := by
    unfold State.takeReport
    simp only [h.active, h.answer, held, if_true]
  have stands := stands_takeGrant s i
  have only := attachedOnly_stands h.only stands
  rw [report]
  generalize s.takeGrant i = v at *
  have held' : (v.spot i).demand ≠ .none := by rw [stands.demands, held]; nofun
  generalize hu : (v.modSpot i fun x => { x with demand := .none }) = u
  have comps : ∀ d, u.comp d = v.comp d := fun d => by rw [← hu]; rfl
  have self : (u.spot i).demand = .none := by rw [← hu, spot_modSpot_same]
  have home : Home u i c := (home_of_attachedOnly only).congr fun d => by rw [comps]
  have place : u.place i = u.detach c i := by
    unfold State.place
    rw [home.attachedTo, self]
  have away : Nowhere (u.detach c i) i := nowhere_detach (fun d hd => (home d).mp hd) (by rw [← hu]; exact only.2.1)
  have hand : v.handDemand i .none = ((u.detach c i).actAll v).takeGrant i := by
    rw [State.handDemand, if_neg held']
    simp only [hu, place]
  have taken := stands_takeGrant ((u.detach c i).actAll v) i
  refine ⟨⟨fun d => ?_, ?_⟩, ?_⟩
  · rw [hand, taken.comps, attached_actAll]
    exact away.1 d
  · rw [hand, taken.waitList, waitList_actAll]
    exact away.2
  · obtain ⟨g, p, _, e, _⟩ := spot_handDemand v i .none
    rw [e]
    rfl

theorem dropped_reports {s : State} {c : CompId} {i : SpotId} {l : List SpotId} (h : Stalled s c i)
    (held : (s.spot i).demand = .hold) (mem : i ∈ l) :
    Nowhere (l.foldl State.takeReport s) i ∧ ((l.foldl State.takeReport s).spot i).demand = .none := by
  refine reports_reach (P := fun u => Stalled u c i ∧ (u.spot i).demand = .hold)
    (Q := fun u => Nowhere u i ∧ (u.spot i).demand = .none) (fun u j hj ⟨hu, held⟩ => ⟨hu.beside ?_ j hj, ?_⟩)
    (fun u ⟨hu, held⟩ => hu.drops held) (fun u j hj ⟨⟨homes, list⟩, rest⟩ => ?_)
    (fun u ⟨hu, rest⟩ => nowhere_takeReport hu rest) mem ⟨h, held⟩
  · rw [held]
    nofun
  · rw [(beside_takeReport u j).spots i hj.symm]
    exact held
  · have beside := beside_takeReport u j
    refine ⟨⟨fun d hd => homes d ((beside.homes d i hj.symm).mp hd), fun hw => list ((beside.mem_waitList hj.symm).mp hw)⟩, ?_⟩
    rw [beside.spots i hj.symm]
    exact rest

end Sys2Proof.Machine
end

section
/-! What a COMP_STATE report makes of the compressor and of its spots: O40 (R138 to R143, R150). -/

namespace Sys2Proof.Machine

/-! ## A contradicting report -/

theorem joins_fresh {l : List SpotId} (nodup : l.Nodup) {s : State} (fresh : ∀ i ∈ l, i ∉ s.waitList) :
    (l.foldl State.joinList s).waitList = s.waitList ++ l := by
  induction l generalizing s with
  | nil => exact (List.append_nil _).symm
  | cons i l ih =>
    obtain ⟨out, nodup⟩ := List.nodup_cons.mp nodup
    have join : (s.joinList i).waitList = s.waitList ++ [i] := by
      rw [State.joinList, if_neg fun e => fresh i (List.mem_cons_self ..) (List.contains_iff_mem.mp e)]
    rw [List.foldl_cons, ih nodup fun j hj => ?_, join, List.append_assoc]
    · rfl
    · rw [join, List.mem_append, List.mem_singleton, not_or]
      exact ⟨fresh j (List.mem_cons_of_mem _ hj), fun e => out (e ▸ hj)⟩

theorem nodup_attached {s : State} (h : ArbiterOk s) (c : CompId) : (s.comp c).attached.Nodup :=
  (h.ascending c).imp fun lt => ne_of_lt lt

/-- A compressor that goes down leaves its spots at the tail of the wait list (R139). -/
theorem waitList_downMark {s : State} (h : ArbiterOk s) (c : CompId) :
    (s.downMark c).waitList = s.waitList ++ (s.comp c).attached := by
  have write : ∀ u : State, (u.writeComp .compRun c .stop).waitList = u.waitList := fun u =>
    (onlyMap_writeLatch u .compRun (compNumber c) .stop).waitList
  rw [State.downMark]
  generalize hu : State.modComp _ c (fun x => { x with attached := [] }) = u
  have list : u.waitList = s.waitList := by
    rw [← hu, waitList_modComp, State.compressorNotice, waitList_notice, waitList_modComp, write, waitList_modComp]
  rw [joins_fresh (nodup_attached h c) fun i hi => by rw [list]; exact h.apart c i hi, list]

theorem waiting_downMark {s : State} (h : ArbiterOk s) {c : CompId} {i : SpotId} (mem : i ∈ (s.comp c).attached)
    (serves : DemandsItsState s i) : Waiting (s.downMark c) i := by
  have spot := spot_downMark s c i
  have asks := h.asks c i mem
  refine ⟨?_, fun d hd => ?_, (mem_waitList_downMark s c i).mpr (.inl mem), ?_, ?_⟩
  · rw [State.isActive, spot]
    exact Bool.not_eq_false _ ▸ fun off => asks (h.resting i off)
  · rw [comp_downMark] at hd
    split at hd
    · cases hd
    · next other => exact other (h.oneHome d c i hd mem)
  · rw [spot]
    exact asks
  · unfold DemandsItsState
    rw [spot]
    exact serves

/-- What becomes of the spots of a compressor that goes down, under the laws of the arbiter and of the demands (R94, R139). -/
theorem displaced_enterUnavailable {s : State} (h : ArbiterOk s) (c : CompId)
    (serves : ∀ i ∈ (s.comp c).attached, DemandsItsState s i) :
    (∀ d, d ≠ c → (s.enterUnavailable c).comp d = s.comp d) ∧
      (s.enterUnavailable c).waitList = s.waitList ++ (s.comp c).attached.filter (fun i => (s.spot i).demand.flows) ∧
      ∀ i ∈ (s.comp c).attached, Displaced (s.spot i) ((s.enterUnavailable c).spot i) := by
  obtain ⟨comps, list, displaced⟩ := displaced_reports (s.comp c).attached (nodup_attached h c) fun i hi =>
    waiting_downMark h hi (serves i hi)
  rw [← enterUnavailable_eq] at comps list displaced
  have demand : ∀ i, ((s.downMark c).spot i).demand = (s.spot i).demand := fun i => by rw [spot_downMark]
  refine ⟨fun d hd => ?_, ?_, fun i hi => ?_⟩
  · rw [comps, comp_downMark, if_neg hd]
  · rw [list, waitList_downMark h, List.filter_append]
    congr 1
    · refine List.filter_eq_self.mpr fun j hj => ?_
      have out : j ∉ (s.comp c).attached := fun hc => h.apart c j hc hj
      simp [waitsOn, out]
    · refine List.filter_congr fun j hj => ?_
      have asks := h.asks c j hj
      rw [waitsOn, List.contains_iff_mem.mpr hj, demand]
      cases d : (s.spot j).demand with
      | push => rfl
      | recover => rfl
      | hold => rfl
      | none => exact absurd d asks
  · have rest := displaced i hi
    rwa [spot_downMark] at rest

/-! ## A confirmed stop -/

theorem modComp_modComp (s : State) (c : CompId) (f g : Compressor → Compressor) :
    (s.modComp c f).modComp c g = s.modComp c fun x => g (f x) := by
  unfold State.modComp
  rw [show State.comp { s with comps := s.comps.set c.val (f (s.comp c)) c.isLt } c = f (s.comp c) from
    comp_modComp_same s c f]
  simp only [Vector.set_set]

theorem setLevel_quiet {s : State} {c : CompId} {l : Level} (was : (s.comp c).level ≠ .recover) (now : l ≠ .recover) :
    s.setLevel c l = s.modComp c fun x => { x with level := l } := by
  rw [State.setLevel]
  exact if_neg fun e => e.elim (fun h => was h.1) fun h => now h.2

/-- The part as a stop is confirmed, before the start decision (R150). -/
theorem confirmed_stopped {s : State} {c : CompId} (level : (s.comp c).level = .stopping) :
    s.confirmed c .stopped = s.modComp c fun x => { x with level := .stopped, confirm := none } := by
  rw [State.confirmed, setLevel_quiet (by rw [comp_modComp_same, level]; nofun) (by nofun), modComp_modComp]

/-- The part as it makes the start decision of a confirmed stop, before the spots are answered (R150). -/
def State.decided (s : State) (c : CompId) : State := (s.confirmed c .stopped).startDecision c

theorem drives_decided (s : State) (c : CompId) : Drives c s (s.decided c) :=
  (drives_confirmed s c .stopped).trans (drives_startDecision _ c)

theorem aside_decided (s : State) (c : CompId) : Aside s (s.decided c) :=
  (aside_confirmed s c .stopped).trans (aside_startDecision _ c)

theorem confirmStop_asked {s : State} {c : CompId} (asked : (s.comp c).attached ≠ []) :
    s.confirmStop c = (s.comp c).attached.foldl State.takeReport (s.decided c) := by
  rw [confirmStop_eq, if_neg fun e => ?_, State.reportAttached, ← State.decided, (drives_decided s c).attached]
  rw [(drives_confirmed s c .stopped).attached, List.isEmpty_iff] at e
  exact asked e

theorem attachedOnly_decided {s : State} {c : CompId} {i : SpotId} (h : AttachedOnly s c i) : AttachedOnly (s.decided c) c i := by
  obtain ⟨here, absent, alone⟩ := h
  have drives := drives_decided s c
  exact ⟨by rw [drives.places]; exact here, by rw [drives.waitList]; exact absent,
    fun d hd => by rw [drives.places]; exact alone d hd⟩

theorem rising_decided {s : State} (hr : Rising s.imap) (c : CompId) : Rising (s.decided c).imap :=
  ((drives_decided s c).entries hr).rising hr

section
variable {s : State} {c : CompId}

theorem rising_confirmed (hr : Rising s.imap) (l : Level) : Rising (s.confirmed c l).imap := by
  rw [imap_confirmed]
  exact hr

theorem few_confirmed (few : (s.comp c).history.length < s.compField c (·.startLimit)) :
    ((s.confirmed c .stopped).comp c).history.length < (s.confirmed c .stopped).compField c (·.startLimit) := by
  rw [compField_confirmed, comp_confirmed]
  exact few

/-- A confirmed stop with spots attached starts the compressor again (R142, R150). -/
theorem comp_decided_few (few : (s.comp c).history.length < s.compField c (·.startLimit)) :
    (s.decided c).comp c = { s.comp c with
      level := .starting, history := (s.comp c).history ++ [s.uptime], deferred := false
      confirm := some ⟨s.uptime + s.compField c (·.startTimeout), match s.resolved c with
        | .push => .runningFwd
        | .recover => .runningRev
        | .hold => if s.direction c = some .rev then .runningRev else .runningFwd
        | .none => if s.direction c = some .rev then .runningRev else .runningFwd⟩ } := by
  rw [State.decided, comp_startDecision_few (few_confirmed few), State.started, awaited_eq, resolved_confirmed,
    direction_confirmed, uptime_confirmed, compField_confirmed, comp_confirmed] <;> rfl

theorem comp_decided_full (full : s.compField c (·.startLimit) ≤ (s.comp c).history.length) :
    (s.decided c).comp c = { s.comp c with level := .stopped, confirm := none, deferred := true } := by
  rw [State.decided, comp_startDecision_full, comp_confirmed]
  refine decide_eq_true ?_
  rw [compField_confirmed, comp_confirmed]
  exact full

theorem imap_decided_full (full : s.compField c (·.startLimit) ≤ (s.comp c).history.length) :
    (s.decided c).imap = s.imap := by
  have full' : (s.confirmed c .stopped).historyFull c = true := by
    refine decide_eq_true ?_
    rw [compField_confirmed, comp_confirmed]
    exact full
  rw [State.decided, startDecision_full full']
  exact imap_confirmed s c .stopped

/-- What the spots of a compressor that starts again are told (R94, R150). -/
theorem confirmStop_few (hr : Rising s.imap) (asked : (s.comp c).attached ≠ [])
    (few : (s.comp c).history.length < s.compField c (·.startLimit)) :
    (∃ a, (s.confirmStop c).comp c = { (s.decided c).comp c with attached := a }) ∧
      (∀ x, latchOf s .compRun (compNumber c) = some x → latchOf (s.confirmStop c) .compRun (compNumber c) = some .run) ∧
      (∀ x, s.direction c = some x → (s.confirmStop c).direction c = some (startsIn (s.resolved c) x)) ∧
      ∀ i, AttachedOnly s c i → s.isActive i = true → (s.spot i).state ≠ .suspended → (s.spot i).demand ≠ .none →
        Seated (s.confirmStop c) c i (s.spot i).state (s.spot i).demand ∧
          ((s.confirmStop c).spot i).grant = .compressor c ∧ ((s.confirmStop c).spot i).causes.noCompressor = false := by
  have level : ((s.decided c).comp c).level = .starting := by rw [comp_decided_few few]
  have deaf : ((s.decided c).comp c).level.deaf = true := by rw [level]; rfl
  have rising := rising_decided hr c
  have confirmed := rising_confirmed (c := c) hr .stopped
  rw [confirmStop_asked asked]
  refine ⟨deaf_reports deaf _, fun x present => ?_, fun x present => ?_, fun i only active runs asks => ?_⟩
  · rw [(still_reports (.inl rfl) _ rising (.inl deaf)).2]
    exact latchOf_startDecision confirmed (few_confirmed few) ((latchOf_of_imap (imap_confirmed s c .stopped) _ _).trans present)
  · rw [direction_eq, (still_reports (.inr rfl) _ rising (.inl deaf)).2, ← direction_eq, ← resolved_confirmed s c .stopped]
    exact direction_startDecision confirmed (few_confirmed few) ((direction_confirmed s c .stopped).trans present)
  · have spot := (aside_decided s c).spots i
    exact seated_reports ⟨level, by rw [comp_decided_few few], attachedOnly_decided only, by rw [spot], by rw [spot]⟩ active
      runs asks only.1

/-- What the spots of a compressor at its limit are told (R94, R142, R150). -/
theorem confirmStop_full (hr : Rising s.imap) (asked : (s.comp c).attached ≠ [])
    (full : s.compField c (·.startLimit) ≤ (s.comp c).history.length) :
    (∃ a b, (s.confirmStop c).comp c = { (s.decided c).comp c with attached := a, deferred := b }) ∧
      latchOf (s.confirmStop c) .compRun (compNumber c) = latchOf s .compRun (compNumber c) ∧
      (s.confirmStop c).direction c = s.direction c ∧
      (∀ i, AttachedOnly s c i → s.isActive i = true → (s.spot i).demand.flows = true → DemandsItsState s i →
        Stalled (s.confirmStop c) c i ∧ Evicted (s.spot i) ((s.confirmStop c).spot i)) ∧
      ∀ i, AttachedOnly s c i → s.isActive i = true → (s.spot i).demand = .hold →
        Nowhere (s.confirmStop c) i ∧ ((s.confirmStop c).spot i).demand = .none := by
  have comp := comp_decided_full full
  have map := imap_decided_full full
  have level : ((s.decided c).comp c).level = .stopped := by rw [comp]
  have limit : (s.decided c).historyFull c = true :=
    (historyFull_congr (by rw [comp]) (by rw [comp])).trans (decide_eq_true full)
  have rising := rising_decided hr c
  have spots := (aside_decided s c).spots
  have stalled : ∀ i, AttachedOnly s c i → s.isActive i = true → Stalled (s.decided c) c i := fun i only active =>
    ⟨level, limit, by rw [comp], attachedOnly_decided only, by rw [(aside_decided s c).isActive]; exact active⟩
  rw [confirmStop_asked asked]
  refine ⟨full_reports _ level limit, ?_, ?_, fun i only active asks serves => ?_, fun i only active held => ?_⟩
  · rw [(still_reports (.inl rfl) _ rising (.inr ⟨level, limit⟩)).2, latchOf_of_imap map]
  · rw [direction_eq, direction_eq, (still_reports (.inr rfl) _ rising (.inr ⟨level, limit⟩)).2, latchOf_of_imap map]
  · obtain ⟨seat, evicted⟩ := stalled_reports (stalled i only active) (by rw [spots]; exact asks)
      (by unfold DemandsItsState; rw [spots]; exact serves) only.1
    rw [spots] at evicted
    exact ⟨seat, evicted.demand, evicted.grant, evicted.mark, evicted.saves, evicted.stays⟩
  · exact dropped_reports (stalled i only active) (by rw [spots]; exact held) only.1

end

theorem manifest_confirmStop (s : State) (c : CompId) : (s.confirmStop c).manifest = s.manifest := by
  rw [confirmStop_eq]
  split
  · exact (aside_confirmed s c .stopped).manifest
  · exact (manifest_reports _ _).trans (aside_decided s c).manifest

theorem conditions_confirmStop (s : State) (c : CompId) : (s.confirmStop c).conditions = s.conditions := by
  rw [confirmStop_eq]
  split
  · exact (aside_confirmed s c .stopped).conditions
  · exact (conditions_reports _ _).trans (aside_decided s c).conditions

theorem sdu_stateReport (s : State) (c : CompId) (r : CompReading) : (s.stateReport c r).sdu = s.sdu :=
  (does_stateReport (c := true) s c r).sdu

/-! ## The five kinds of report -/

/-- A confirmed start or reversal with the direction its demand needs takes the level of the demand; else it reverses
(R141 to R143). -/
theorem comp_confirmRunning_cases {s : State} {c : CompId} {r : CompReading} (h : RunsAsDirected s c r) :
    (s.resolved c = .none → (s.confirmRunning c).comp c = { s.comp c with
      level := .idleRun, confirm := none, popdown := some (s.uptime + s.compField c (·.popdown)) }) ∧
    (s.resolved c = .hold → (s.confirmRunning c).comp c = { s.comp c with
      level := .idleRun, confirm := none, popdown := none, held := false }) ∧
    (s.resolved c = .push → r = .runningFwd → (s.confirmRunning c).comp c = { s.comp c with
      level := .push, confirm := none, popdown := none, held := false }) ∧
    (s.resolved c = .recover → r = .runningRev → (s.confirmRunning c).comp c = { s.comp c with
      level := .recover, confirm := none, popdown := none, held := false }) ∧
    (s.resolved c = .push → r = .runningRev → (s.confirmRunning c).comp c = { s.comp c with
      level := .reversing, confirm := some ⟨s.uptime + s.compField c (·.startTimeout), .runningFwd⟩
      popdown := none, held := false }) ∧
    (s.resolved c = .recover → r = .runningFwd → (s.confirmRunning c).comp c = { s.comp c with
      level := .reversing, confirm := some ⟨s.uptime + s.compField c (·.startTimeout), .runningRev⟩
      popdown := none, held := false }) := by
  have forward : r = .runningFwd → s.direction c = some .fwd := fun e => by
    rcases h with ⟨_, d⟩ | ⟨e', _⟩
    · exact d
    · rw [e] at e'; cases e'
  have reverse : r = .runningRev → s.direction c = some .rev := fun e => by
    rcases h with ⟨e', _⟩ | ⟨_, d⟩
    · rw [e] at e'; cases e'
    · exact d
  rw [comp_confirmRunning]
  refine ⟨fun d => ?_, fun d => ?_, fun d e => ?_, fun d e => ?_, fun d e => ?_, fun d e => ?_⟩
  · rw [d, State.followed, uptime_confirmed, compField_confirmed, comp_confirmed]
  · rw [d, State.followed, comp_confirmed]
  · rw [d, State.followed, direction_confirmed, if_pos (forward e), comp_confirmed]
  · rw [d, State.followed, direction_confirmed, if_pos (reverse e), comp_confirmed]
  · rw [d, State.followed, direction_confirmed, if_neg (by rw [reverse e]; nofun), State.turned, uptime_confirmed,
      compField_confirmed, comp_confirmed]
  · rw [d, State.followed, direction_confirmed, if_neg (by rw [forward e]; nofun), State.turned, uptime_confirmed,
      compField_confirmed, comp_confirmed]

/-- Found stopped, a usable compressor returns to STOPPED with STOP in its latch (R140). -/
theorem returned_stopped {s : State} (hr : Rising s.imap) {c : CompId} (usable : unusable s c = false) :
    Found ((s.writeComp .compRun c .stop).returnToLevel c .stopped) c .stop (s.direction c) := by
  obtain ⟨⟨x, latch⟩, _⟩ := latches_of_usable usable
  have map := imap_returnToLevel (s.writeComp .compRun c .stop) c .stopped
  refine ⟨?_, ?_⟩
  · rw [latchOf_of_imap map]
    exact latchOf_writeComp hr latch .stop
  · rw [direction_eq, direction_eq, latchOf_of_imap map]
    exact latchOf_writeComp_other hr .compRun .compDir c .stop (by decide)

/-- What drives one compressor changes nothing else (R140, R143). -/
structure OnlyDrives (c : CompId) (s t : State) : Prop where
  others   : ∀ d, d ≠ c → t.comp d = s.comp d
  spots    : ∀ i, t.spot i = { s.spot i with pass := (t.spot i).pass }
  waitList : t.waitList = s.waitList
  manifest : t.manifest = s.manifest
  conditions : t.conditions = s.conditions

theorem onlyDrives {c : CompId} {s t : State} (h : Drives c s t) (k : Aside s t) : OnlyDrives c s t :=
  ⟨h.others, k.spots, h.waitList, k.manifest, k.conditions⟩

/-- Settles O40: the five kinds of report, each by what its operation makes of the compressor, then of the spots. -/
theorem stateReportsMoveTheCompressor : Obligations.StateReportsMoveTheCompressor := by
  unfold Obligations.StateReportsMoveTheCompressor
  refine ⟨fun s c r => stateReport_leaves, fun s c r hr contradicts => ?_, fun s c r hr level runs => ?_,
    fun s c hr level => ?_, fun s c r hr level usable sound => ?_⟩
  · have sdu := sdu_stateReport s c r
    rw [stateReport_contradicts contradicts] at sdu ⊢
    obtain ⟨latch, direction⟩ := found_enterUnavailable hr c
    refine ⟨comp_enterUnavailable s c, fun x present => ?_, direction, manifest_enterUnavailable s c,
      conditions_enterUnavailable s c, sdu, fun arbiter serves => ?_⟩
    · rw [latch, present]
      rfl
    · obtain ⟨others, list, displaced⟩ := displaced_enterUnavailable arbiter c serves
      refine ⟨others, list, fun i hi => ⟨fun held => ?_, fun asks => ?_⟩⟩
      · obtain ⟨demand, grant, state, causes⟩ := (displaced i hi).1 held
        exact ⟨demand, grant, state, causes⟩
      · obtain ⟨demand, grant, mark, saves, _⟩ := (displaced i hi).2 asks
        exact ⟨demand, grant, mark, saves⟩
  · have sdu := sdu_stateReport s c r
    rw [stateReport_confirms level runs] at sdu ⊢
    obtain ⟨idle, hold, push, recover, toPush, toRecover⟩ := comp_confirmRunning_cases runs
    obtain ⟨others, spots, list, manifest, conditions⟩ :=
      onlyDrives (drives_confirmRunning s c) (aside_confirmRunning s c)
    refine ⟨idle, hold, push, recover, fun d e => ⟨?_, toPush d e⟩, fun d e => ⟨?_, toRecover d e⟩, others, spots, list,
      manifest, conditions, sdu⟩
    · subst e
      have reverse : s.direction c = some .rev := runs.elim (fun h => absurd h.1 (by decide)) And.right
      exact direction_confirmRunning hr reverse (by decide) (.inl ⟨d, rfl⟩)
    · subst e
      have forward : s.direction c = some .fwd := runs.elim And.right fun h => absurd h.1 (by decide)
      exact direction_confirmRunning hr forward (by decide) (.inr ⟨d, rfl⟩)
  · have sdu := sdu_stateReport s c .stopped
    rw [stateReport_stops level] at sdu ⊢
    refine ⟨manifest_confirmStop s c, conditions_confirmStop s c, sdu, fun empty => ?_, fun asked few => ?_,
      fun asked full => ?_⟩
    · rw [confirmStop_eq, if_pos (by rw [comp_confirmed, empty]; rfl), confirmed_stopped level]
    · obtain ⟨⟨a, comp⟩, latch, direction, seated⟩ := confirmStop_few hr asked few
      rw [comp_decided_few few] at comp
      refine ⟨by rw [comp], by rw [comp], by rw [comp], congrArg Compressor.confirm comp, latch, fun x present => ?_,
        fun i only active runs asks => ?_⟩
      · rw [direction x present]
        unfold startsIn
        rfl
      · obtain ⟨seat, grant, mark⟩ := seated i only active runs asks
        exact ⟨grant, mark, seat.demand, seat.state⟩
    · obtain ⟨⟨a, b, comp⟩, latch, direction, stalled, dropped⟩ := confirmStop_full hr asked full
      rw [comp_decided_full full] at comp
      refine ⟨by rw [comp], by rw [comp], by rw [comp], latch, direction, fun i only active asks serves => ?_,
        fun i only active held => ?_⟩
      · obtain ⟨seat, evicted⟩ := stalled i only active asks serves
        exact ⟨seat.deferred, seat.only.1, evicted.grant, evicted.mark, evicted.demand, evicted.saves⟩
      · obtain ⟨away, demand⟩ := dropped i only active held
        exact ⟨demand, away.1 c⟩
  · have sdu := sdu_stateReport s c r
    rw [stateReport_found level] at sdu ⊢
    unfold State.leaveUnavailable at sdu ⊢
    rw [if_neg (by rw [usable]; nofun)] at sdu ⊢
    have takes : ∀ d, Found (s.takeOver c d) c (if s.sdu.device = .run then .run else .stop) (some d) :=
      found_takeOver hr usable
    cases r with
    | stopped =>
      obtain ⟨latch, direction⟩ := returned_stopped hr usable
      obtain ⟨others, spots, list, manifest, conditions⟩ := onlyDrives
        ((drives_writeRun s c .stop).trans (drives_returnToLevel _ c .stopped))
        ((aside_writeComp s .compRun c .stop).trans (aside_returnToLevel _ c .stopped))
      refine ⟨direction, ?_, ?_, others, spots, list, manifest, conditions, sdu⟩
      · rw [if_pos rfl, comp_returnToLevel, comp_writeComp]
      · rw [if_neg fun e => e.1 rfl]
        exact latch
    | runningFwd =>
      obtain ⟨latch, direction⟩ := takes .fwd
      obtain ⟨others, spots, list, manifest, conditions⟩ := onlyDrives (drives_takeOver s c .fwd) (aside_takeOver s c .fwd)
      refine ⟨direction, ?_, ?_, others, spots, list, manifest, conditions, sdu⟩
      · rw [if_neg (by nofun), comp_takeOver]
        cases s.sdu.device <;> rfl
      · rw [latch]
        simp
    | runningRev =>
      obtain ⟨latch, direction⟩ := takes .rev
      obtain ⟨others, spots, list, manifest, conditions⟩ := onlyDrives (drives_takeOver s c .rev) (aside_takeOver s c .rev)
      refine ⟨direction, ?_, ?_, others, spots, list, manifest, conditions, sdu⟩
      · rw [if_neg (by nofun), comp_takeOver]
        cases s.sdu.device <;> rfl
      · rw [latch]
        simp
    | fault => exact absurd rfl sound

end Sys2Proof.Machine
end

section
/-! The return to RUN (R178): the timers and the queued commands of the images as R163 gives, and O6. -/

namespace Sys2Proof.Machine

/-! ## The queue through an answer and through the return to RUN -/

theorem outgoing_run_monitor {o : Output} (h : o.direction = .monitor) : outgoing .run o = none := by
  unfold outgoing
  rw [h]

theorem outgoing_run_drive {o : Output} (h : o.direction = .drive) : outgoing .run o = some o.latch := by
  unfold outgoing
  rw [h]

theorem stillPort_returnOutput {k j : Nat} (h : k ≠ j) (s : State) : StillPort k s.rpu (s.returnOutput j).rpu := by
  by_cases image : ∃ e o, Images s j e o
  · obtain ⟨e, o, image⟩ := image
    rw [returnOutput_eq image, (settleOutput_image image (some o.safe)).2.2]
    exact stillPort_portAfter h _ _ _ _
  · rw [returnOutput_none fun e o hi => image ⟨e, o, hi⟩]
    exact .refl k _

/-- What the returns of other images leave of one. -/
structure OtherReturns (k : Nat) (s t : State) : Prop where
  port    : StillPort k s.rpu t.rpu
  entry   : entryAt t.imap k = entryAt s.imap k
  device  : t.sdu.device = s.sdu.device
  address : t.rpu.address = s.rpu.address

theorem otherReturns_fold {k : Nat} (l : List Nat) (out : k ∉ l) (s : State) (run : s.sdu.device = .run) :
    OtherReturns k s (l.foldl State.returnOutput s) := by
  induction l generalizing s with
  | nil => exact ⟨.refl k _, rfl, rfl, rfl⟩
  | cons j l ih =>
    rw [List.mem_cons, not_or] at out
    have device := congrArg Sdu.device (onlyMap_returnOutput s j).sdu
    obtain ⟨port, entry, device', address⟩ := ih out.2 (s.returnOutput j) (device.trans run)
    have swept := (sweeps_returnOutput s.uptime s j ⟨rfl, run⟩).2 k
    have entry' : entryAt (s.returnOutput j).imap k = entryAt s.imap k := by
      rw [swept]
      simp [out.1]
    exact ⟨(stillPort_returnOutput out.1 s).trans port, entry.trans entry', device'.trans device,
      address.trans (inner_returnOutput s j).port.address⟩

/-- The command queued for an image after the return to RUN (R163). -/
theorem queuedCommand_enterRun {s : State} (hr : Rising s.imap) {k : Nat} {e : MapEntry} {o : Output} (hi : Images s k e o) :
    (o.direction = .monitor → queuedCommand k s.enterRun.rpu = none) ∧
      ∀ a f, s.rpu.address = some a → s.rpu.sending = some f → s.enterRun.rpu.sending = some f ∧ (o.direction = .drive →
        queuedCommand k s.enterRun.rpu = if o.latch = o.safe then queuedCommand k s.rpu else some o.latch) := by
  obtain ⟨l, r, split⟩ := List.append_of_mem ((mem_outputIndexes hr k).mpr ⟨e, o, hi.1, hi.2⟩)
  have nodup := nodup_outputIndexes hr
  rw [split, List.nodup_append] at nodup
  obtain ⟨_, tail, apart⟩ := nodup
  have outL : k ∉ l := fun h => apart k h k (List.mem_cons_self ..) rfl
  have outR : k ∉ r := (List.nodup_cons.mp tail).1
  have sweep : s.enterRun = r.foldl State.returnOutput ((l.foldl State.returnOutput s.runMark).returnOutput k) := by
    rw [enterRun_eq, State.returnAllOutputs, show outputIndexes s.runMark.imap = outputIndexes s.imap from rfl, split,
      List.foldl_append, List.foldl_cons]
  have first := otherReturns_fold l outL s.runMark rfl
  generalize l.foldl State.returnOutput s.runMark = u at *
  have image : Images u k e o := ⟨first.entry.trans hi.1, hi.2⟩
  have port := (settleOutput_image image (some o.safe)).2.2
  rw [← returnOutput_eq image, show u.sdu.device = .run from first.device] at port
  have last := otherReturns_fold r outR (u.returnOutput k)
    ((congrArg Sdu.device (onlyMap_returnOutput u k).sdu).trans first.device)
  rw [← sweep] at last
  refine ⟨fun monitor => (last.port.empty ?_).1, fun a f ha hf => ?_⟩
  · rw [port, outgoing_run_monitor monitor, portAfter_none (by nofun), queuedCommand_dropActuate, if_pos rfl]
  · obtain ⟨sends, same⟩ := first.port.behind f hf
    have sends' := (inner_returnOutput u k).port.sending f sends
    obtain ⟨still, same'⟩ := last.port.behind f sends'
    refine ⟨still, fun drive => ?_⟩
    rw [same', port, queuedCommand_portAfter (first.address.trans ha) sends, outgoing_run_drive drive]
    simp only [true_and]
    by_cases safe : o.latch = o.safe
    · rw [if_pos safe, if_neg fun h => h (by rw [safe])]
      exact same
    · rw [if_neg safe, if_pos fun h => safe (Option.some.inj h)]

/-! ## The live conditions -/

theorem any_gas_iff {m : List (Nat × MapEntry)} (hr : Rising m) :
    m.any (fun p => gasActive p.2) = true ↔ ∃ k e, entryAt m k = some e ∧ gasActive e = true := by
  rw [List.any_eq_true]
  constructor
  · rintro ⟨⟨k, e⟩, mem, gas⟩
    exact ⟨k, e, entryAt_of_mem hr mem, gas⟩
  · rintro ⟨k, e, found, gas⟩
    exact ⟨(k, e), mem_of_entryAt found, gas⟩

theorem gasActive_mapImage (e : MapEntry) (g : Output → Output) : gasActive (e.mapImage g) = gasActive e := by
  cases body : e.body with
  | input d => rw [mapImage_of_input body]
  | output o =>
    rw [mapImage_of_output body]
    simp [gasActive, MapEntry.isStale, MapEntry.lastValue, MapEntry.withImage, body]

/-- The return to RUN changes images alone, and no live condition (R163, R171). -/
theorem liveConditions_enterRun {s : State} (hr : Rising s.imap) : liveConditions s.enterRun = liveConditions s := by
  have only := onlyMap_enterRun s
  have gas : s.enterRun.imap.any (fun p => gasActive p.2) = s.imap.any (fun p => gasActive p.2) := by
    rw [Bool.eq_iff_iff, any_gas_iff (rising_enterRun hr), any_gas_iff hr]
    refine exists_congr fun k => ?_
    rw [entryAt_enterRun hr]
    constructor
    · rintro ⟨e', found, gas⟩
      obtain ⟨e, before, rfl⟩ := Option.map_eq_some_iff.mp found
      exact ⟨e, before, (gasActive_mapImage e _).symm.trans gas⟩
    · rintro ⟨e, found, gas⟩
      exact ⟨_, by rw [found]; rfl, (gasActive_mapImage e _).trans gas⟩
  rw [liveConditions, liveConditions, gas, only.sdu,
    show s.enterRun.rpu.address = s.rpu.address from (inner_returnAllOutputs s.runMark).port.address]
  rfl

theorem tripReport_quiet {s : State} (causes : s.sdu.causes = .empty) (live : anyLive s = false) : s.tripReport = [0, 0] := by
  have none : ∀ b ∈ liveConditions s, b = false := fun b hb => by
    rw [anyLive, List.any_eq_false] at live
    exact Bool.eq_false_iff.mpr (live b hb)
  have all : liveConditions s = [false, false, false, false] := by
    rw [liveConditions] at none ⊢
    simp only [List.mem_cons, List.not_mem_nil, or_false, forall_eq_or_imp, forall_eq] at none
    obtain ⟨esd, gas, silent, address⟩ := none
    rw [esd, gas, silent, address]
  rw [State.tripReport, causes, all]
  decide

theorem returned_eq (u : Nat) (o : Output) : returned u o = { o with
    refresh := if o.direction = .monitor then none else if o.latch = o.safe then o.refresh else some (u + 2) } := by
  unfold returned refreshAfter outgoing
  cases o.direction with
  | monitor => rfl
  | drive =>
    by_cases safe : o.latch = o.safe
    · simp [safe]
    · simp [safe]

/-- Settles O6: the sweep over the images, each at its turn; the refusals leave the part. -/
theorem tripResetReturnsToRun : Obligations.TripResetReturnsToRun := by
  unfold Obligations.TripResetReturnsToRun
  refine ⟨fun s q h tripped quiet hr => ?_, fun s q h tripped live => ?_, fun s q h run => ?_⟩
  · have live := liveConditions_enterRun hr
    have only := onlyMap_enterRun s
    have report : s.enterRun.tripReport = [0, 0] := tripReport_quiet (by rw [only.sdu]; rfl) (by rw [anyLive, live]; exact quiet)
    have effect : resetTrip [] s = (s.enterRun, ⟨.done, [0, 0]⟩) := by
      rw [← report]
      simp only [resetTrip, tripped, quiet]
      rfl
    have step : PortStep s.rpu s.enterRun.rpu := (around_enterRun s).calm.toPortStep
    have ht := h.answers resetTrip effect
    have rep := h.replied step ⟨.done, [0, 0]⟩
    have same := answer_same s.enterRun q ⟨.done, [0, 0]⟩
    have port := fun k => stillPort_answer (k := k) s.enterRun q ⟨.done, [0, 0]⟩
    generalize s.enterRun.answer q _ = t at ht rep same port
    refine ⟨t, ht, rep, ?_, ?_, ?_, ?_, ?_, ?_, ?_, ?_, fun k e d he hd => ?_, fun k e o he ho => ?_,
      fun k e o he ho => ⟨fun monitor => ?_, fun a f ha hf drive => ?_⟩⟩
    · exact same.sdu.trans (by rw [only.sdu]; rfl)
    · exact same.pins.trans (by rw [only.pins]; rfl)
    · exact same.spots.trans (by rw [only.spots]; rfl)
    · exact same.comps.trans (by rw [only.comps]; rfl)
    · exact same.waitList.trans (by rw [only.waitList]; rfl)
    · exact same.manifest.trans (by rw [only.manifest]; rfl)
    · exact same.conditions.trans (by rw [only.conditions]; rfl)
    · exact same.standing.trans (by rw [only.eq]; rfl)
    · rw [same.imap, entryAt_enterRun hr, he, Option.map_some, mapImage_of_input hd]
    · rw [same.imap, entryAt_enterRun hr, he, Option.map_some, mapImage_of_output ho, returned_eq]
      rfl
    · exact ((port k).empty ((queuedCommand_enterRun hr ⟨he, ho⟩).1 monitor)).1
    · obtain ⟨sends, queued⟩ := (queuedCommand_enterRun hr ⟨he, ho⟩).2 a f ha hf
      rw [((port k).behind f sends).2]
      exact queued drive
  · refine h.answered resetTrip ?_
    simp only [resetTrip, tripped, live]
    rfl
  · refine h.answered resetTrip ?_
    simp only [resetTrip, run]
    rfl

end Sys2Proof.Machine
end

section
/-! The hand-offs of a trip and of RESET_PART (R86, R87, R154): what they leave of the other spots and records, and what they make of
the compressors. -/

namespace Sys2Proof.Machine

/-! ## A spot while other spots are dealt with -/

/-- What operations of other spots leave of a spot, of its place in the manifest, and of every record that is not bound elsewhere. -/
structure Untouched (i : SpotId) (s t : State) : Prop where
  spot    : t.spot i = { s.spot i with pass := (t.spot i).pass }
  pass    : ¬ (s.spot i).inPass → (t.spot i).pass = (s.spot i).pass
  bound   : boundPosition t.manifest i = boundPosition s.manifest i
  records : ∀ p r, recordAt s.manifest p = some r → (∀ j, r.status = .bound j → j = i) → recordAt t.manifest p = some r
  values  : t.values i = s.values i

theorem Untouched.refl (i : SpotId) (s : State) : Untouched i s s := ⟨rfl, fun _ => rfl, rfl, fun _ _ h _ => h, rfl⟩

theorem Untouched.trans {i : SpotId} {x y z : State} (h : Untouched i x y) (k : Untouched i y z) : Untouched i x z := by
  refine ⟨by rw [k.spot, h.spot], fun outside => ?_, k.bound.trans h.bound,
    fun p r found own => k.records p r (h.records p r found own) own, k.values.trans h.values⟩
  rw [k.pass (by rw [h.spot]; exact outside), h.pass outside]

theorem Untouched.isActive {i : SpotId} {s t : State} (h : Untouched i s t) : t.isActive i = s.isActive i := by
  rw [State.isActive, h.spot]
  rfl

theorem untouched_of_manifest {i : SpotId} {s t : State} (manifest : t.manifest = s.manifest) (values : t.values i = s.values i)
    (spot : t.spot i = { s.spot i with pass := (t.spot i).pass })
    (pass : ¬ (s.spot i).inPass → (t.spot i).pass = (s.spot i).pass) : Untouched i s t :=
  ⟨spot, pass, by rw [manifest], fun _ _ found _ => by rw [manifest]; exact found, values⟩

theorem Beside.untouched {i j : SpotId} {s t : State} (h : Beside j s t) (hi : i ≠ j) : Untouched i s t :=
  untouched_of_manifest h.manifest (values_of_conditions h.conditions i) (h.spots i hi) (h.pass i hi)

theorem OnlyMap.untouched {s t : State} (h : OnlyMap s t) (i : SpotId) : Untouched i s t :=
  untouched_of_manifest h.manifest (values_of_conditions (by rw [h.eq]) i) (by rw [h.spot]) fun _ => by rw [h.spot]

theorem untouched_storeConditions {i j : SpotId} (hi : i ≠ j) (s : State) (now : Conditions) :
    Untouched i s (s.storeConditions j now) := by
  have values : (s.storeConditions j now).values i = s.values i := by rw [values_storeConditions, if_neg hi]
  refine untouched_of_manifest ?_ values ?_ ?_
  all_goals
    unfold State.storeConditions
    simp only
    split
  exacts [rfl, rfl, rfl, rfl, fun _ => rfl, fun _ => rfl]

theorem boundPosition_changeBound_other {m : List CarRecord} {i j : SpotId} (hi : i ≠ j) {f : CarRecord → CarRecord}
    (freed : ∀ r, (f r).status ≠ .bound i) : boundPosition (changeBound m j f) i = boundPosition m i := by
  induction m with
  | nil => rfl
  | cons c m ih =>
    by_cases here : c.status = .bound j
    · have other : c.status ≠ .bound i := by
        rw [here]
        exact fun e => hi (CarStatus.bound.inj e).symm
      simp [changeBound, boundPosition, here, freed, Ne.symm hi]
    · simp [changeBound, boundPosition, here, ih]

theorem recordAt_changeBound_other {m : List CarRecord} {j : SpotId} {p : Nat} {r : CarRecord} (found : recordAt m p = some r)
    (other : r.status ≠ .bound j) (f : CarRecord → CarRecord) : recordAt (changeBound m j f) p = some r := by
  induction m generalizing p with
  | nil => exact found
  | cons c m ih =>
    cases p with
    | zero => cases found
    | succ n =>
      cases n with
      | zero =>
        have same : c = r := Option.some.inj found
        subst same
        simp [changeBound, other, recordAt]
      | succ n =>
        have rest := ih (p := n + 1) found
        unfold changeBound
        split
        · exact found
        · exact rest

/-- The release of another spot's record. -/
theorem untouched_changeBound {i j : SpotId} (hi : i ≠ j) (s : State) {f : CarRecord → CarRecord}
    (freed : ∀ r, (f r).status ≠ .bound i) : Untouched i s { s with manifest := changeBound s.manifest j f } :=
  ⟨rfl, fun _ => rfl, boundPosition_changeBound_other hi freed,
    fun _ _ found own => recordAt_changeBound_other found (fun e => hi (own j e).symm) f, rfl⟩

/-- An idle spot before it changes its state at RESET_PART: unbound, UNKNOWN_TAG off (R87). -/
def State.cleared (s : State) (i : SpotId) : State :=
  (match (s.spot i).state with
    | .identified => s.unbind i
    | .ready => s.unbind i
    | _ => s).reportUnknownTag i false

theorem resetSpot_active {s : State} {i : SpotId} (active : s.isActive i = true) :
    s.resetSpot i = (s.endTransfer i .reset (s.restState i) true).reportUnknownTag i false := if_pos active

theorem resetSpot_idle {s : State} {i : SpotId} (idle : s.isActive i = false) : s.resetSpot i =
    if ((s.cleared i).spot i).state = s.restState i then s.cleared i else (s.cleared i).changeState i (s.restState i) :=
  if_neg (by rw [idle]; nofun)

section
variable {i j : SpotId} (hi : i ≠ j) (s : State)
include hi

theorem untouched_modSpot (f : SpotContext → SpotContext) : Untouched i s (s.modSpot j f) := (beside_modSpot s j f).untouched hi

theorem untouched_changeState (st : SpotState) : Untouched i s (s.changeState j st) :=
  (untouched_modSpot hi s _).trans ((onlyPort_announce _ j).onlyMap.untouched i)

theorem untouched_unbind : Untouched i s (s.unbind j) :=
  (untouched_changeBound hi s (f := fun c => { c with status := .waiting }) fun _ => nofun).trans (untouched_modSpot hi _ _)

theorem untouched_endTransfer (o : Ending) (st : SpotState) (b : Bool) : Untouched i s (s.endTransfer j o st b) := by
  refine Untouched.trans ?_ ((onlyPort_endNotices s j o st b).onlyMap.untouched i)
  rw [finishTransfer_eq]
  have valves : Untouched i (s.stopTimers j) ((s.stopTimers j).closeValves j) :=
    ((onlyMap_writeLatch _ .liqCmd (spotNumber j) .closed).trans
      (onlyMap_writeLatch _ .vapCmd (spotNumber j) .closed)).untouched i
  have down : Untouched i s (s.standDown j) :=
    (((untouched_modSpot hi s _).trans valves).trans ((beside_handDemand _ j .none).untouched hi)).trans
      (untouched_modSpot hi _ _)
  refine down.trans (Untouched.trans ?_ (untouched_modSpot hi _ _))
  unfold State.writeEndRecord
  refine (untouched_changeBound hi (s.standDown j) ?_).trans (untouched_modSpot hi _ _)
  exact fun _ => nofun

theorem untouched_faultSpot (o : Ending) : Untouched i s (s.faultSpot j o) := by
  unfold State.faultSpot
  split
  · exact untouched_endTransfer hi s o .faulted true
  · exact .refl i s

theorem untouched_cleared : Untouched i s (s.cleared j) := by
  have tag : ∀ u : State, Untouched i u (u.reportUnknownTag j false) := fun u => by
    unfold State.reportUnknownTag
    split
    · exact .refl i u
    · exact untouched_storeConditions hi u _
  unfold State.cleared
  refine Untouched.trans ?_ (tag _)
  split
  · exact untouched_unbind hi s
  · exact untouched_unbind hi s
  · exact .refl i s

theorem untouched_resetSpot : Untouched i s (s.resetSpot j) := by
  by_cases active : s.isActive j = true
  · rw [resetSpot_active active]
    refine (untouched_endTransfer hi s .reset (s.restState j) true).trans ?_
    unfold State.reportUnknownTag
    split
    · exact .refl i _
    · exact untouched_storeConditions hi _ _
  · rw [resetSpot_idle (Bool.not_eq_true _ ▸ active)]
    refine (untouched_cleared hi s).trans ?_
    split
    · exact .refl i _
    · exact untouched_changeState hi _ _

end

/-- In a sweep over the spots each has its turn, and the others leave it. -/
theorem sweep_turn {f : State → SpotId → State} (beside : ∀ u i j, i ≠ j → Untouched i u (f u j)) (i : SpotId) (s : State) :
    ∃ l : List SpotId, Untouched i s (l.foldl f s) ∧ Untouched i (f (l.foldl f s) i) (allSpots.foldl f s) := by
  have others : ∀ (l : List SpotId), i ∉ l → ∀ u, Untouched i u (l.foldl f u) := by
    intro l
    induction l with
    | nil => exact fun _ u => .refl i u
    | cons j l ih =>
      intro out u
      rw [List.mem_cons, not_or] at out
      exact (beside u i j out.1).trans (ih out.2 _)
  obtain ⟨l, r, split⟩ := List.append_of_mem (mem_allSpots i)
  have nodup : (l ++ i :: r).Nodup := split ▸ (by decide)
  rw [List.nodup_append] at nodup
  obtain ⟨_, tail, apart⟩ := nodup
  refine ⟨l, others l (fun h => apart i h i (List.mem_cons_self ..) rfl) s, ?_⟩
  rw [split, List.foldl_append, List.foldl_cons]
  exact others r (List.nodup_cons.mp tail).1 _

/-- The end of a transfer, seen from before and after what other spots do. -/
theorem Ended.around {s u v t : State} {i : SpotId} {o : Ending} {st : SpotState} (h : Ended u v i o st)
    (before : Untouched i s u) (after : Untouched i v t) (pressure : u.carPressure i = s.carPressure i) : Ended s t i o st := by
  obtain ⟨state, demand, grant, causes, saved, sub, timers, figures, link, record⟩ := h
  have outside : ¬ (v.spot i).inPass := fun inside => by
    have e := inside.2
    rw [sub] at e
    cases e
  have spot : t.spot i = v.spot i := by rw [after.spot, after.pass outside]
  have was := before.spot
  refine ⟨by rw [spot, state], by rw [spot, demand], by rw [spot, grant], by rw [spot, causes], by rw [spot, saved],
    by rw [spot, sub], by rw [spot]; exact timers, ?_, by rw [spot, link, before.bound], fun p hp => ?_⟩
  · rw [spot, figures.1, figures.2, was]
    exact ⟨rfl, rfl⟩
  · obtain ⟨r, e, found, done, ends⟩ := record p (before.bound.trans hp)
    obtain ⟨r', found', status, _⟩ := recordAt_boundPosition hp
    have same := (before.records p r' found' fun j hj => CarStatus.bound.inj (hj.symm.trans status)).symm.trans found
    cases same
    refine ⟨r, e, found', after.records p _ done (fun j hj => by cases hj), ?_⟩
    obtain ⟨spot, outcome, credited, rejected, gross, net, mass, remaining, passes, final, clamped, short, excess, heel⟩ := ends
    rw [was] at credited rejected gross net mass remaining passes clamped short excess heel
    exact ⟨spot, outcome, credited, rejected, gross, net, mass, remaining, passes, final.trans pressure, clamped, short, excess,
      heel⟩

/-! ## The compressors while transfers end -/

/-- What a demand given up makes of a compressor: it never starts, one that runs goes on running, one at rest rests (R141, R142). -/
structure Winds (x y : Compressor) : Prop where
  record    : y.record = x.record
  history   : y.history = x.history
  residency : y.residency = x.residency
  running   : x.level.tripStops = true → y.level.tripStops = true
  resting   : x.level.tripStops = false → y.level = x.level

theorem Winds.refl (x : Compressor) : Winds x x := ⟨rfl, rfl, rfl, id, fun _ => rfl⟩

theorem Winds.trans {x y z : Compressor} (h : Winds x y) (k : Winds y z) : Winds x z :=
  ⟨k.record.trans h.record, k.history.trans h.history, k.residency.trans h.residency, fun r => k.running (h.running r),
    fun r => (k.resting (by rw [h.resting r]; exact r)).trans (h.resting r)⟩

theorem winds_followed (s : State) (c : CompId) (d : Demand) (runs : (s.comp c).level.tripStops = true) :
    Winds (s.comp c) (s.followed c d) := by
  have rests : ∀ {l : Level}, (s.comp c).level.tripStops = false → l = (s.comp c).level := fun h => by
    rw [runs] at h
    cases h
  cases d with
  | push =>
    dsimp only [State.followed]
    split <;> exact ⟨rfl, rfl, rfl, fun _ => rfl, rests⟩
  | recover =>
    dsimp only [State.followed]
    split <;> exact ⟨rfl, rfl, rfl, fun _ => rfl, rests⟩
  | hold => exact ⟨rfl, rfl, rfl, fun _ => rfl, rests⟩
  | none => exact ⟨rfl, rfl, rfl, fun _ => rfl, rests⟩

/-- A compressor that acts on a demand it had already asked for does not start (R142). -/
theorem winds_actOn {s : State} {c : CompId} {old : Demand} (had : s.resolved c ≠ .none → old ≠ .none) (d : CompId) :
    Winds (s.comp d) ((s.actOn c old).comp d) := by
  by_cases e : d = c
  · subst e
    by_cases same : s.resolved d = old
    · rw [actOn_same same]
      exact .refl _
    · by_cases deaf : (s.comp d).level.deaf = true
      · rw [actOn_deaf deaf]
        exact .refl _
      · have follow : (s.comp d).level.tripStops = true → s.actOn d old = s.followDemand d →
            Winds (s.comp d) ((s.actOn d old).comp d) := fun runs e => by
          rw [e, comp_followDemand]
          exact winds_followed s d _ runs
        cases level : (s.comp d).level with
        | stopped =>
          rw [State.actOn, if_neg same, level]
          dsimp only
          split
          · rw [comp_modComp_same]
            exact ⟨rfl, rfl, rfl, id, fun _ => rfl⟩
          · next asks =>
            rw [if_neg (had asks)]
            exact .refl _
        | idleRun => exact follow (by rw [level]; rfl) (by rw [State.actOn, if_neg same, level])
        | push => exact follow (by rw [level]; rfl) (by rw [State.actOn, if_neg same, level])
        | recover => exact follow (by rw [level]; rfl) (by rw [State.actOn, if_neg same, level])
        | starting => exact absurd (by rw [level]; rfl) deaf
        | reversing => exact absurd (by rw [level]; rfl) deaf
        | stopping => exact absurd (by rw [level]; rfl) deaf
        | unavailable => exact absurd (by rw [level]; rfl) deaf
  · rw [(drives_actOn s c old).others d e]
    exact .refl _

theorem winds_actAll {s before : State} (had : ∀ c, s.resolved c ≠ .none → before.resolved c ≠ .none) (d : CompId) :
    Winds (s.comp d) ((s.actAll before).comp d) := by
  have fold : ∀ (l : List CompId) (u : State), (∀ c, u.resolved c ≠ .none → before.resolved c ≠ .none) →
      Winds (u.comp d) ((l.foldl (fun t c => t.actOn c (before.resolved c)) u).comp d) := by
    intro l
    induction l with
    | nil => exact fun u _ => .refl _
    | cons c l ih =>
      intro u hu
      refine (winds_actOn (hu c) d).trans (ih _ fun k => ?_)
      rw [(drives_actOn u c (before.resolved c)).resolved (aside_actOn u c (before.resolved c))]
      exact hu k
  exact fold allComps s had

theorem asker_of_resolved {s : State} {c : CompId} (h : s.resolved c ≠ .none) :
    ∃ j ∈ (s.comp c).attached, (s.spot j).demand ≠ .none := by
  by_contra none
  push Not at none
  refine h ?_
  have absent : ∀ d : Demand, d ≠ .none → ((s.comp c).attached.map fun i => (s.spot i).demand).contains d ≠ true := fun d hd e => by
    obtain ⟨j, hj, same⟩ := List.mem_map.mp (List.contains_iff_mem.mp e)
    exact hd (same.symm.trans (none j hj))
  rw [State.resolved, resolveDemand, if_neg (absent .push nofun), if_neg (absent .recover nofun), if_neg (absent .hold nofun)]

/-- A spot that gives its demand up has no new place, and its compressor is otherwise as it was (R147). -/
theorem place_none {s : State} {i : SpotId} (none : (s.spot i).demand = .none) :
    (∀ d, ∃ l, (s.place i).comp d = { s.comp d with attached := l } ∧ ∀ j ∈ l, j ∈ (s.comp d).attached) ∧
      ∀ j, (s.place i).spot j = s.spot j := by
  unfold State.place
  simp only [none]
  split
  · next c _ =>
    refine ⟨fun d => ?_, fun j => rfl⟩
    by_cases e : d = c
    · subst e
      exact ⟨_, comp_modComp_same s d _, fun j hj => (List.mem_filter.mp hj).1⟩
    · exact ⟨_, comp_modComp_other s _ e, fun j hj => hj⟩
  · split
    · exact ⟨fun d => ⟨_, rfl, fun j hj => hj⟩, fun j => rfl⟩
    · exact ⟨fun d => ⟨_, rfl, fun j hj => hj⟩, fun j => rfl⟩

theorem winds_handDemand (s : State) (i : SpotId) (d : CompId) : Winds (s.comp d) ((s.handDemand i .none).comp d) := by
  unfold State.handDemand
  split
  · exact .refl _
  · simp only
    generalize hu : (s.modSpot i fun x => { x with demand := .none }) = u
    have self : (u.spot i).demand = .none := by rw [← hu, spot_modSpot_same]
    have others : ∀ j, j ≠ i → u.spot j = s.spot j := fun j hj => by rw [← hu, spot_modSpot_other s _ hj]
    have comps : ∀ c, u.comp c = s.comp c := fun c => by rw [← hu]; rfl
    obtain ⟨places, spots⟩ := place_none self
    rw [(stands_takeGrant _ i).comps]
    have placed : Winds (s.comp d) ((u.place i).comp d) := by
      obtain ⟨l, e, _⟩ := places d
      rw [e, comps]
      exact ⟨rfl, rfl, rfl, id, fun _ => rfl⟩
    refine placed.trans (winds_actAll (fun c asks => ?_) d)
    obtain ⟨j, attached, demand⟩ := asker_of_resolved asks
    obtain ⟨l, e, sub⟩ := places c
    rw [spots] at demand
    have other : j ≠ i := fun e => by
      rw [e] at demand
      exact demand self
    rw [e] at attached
    rw [others j other] at demand
    exact resolved_ne_none (by rw [← comps]; exact sub j attached) demand

theorem winds_of_stands {s t : State} (h : Stands s t) (d : CompId) : Winds (s.comp d) (t.comp d) := by
  rw [h.comps]
  exact .refl _

theorem winds_endTransfer (s : State) (i : SpotId) (o : Ending) (st : SpotState) (b : Bool) (d : CompId) :
    Winds (s.comp d) ((s.endTransfer i o st b).comp d) := by
  have valves := (stands_closeValves (s.stopTimers i) i).comps d
  have winds := winds_handDemand ((s.stopTimers i).closeValves i) i d
  have down : (s.standDown i).comp d = (((s.stopTimers i).closeValves i).handDemand i .none).comp d := by
    rw [State.standDown]
    rfl
  have ended : Stands (s.standDown i) (s.finishTransfer i o st b) := by
    rw [finishTransfer_eq]
    exact (stands_writeEndRecord _ i o b).trans (stands_modSpot _ i _)
  rw [(onlyPort_endNotices s i o st b).onlyMap.comp d, ended.comps, down]
  rw [valves] at winds
  exact winds

theorem winds_faultSpot (s : State) (i : SpotId) (o : Ending) (d : CompId) : Winds (s.comp d) ((s.faultSpot i o).comp d) := by
  unfold State.faultSpot
  split
  · exact winds_endTransfer s i o .faulted true d
  · exact .refl _

theorem stands_cleared (s : State) (i : SpotId) : Stands s (s.cleared i) := by
  unfold State.cleared
  refine Stands.trans ?_ (stands_reportUnknownTag _ i false)
  split
  · exact stands_unbind s i
  · exact stands_unbind s i
  · exact .refl s

theorem winds_resetSpot (s : State) (i : SpotId) (d : CompId) : Winds (s.comp d) ((s.resetSpot i).comp d) := by
  by_cases active : s.isActive i = true
  · rw [resetSpot_active active]
    exact (winds_endTransfer s i .reset _ true d).trans (winds_of_stands (stands_reportUnknownTag _ i false) d)
  · rw [resetSpot_idle (Bool.not_eq_true _ ▸ active)]
    refine winds_of_stands ((stands_cleared s i).trans ?_) d
    split
    · exact .refl _
    · exact stands_changeState _ i _

theorem winds_sweep {f : State → SpotId → State} (d : CompId) (h : ∀ u i, Winds (u.comp d) ((f u i).comp d)) (l : List SpotId)
    (s : State) : Winds (s.comp d) ((l.foldl f s).comp d) := by
  induction l generalizing s with
  | nil => exact .refl _
  | cons i l ih => exact (h s i).trans (ih _)

end Sys2Proof.Machine
end

section
/-! Trip entry as a whole (R175): what it makes of the spots, of the compressors and of the images; O4. -/

namespace Sys2Proof.Machine

/-! ## The compressors -/

/-- A compressor that trip entry has detached, and stopped where it ran (R154). -/
def State.halted (s : State) (c : CompId) : Compressor :=
  if (s.comp c).level.tripStops then { (s.comp c).stripped with
    level := .stopping, confirm := some ⟨s.uptime + s.compField c (·.startTimeout), .stopped⟩ }
  else (s.comp c).stripped

theorem halted_congr {s t : State} {c : CompId} (comp : t.comp c = s.comp c) (uptime : t.uptime = s.uptime) :
    t.halted c = s.halted c := by
  rw [State.halted, State.halted, comp, uptime, compField_congr (congrArg Compressor.record comp)]

theorem comps_tripComp {s : State} (quiet : ∀ i, s.isActive i = false) (c d : CompId) :
    (s.tripComp c).comp d = if d = c then s.halted c else s.comp d := by
  have stands := (comp_tripComp (c := c) quiet).1
  have inner := Inside.foldl State.takeReport inner_takeReport (s.comp c).attached (s.modComp c Compressor.stripped)
  unfold State.tripComp
  simp only
  change (if (((s.comp c).attached.foldl State.takeReport (s.modComp c Compressor.stripped)).comp c).level.tripStops = true
    then State.stopCompressor ((s.comp c).attached.foldl State.takeReport (s.modComp c Compressor.stripped)) c
    else (s.comp c).attached.foldl State.takeReport (s.modComp c Compressor.stripped)).comp d = _
  generalize (s.comp c).attached.foldl State.takeReport (s.modComp c Compressor.stripped) = v at *
  have uptime : v.uptime = s.uptime := inner.uptime
  have self : v.comp c = (s.comp c).stripped := (stands.comps c).trans (comp_modComp_same s c _)
  have field : v.compField c (·.startTimeout) = s.compField c (·.startTimeout) := compField_congr (by rw [self]; rfl) _
  have level : ((s.comp c).stripped).level = (s.comp c).level := rfl
  by_cases e : d = c
  · subst e
    rw [if_pos rfl, State.halted, self, level]
    split
    · rw [comp_stopCompressor, self, uptime, field]
    · exact self
  · have other : v.comp d = s.comp d := (stands.comps d).trans (comp_modComp_other s _ e)
    rw [if_neg e]
    split
    · exact ((drives_stopCompressor v c).others d e).trans other
    · exact other

theorem comps_tripFold (d : CompId) (l : List CompId) (nodup : l.Nodup) {s : State} (quiet : ∀ i, s.isActive i = false) :
    (l.foldl State.tripComp s).comp d = if d ∈ l then s.halted d else s.comp d := by
  induction l generalizing s with
  | nil => rfl
  | cons c l ih =>
    obtain ⟨out, nodup⟩ := List.nodup_cons.mp nodup
    have inner := inner_tripComp s c
    have first := comps_tripComp quiet c d
    rw [List.foldl_cons, ih nodup (quiet_of_inside inner quiet)]
    by_cases e : d = c
    · subst e
      rw [if_neg out, first, if_pos rfl, if_pos (List.mem_cons_self ..)]
    · rw [if_neg e] at first
      by_cases later : d ∈ l
      · rw [if_pos later, if_pos (List.mem_cons_of_mem _ later)]
        exact halted_congr first inner.uptime
      · rw [if_neg later, if_neg fun h => (List.mem_cons.mp h).elim e later]
        exact first

/-- Detached and stopped, with nobody on the list (R154). -/
theorem halted_tripComps {s : State} (quiet : ∀ i, s.isActive i = false) :
    (∀ c, s.tripComps.comp c = s.halted c) ∧ s.tripComps.waitList = [] := by
  have still := quiet_of_inside (Inside.foldl State.tripComp inner_tripComp allComps s) quiet
  have all := fun c => comps_tripFold c allComps (by decide) quiet
  unfold State.tripComps
  simp only
  generalize allComps.foldl State.tripComp s = u at *
  have stands := stands_quiet_reports u.waitList (s := { u with waitList := [] }) still
  refine ⟨fun c => (stands.comps c).trans ((all c).trans (if_pos (mem_allComps c))), stands.waitList⟩

/-! ## The spots while the compressors are halted -/

/-- What answers to spots outside the active states leave: states, demands, figures; a grant changes where a demand stands. -/
structure Regranted (s t : State) : Prop where
  manifest   : t.manifest = s.manifest
  conditions : t.conditions = s.conditions
  spots      : ∀ i, ∃ g p, t.spot i = (s.spot i).handed (s.spot i).demand g p ∧ (¬ (s.spot i).inPass → p = (s.spot i).pass) ∧
    ((s.spot i).demand = .none → (s.spot i).grant = .none → g = .none)

theorem Regranted.refl (s : State) : Regranted s s := ⟨rfl, rfl, fun _ => ⟨_, _, rfl, fun _ => rfl, fun _ h => h⟩⟩

theorem Regranted.trans {x y z : State} (h : Regranted x y) (k : Regranted y z) : Regranted x z := by
  refine ⟨k.manifest.trans h.manifest, k.conditions.trans h.conditions, fun i => ?_⟩
  obtain ⟨g, p, e, pass, grant⟩ := h.spots i
  obtain ⟨g', p', e', pass', grant'⟩ := k.spots i
  rw [e] at e' pass' grant'
  exact ⟨g', p', e', fun outside => (pass' outside).trans (pass outside), fun none clear => grant' none (grant none clear)⟩

theorem Aside.regranted {s t : State} (h : Aside s t) : Regranted s t :=
  ⟨h.manifest, h.conditions, fun i => ⟨(s.spot i).grant, (t.spot i).pass, h.spots i, h.pass i, fun _ clear => clear⟩⟩

theorem OnlyMap.regranted {s t : State} (h : OnlyMap s t) : Regranted s t :=
  ⟨h.manifest, by rw [h.eq], fun i => ⟨(s.spot i).grant, (s.spot i).pass, h.spot i, fun _ => rfl, fun _ clear => clear⟩⟩

theorem regranted_takeGrant (s : State) (i : SpotId) : Regranted s (s.takeGrant i) := by
  have beside := beside_takeGrant s i
  refine ⟨beside.manifest, beside.conditions, fun j => ?_⟩
  by_cases e : j = i
  · subst e
    obtain ⟨p, pass, spot⟩ := spot_takeGrant s j
    exact ⟨_, p, spot, pass, fun none _ => by rw [none, grantOf_none]⟩
  · exact ⟨(s.spot j).grant, _, beside.spots j e, beside.pass j e, fun _ clear => clear⟩

theorem regranted_reports (l : List SpotId) {s : State} (quiet : ∀ i, s.isActive i = false) :
    Regranted s (l.foldl State.takeReport s) := by
  induction l generalizing s with
  | nil => exact .refl s
  | cons i l ih =>
    rw [List.foldl_cons, takeReport_quiet (quiet i)]
    exact (regranted_takeGrant s i).trans (ih (quiet_of_inside (inner_takeGrant s i) quiet))

theorem regranted_tripComp {s : State} (quiet : ∀ i, s.isActive i = false) (c : CompId) : Regranted s (s.tripComp c) := by
  have stripped : Regranted s (s.modComp c Compressor.stripped) := (aside_modComp s c _).regranted
  have told := stripped.trans (regranted_reports (s.comp c).attached quiet)
  unfold State.tripComp
  simp only
  split
  · exact told.trans (aside_stopCompressor _ c).regranted
  · exact told

theorem regranted_tripComps {s : State} (quiet : ∀ i, s.isActive i = false) : Regranted s s.tripComps := by
  have fold : ∀ (l : List CompId) (u : State), (∀ i, u.isActive i = false) → Regranted u (l.foldl State.tripComp u) := by
    intro l
    induction l with
    | nil => exact fun u _ => .refl u
    | cons c l ih => exact fun u hu => (regranted_tripComp hu c).trans (ih _ (quiet_of_inside (inner_tripComp u c) hu))
  have still := quiet_of_inside (Inside.foldl State.tripComp inner_tripComp allComps s) quiet
  unfold State.tripComps
  simp only
  refine (fold allComps s quiet).trans ?_
  generalize allComps.foldl State.tripComp s = u at *
  refine Regranted.trans (y := { u with waitList := [] }) ?_ (regranted_reports u.waitList still)
  exact ⟨rfl, rfl, fun i => ⟨_, _, rfl, fun _ => rfl, fun _ clear => clear⟩⟩

/-- An ended transfer stands through the answers. -/
theorem Ended.regranted {s t u : State} {i : SpotId} {o : Ending} {st : SpotState} (h : Ended s t i o st)
    (k : Regranted t u) : Ended s u i o st := by
  obtain ⟨g, p, e, pass, grant⟩ := k.spots i
  have outside : ¬ (t.spot i).inPass := fun inside => by
    have sub := inside.2
    rw [h.sub] at sub
    cases sub
  refine h.congr ?_ k.manifest
  rw [e, pass outside, grant h.demand h.grant, SpotContext.handed, ← h.grant]

/-! ## The images -/

/-- Every image after the hand-offs and the offers of all safe values (R162, R175). -/
theorem outputs_forced {s t : State} (hr : Rising s.imap) (entries : Entries AnyLatch s t) {k : Nat} {e : MapEntry} {o : Output}
    (hi : Images s k e o) : ∃ o', entryAt t.forceAllSafe.imap k = some { e with body := .output o' } ∧ o'.safe = o.safe ∧
      o'.direction = o.direction ∧ o'.refresh = some (t.uptime + 2) := by
  obtain ⟨e', found, same⟩ := entries.entry k e hi.1
  obtain ⟨o', rfl, safe, direction, _⟩ := same.2 o hi.2
  refine ⟨restarted t.uptime o', ?_, safe, direction, rfl⟩
  rw [entryAt_forceAllSafe (entries.rising hr), found, Option.map_some, mapImage_of_output rfl]
  rfl

theorem offered_forced {s t : State} (hr : Rising s.imap) (entries : Entries AnyLatch s t) (port : PortStep s.rpu t.rpu)
    {a : Byte} {f : Frame} (ha : s.rpu.address = some a) (hf : s.rpu.sending = some f) {k : Nat} {e : MapEntry} {o : Output}
    (hi : Images s k e o) : queuedCommand k t.forceAllSafe.rpu = some o.safe := by
  obtain ⟨e', found, same⟩ := entries.entry k e hi.1
  obtain ⟨o', rfl, safe, _⟩ := same.2 o hi.2
  rw [← safe]
  exact queuedCommand_forceAllSafe (entries.rising hr) (port.address.trans ha) (port.sending f hf) ⟨found, rfl⟩

/-! ## Trip entry -/

theorem tripSpots_turn (s : State) (i : SpotId) : ∃ l : List SpotId,
    Untouched i s (l.foldl (fun u j => u.faultSpot j .tripped) s) ∧
      Untouched i ((l.foldl (fun u j => u.faultSpot j .tripped) s).faultSpot i .tripped) s.tripSpots :=
  sweep_turn (f := fun u j => u.faultSpot j .tripped) (fun u _ _ hi => untouched_faultSpot hi u .tripped) i s

/-- What the hand-offs of trip entry make of the spots, the compressors and the images (R86, R154, R162). -/
structure HandedOff (s t : State) : Prop where
  ended   : ∀ i, s.isActive i = true → Ended s t i .tripped .faulted
  kept    : ∀ i, s.isActive i = false → (t.spot i).state = (s.spot i).state ∧
    boundPosition t.manifest i = boundPosition s.manifest i
  list    : t.waitList = []
  comps   : ∀ c, (t.comp c).attached = [] ∧ (t.comp c).popdown = none ∧ (t.comp c).deferred = false ∧
    (t.comp c).held = false
  stopped : ∀ c, (s.comp c).level.tripStops = true → (t.comp c).level = .stopping ∧
    (t.comp c).confirm = some ⟨s.uptime + s.compField c (·.startTimeout), .stopped⟩
  resting : ∀ c, (s.comp c).level.tripStops = false → (t.comp c).level = (s.comp c).level
  outputs : ∀ k e o, entryAt s.imap k = some e → e.body = .output o → ∃ o', entryAt t.imap k =
    some { e with body := .output o' } ∧ o'.safe = o.safe ∧ o'.direction = o.direction ∧
    o'.refresh = some (s.uptime + 2)
  offered : ∀ a f, s.rpu.address = some a → s.rpu.sending = some f → ∀ k e o, entryAt s.imap k = some e →
    e.body = .output o → queuedCommand k t.rpu = some o.safe

theorem handedOff_spots {s : State} (hr : Rising s.imap) (i : SpotId) :
    (s.isActive i = true → Ended s s.tripSpots i .tripped .faulted) ∧
      (s.isActive i = false → Untouched i s s.tripSpots) := by
  obtain ⟨l, earlier, later⟩ := tripSpots_turn s i
  have swept := entries_foldl (fun v j => v.faultSpot j .tripped) (fun _ j h => entries_faultSpot h j .tripped) l hr
  refine ⟨fun active => ?_, fun idle => ?_⟩
  · rw [faultSpot_active (earlier.isActive.trans active)] at later
    exact (ended_endTransfer (swept.rising hr) i .tripped .faulted).around earlier later (swept.carPressure hr i)
  · have asleep : ¬ (l.foldl (fun v j => v.faultSpot j .tripped) s).isActive i = true := by
      rw [earlier.isActive]
      exact Bool.eq_false_iff.mp idle
    rw [State.faultSpot, if_neg asleep] at later
    exact earlier.trans later

theorem handedOff {s : State} (hr : Rising s.imap) : HandedOff s s.tripSpots.tripComps.forceAllSafe := by
  have spots := fun i => handedOff_spots hr i
  have swept := entries_tripSpots hr
  have entries := swept.trans (entries_tripComps (swept.rising hr))
  have inner := (inner_tripSpots s).trans (inner_tripComps s.tripSpots)
  have quiet := tripSpots_quiet s
  have uptime := (inner_tripSpots s).uptime
  have winds : ∀ c, Winds (s.comp c) (s.tripSpots.comp c) := fun c =>
    winds_sweep c (fun v i => winds_faultSpot v i .tripped c) allSpots s
  generalize s.tripSpots = u at *
  have halted := halted_tripComps quiet
  have only := onlyMap_forceAllSafe u.tripComps
  have regranted := (regranted_tripComps quiet).trans only.regranted
  have comp : ∀ c, u.tripComps.forceAllSafe.comp c = u.halted c := fun c => (only.comp c).trans (halted.1 c)
  refine ⟨fun i active => ((spots i).1 active).regranted regranted, fun i idle => ?_, only.waitList.trans halted.2,
    fun c => ?_, fun c runs => ?_, fun c rests => ?_, fun k e o he ho => ?_, fun a f ha hf k e o he ho => ?_⟩
  · have kept := (spots i).2 idle
    obtain ⟨g, p, e, _⟩ := regranted.spots i
    refine ⟨?_, ?_⟩
    · rw [e]
      change (u.spot i).state = _
      rw [kept.spot]
    · rw [regranted.manifest]
      exact kept.bound
  · rw [comp, State.halted]
    split <;> exact ⟨rfl, rfl, rfl, rfl⟩
  · have field : u.compField c (·.startTimeout) = s.compField c (·.startTimeout) := compField_congr (winds c).record _
    rw [comp, State.halted, if_pos ((winds c).running runs), field, uptime]
    exact ⟨rfl, rfl⟩
  · have level := (winds c).resting rests
    rw [comp, State.halted, if_neg (by rw [level, rests]; nofun)]
    exact level
  · obtain ⟨o', entry, safe, direction, refresh⟩ := outputs_forced hr entries ⟨he, ho⟩
    exact ⟨o', entry, safe, direction, refresh.trans (by rw [inner.uptime])⟩
  · exact offered_forced hr entries inner.port ha hf ⟨he, ho⟩

/-- What comes before the hand-offs and leaves what they speak of. -/
theorem HandedOff.marked {s m t : State} (h : HandedOff m t) (uptime : m.uptime = s.uptime) (imap : m.imap = s.imap)
    (manifest : m.manifest = s.manifest) (conditions : m.conditions = s.conditions) (spots : m.spots = s.spots)
    (comps : m.comps = s.comps) (address : m.rpu.address = s.rpu.address) (sends : ∀ f, s.rpu.sending = some f → m.rpu.sending = some f) :
    HandedOff s t := by
  have spot := spot_of_spots spots
  have comp := comp_of_comps comps
  have active : ∀ i, m.isActive i = s.isActive i := fun i => by rw [State.isActive, State.isActive, spot]
  have before : ∀ i, Untouched i s m := fun i => untouched_of_manifest manifest
    (values_of_conditions conditions i) (by rw [spot]) fun _ => by rw [spot]
  have field : ∀ c, m.compField c (·.startTimeout) = s.compField c (·.startTimeout) := fun c =>
    compField_congr (by rw [comp]) _
  have pressure : ∀ i, m.carPressure i = s.carPressure i := fun i => by
    rw [State.carPressure, State.carPressure, State.spotEntry, State.spotEntry, imap]
  exact ⟨fun i on => (h.ended i ((active i).trans on)).around (before i) (.refl i t) (pressure i),
    fun i off => by rw [← spot, ← manifest]; exact h.kept i ((active i).trans off), h.list, h.comps,
    fun c runs => by rw [← uptime, ← field]; exact h.stopped c (by rw [comp]; exact runs),
    fun c rests => by rw [← comp]; exact h.resting c (by rw [comp]; exact rests),
    fun k e o he ho => by rw [← uptime]; exact h.outputs k e o (by rw [imap]; exact he) ho,
    fun a f ha hf k e o he ho => h.offered a f (address.trans ha) (sends f hf) k e o (by rw [imap]; exact he) ho⟩

/-- The answer to a request leaves what the hand-offs made. -/
theorem HandedOff.answered {s u t : State} (h : HandedOff s u) (same : SameParts u t)
    (port : ∀ k, StillPort k u.rpu t.rpu) (sends : ∀ f, s.rpu.sending = some f → u.rpu.sending = some f) : HandedOff s t := by
  have spot := spot_of_spots same.spots
  have comp := comp_of_comps same.comps
  refine ⟨fun i active => (h.ended i active).congr (spot i) same.manifest,
    fun i idle => by rw [spot, same.manifest]; exact h.kept i idle, by rw [same.waitList]; exact h.list,
    fun c => by rw [comp]; exact h.comps c, fun c runs => by rw [comp]; exact h.stopped c runs,
    fun c rests => by rw [comp]; exact h.resting c rests, fun k e o he ho => by rw [same.imap]; exact h.outputs k e o he ho,
    fun a f ha hf k e o he ho => ?_⟩
  rw [((port k).behind f (sends f hf)).2]
  exact h.offered a f ha hf k e o he ho

/-- The Shutdown Unit's own part of trip entry (R175). -/
structure Marked (s t : State) (added : TripCauses) : Prop where
  device : t.sdu.device = .tripped
  causes : t.sdu.causes = s.sdu.causes.union added
  uptime : t.sdu.entryUptime = s.uptime
  line   : t.pins.tripEnergised = false

theorem marked_tripEntry (s : State) (added : TripCauses) : Marked s (s.tripEntry added) added := by
  have handed := inner_tripHandOffs (s.tripMark added) added
  rw [← tripEntry_eq] at handed
  exact ⟨by rw [handed.sdu]; rfl, by rw [handed.sdu]; rfl, by rw [handed.sdu]; rfl, by rw [handed.pins]; rfl⟩

theorem handedOff_tripEntry {s : State} (hr : Rising s.imap) (added : TripCauses) : HandedOff s (s.tripEntry added) := by
  have port := (inner_tripNotice (s.tripMark added) added).port
  rw [tripEntry_eq]
  exact (handedOff (s := (s.tripMark added).tripNotice added) hr).marked rfl rfl rfl rfl rfl rfl port.address port.sending

theorem tripEntered_of {s t : State} {added : TripCauses} (mark : Marked s t added) (h : HandedOff s t) :
    TripEntered s t added :=
  ⟨mark.device, mark.causes, mark.uptime, mark.line, h.ended, h.kept, h.list, h.comps, h.stopped, h.resting, h.outputs, h.offered⟩

/-- Settles O4: the three causes reach the same trip entry; the request's answer leaves it. -/
theorem causesTripFromRun : Obligations.CausesTripFromRun := by
  unfold Obligations.CausesTripFromRun
  refine ⟨fun s on run hr => ?_, fun s on run hr live passed => ?_, fun s q h run hr => ?_⟩
  · have mark := marked_tripEntry s.esdMark causeEsd
    have whole := (handedOff_tripEntry (s := s.esdMark) hr causeEsd).marked (s := s) rfl rfl rfl rfl rfl rfl rfl
      fun _ hf => hf
    have handed := inner_tripHandOffs (s.esdMark.tripMark causeEsd) causeEsd
    rw [← tripEntry_eq] at handed
    refine ⟨_, exec_esdLineAsserted_marked on, ?_⟩
    rw [addTripCause_of_run (s := s.esdMark) run]
    exact ⟨tripEntered_of ⟨mark.device, mark.causes, mark.uptime, mark.line⟩ whole, by rw [handed.sdu]; rfl,
      by rw [handed.pins]; rfl⟩
  · have mark := marked_tripEntry s.silentMark causeSilent
    have whole := (handedOff_tripEntry (s := s.silentMark) hr causeSilent).marked (s := s) rfl rfl rfl rfl rfl rfl rfl
      fun _ hf => hf
    have handed := inner_tripHandOffs (s.silentMark.tripMark causeSilent) causeSilent
    rw [← tripEntry_eq] at handed
    refine ⟨_, exec_silenceExpiry_due on live passed, ?_⟩
    rw [addTripCause_of_run (s := s.silentMark) run]
    exact ⟨tripEntered_of ⟨mark.device, mark.causes, mark.uptime, mark.line⟩ whole, by rw [handed.sdu]; rfl,
      by rw [handed.port.silence]; rfl⟩
  · obtain ⟨device, causes, uptime, line⟩ := marked_tripEntry s causeRequested
    have handed := inner_tripHandOffs (s.tripMark causeRequested) causeRequested
    rw [← tripEntry_eq] at handed
    have effect : tripPart [] s = (s.tripEntry causeRequested, ⟨.done, []⟩) := by
      rw [← addTripCause_of_run run]
      rfl
    have same := answer_same (s.tripEntry causeRequested) q ⟨.done, []⟩
    have mark : Marked s ((s.tripEntry causeRequested).answer q ⟨.done, []⟩) causeRequested :=
      ⟨by rw [same.sdu, device], by rw [same.sdu, causes], by rw [same.sdu, uptime], by rw [same.pins, line]⟩
    exact ⟨_, h.answers tripPart effect, tripEntered_of mark ((handedOff_tripEntry hr causeRequested).answered same
      (fun k => stillPort_answer _ q _) handed.port.sending), h.replied handed.port ⟨.done, []⟩⟩

end Sys2Proof.Machine
end

section
/-! RESET_PART at the spots and at the ring port (R15, R87, R179). -/

namespace Sys2Proof.Machine

/-! ## A reply that waits -/

theorem Waits.kick {r : Rpu} {d t : Byte} {b : List Byte} (h : Waits r d t b) : Waits (Machine.kick r) d t b := by
  rcases h with h | ⟨a, address, sending⟩
  · exact waits_kick r d t b h
  · rw [kick_of_sending sending]
    exact .inr ⟨a, address, sending⟩

theorem Waits.offerNotice {r : Rpu} {d t : Byte} {b : List Byte} (h : Waits r d t b) (n : List Byte) :
    Waits (Machine.offerNotice n r) d t b := by
  unfold Machine.offerNotice
  simp only
  split
  · exact h
  · split
    · refine Waits.kick (h.imp (fun h => ?_) id)
      exact List.mem_append_left _ h
    · exact h

theorem Waits.offerActuate {r : Rpu} {d t : Byte} {b : List Byte} (h : Waits r d t b) (a : Actuate) :
    Waits (Machine.offerActuate a r) d t b := by
  unfold Machine.offerActuate
  split
  · exact h
  · exact Waits.kick h

theorem Waits.portAfter {r : Rpu} {d t : Byte} {b : List Byte} (h : Waits r d t b) (k : Nat) (e : MapEntry)
    (before now : Option Command) : Waits (Machine.portAfter k e before now r) d t b := by
  unfold Machine.portAfter
  split
  · exact h
  · split
    · exact h.offerActuate _
    · exact h

theorem Touch.waits {s t : State} (h : Touch s t) {d g : Byte} {b : List Byte} (p : Waits s.rpu d g b) : Waits t.rpu d g b := by
  cases h with
  | still map port => rw [port]; exact p
  | notice n map port => rw [port]; exact p.offerNotice n
  | input k e d d' entry input map port => rw [port]; exact p
  | image k e o o' image safe timer entry others port => rw [port]; exact p.portAfter _ _ _ _
  | offer k e o cmd image now entry others port => rw [port]; exact p.offerActuate _

/-- A reply given stays given through what a unit does (R9, R12). -/
theorem Does.waits {o c : Bool} {s t : State} (h : Does o c s t) {d g : Byte} {b : List Byte} (p : Waits s.rpu d g b) :
    Waits t.rpu d g b :=
  h.keeps (P := fun u => Waits u.rpu d g b) (fun _ _ hk hp => hk.touch.waits hp) p

/-! ## One spot at its turn -/

theorem restState_of_table {s t : State} (h : t.table = s.table) (i : SpotId) : t.restState i = s.restState i := by
  rw [State.restState, State.restState, State.record, State.record, h]

theorem rests (s : State) (i : SpotId) : (s.restState i).active = false := by
  unfold State.restState
  split
  · split <;> rfl
  · rfl

theorem spot_cleared_state (s : State) (i : SpotId) : ((s.cleared i).spot i).state = (s.spot i).state := by
  rw [State.cleared, state_reportUnknownTag]
  split
  · rw [State.unbind, spot_modSpot_same]
    rfl
  · rw [State.unbind, spot_modSpot_same]
    rfl
  · rfl

theorem state_resetSpot (s : State) (i : SpotId) : ((s.resetSpot i).spot i).state = s.restState i := by
  by_cases active : s.isActive i = true
  · rw [resetSpot_active active, state_reportUnknownTag, state_endTransfer]
  · rw [resetSpot_idle (Bool.not_eq_true _ ▸ active)]
    split
    · next same => exact same
    · exact state_changeState _ i _

theorem unknownTag_reported (s : State) (i : SpotId) (b : Bool) : ((s.reportUnknownTag i b).values i).unknownTag = b := by
  unfold State.reportUnknownTag
  split
  · next same => exact same
  · rw [values_storeConditions, if_pos rfl]
    rfl

theorem unknownTag_resetSpot (s : State) (i : SpotId) : ((s.resetSpot i).values i).unknownTag = false := by
  by_cases active : s.isActive i = true
  · rw [resetSpot_active active]
    exact unknownTag_reported _ i false
  · have cleared : ((s.cleared i).values i).unknownTag = false := unknownTag_reported _ i false
    rw [resetSpot_idle (Bool.not_eq_true _ ▸ active)]
    split
    · exact cleared
    · rw [State.changeState, values_of_conditions (t := ((s.cleared i).setState i (s.restState i)).announce i) (s := s.cleared i)]
      · exact cleared
      · rw [(onlyPort_announce _ i).eq]
        rfl

theorem ended_resetSpot {s : State} (hr : Rising s.imap) {i : SpotId} (active : s.isActive i = true) :
    Ended s (s.resetSpot i) i .reset (s.restState i) := by
  rw [resetSpot_active active]
  exact (ended_endTransfer hr i .reset (s.restState i)).congr (state_reportUnknownTag _ i i false)
    (onlyConditions_reportUnknownTag _ i false).manifest

/-- RESET_PART unbinds an identified or ready spot (R87). -/
theorem unbound_resetSpot {s : State} {i : SpotId} {p : Nat} (holds : (s.spot i).state = .identified ∨ (s.spot i).state = .ready)
    (bound : boundPosition s.manifest i = some p) : ∃ r, recordAt s.manifest p = some r ∧ r.status = .bound i ∧
      recordAt (s.resetSpot i).manifest p = some { r with status := .waiting } ∧ ((s.resetSpot i).spot i).lastHeld = none := by
  obtain ⟨r, found, status, changed⟩ := recordAt_boundPosition bound
  have idle : s.isActive i = false := by
    rw [State.isActive]
    rcases holds with e | e <;> rw [e] <;> rfl
  have cleared : s.cleared i = (s.unbind i).reportUnknownTag i false := by
    unfold State.cleared
    rcases holds with e | e <;> rw [e]
  have manifest : (s.cleared i).manifest = changeBound s.manifest i fun c => { c with status := .waiting } := by
    rw [cleared, (onlyConditions_reportUnknownTag _ i false).manifest]
    rfl
  have link : ((s.cleared i).spot i).lastHeld = none := by
    rw [cleared, state_reportUnknownTag, State.unbind, spot_modSpot_same]
  refine ⟨r, found, status, ?_, ?_⟩
  · rw [resetSpot_idle idle]
    split
    · rw [manifest, changed]
    · rw [State.changeState, (onlyPort_announce _ i).onlyMap.manifest]
      exact (congrArg (recordAt · p) manifest).trans (changed _)
  · rw [resetSpot_idle idle]
    split
    · exact link
    · rw [State.changeState, (onlyPort_announce _ i).onlyMap.spot, State.setState, spot_modSpot_same]
      exact link

theorem entries_reportUnknownTag {free : Role → Nat → Prop} (s : State) (i : SpotId) (b : Bool) :
    Entries free s (s.reportUnknownTag i b) := by
  unfold State.reportUnknownTag
  split
  · exact .refl free s
  · exact entries_storeConditions s i _

theorem entries_resetSpot {s : State} (hr : Rising s.imap) (i : SpotId) : Entries AnyLatch s (s.resetSpot i) := by
  by_cases active : s.isActive i = true
  · rw [resetSpot_active active]
    exact (entries_endTransfer hr i .reset _ true).trans (entries_reportUnknownTag _ i false)
  · have cleared : Entries AnyLatch s (s.cleared i) := by
      unfold State.cleared
      refine Entries.trans ?_ (entries_reportUnknownTag _ i false)
      split
      · exact entries_still rfl rfl
      · exact entries_still rfl rfl
      · exact .refl _ s
    rw [resetSpot_idle (Bool.not_eq_true _ ▸ active)]
    split
    · exact cleared
    · exact cleared.trans ((entries_modSpot _ i _).trans (entries_announce _ i))

/-! ## All spots -/

/-- What RESET_PART makes of the spots and their records (R87). -/
structure SpotsReset (s t : State) : Prop where
  ended   : ∀ i, s.isActive i = true → Ended s t i .reset (s.restState i)
  state   : ∀ i, (t.spot i).state = s.restState i
  tag     : ∀ i, (t.values i).unknownTag = false
  unbound : ∀ i p r, (s.spot i).state = .identified ∨ (s.spot i).state = .ready → boundPosition s.manifest i = some p →
    recordAt s.manifest p = some r → recordAt t.manifest p = some { r with status := .waiting } ∧ (t.spot i).lastHeld = none

theorem resetSpots_turn (s : State) (i : SpotId) : ∃ l : List SpotId, Untouched i s (l.foldl State.resetSpot s) ∧
    Untouched i ((l.foldl State.resetSpot s).resetSpot i) s.resetSpots :=
  sweep_turn (f := State.resetSpot) (fun u _ _ hi => untouched_resetSpot hi u) i s

theorem spotsReset {s : State} (hr : Rising s.imap) : SpotsReset s s.resetSpots := by
  have table : ∀ l : List SpotId, (l.foldl State.resetSpot s).table = s.table := fun l =>
    (Inside.foldl State.resetSpot inner_resetSpot l s).table
  have entries : ∀ l : List SpotId, Entries AnyLatch s (l.foldl State.resetSpot s) := fun l =>
    entries_foldl State.resetSpot (fun _ i h => entries_resetSpot h i) l hr
  refine ⟨fun i active => ?_, fun i => ?_, fun i => ?_, fun i p r holds bound found => ?_⟩
  all_goals
    obtain ⟨l, before, after⟩ := resetSpots_turn s i
    have rest := restState_of_table (table l) i
    have swept := entries l
    generalize l.foldl State.resetSpot s = u at *
  · have ended := ended_resetSpot (swept.rising hr) (before.isActive.trans active)
    rw [rest] at ended
    exact ended.around before after (swept.carPressure hr i)
  · exact (congrArg SpotContext.state after.spot).trans ((state_resetSpot u i).trans rest)
  · rw [after.values]
    exact unknownTag_resetSpot _ i
  · have state : (u.spot i).state = (s.spot i).state := by rw [before.spot]
    obtain ⟨r', found', status, waiting, link⟩ := unbound_resetSpot (by rw [state]; exact holds) (before.bound.trans bound)
    obtain ⟨r'', known, mine, _⟩ := recordAt_boundPosition bound
    cases known.symm.trans found
    have same := (before.records p r found fun j hj => CarStatus.bound.inj (hj.symm.trans mine)).symm.trans found'
    cases same
    refine ⟨after.records p _ waiting (fun j hj => by cases hj), ?_⟩
    exact (congrArg SpotContext.lastHeld after.spot).trans link

/-- Answers and halted compressors leave what RESET_PART made of the spots. -/
theorem SpotsReset.regranted {s t u : State} (h : SpotsReset s t) (k : Regranted t u) : SpotsReset s u := by
  refine ⟨fun i active => (h.ended i active).regranted k, fun i => ?_, fun i => ?_, fun i p r holds bound found => ?_⟩
  · obtain ⟨g, p, e, _⟩ := k.spots i
    rw [e]
    exact h.state i
  · rw [values_of_conditions k.conditions]
    exact h.tag i
  · obtain ⟨waiting, link⟩ := h.unbound i p r holds bound found
    obtain ⟨g, p, e, _⟩ := k.spots i
    rw [k.manifest, e]
    exact ⟨waiting, link⟩

end Sys2Proof.Machine
end

section
/-! RESET_PART at the compressors and the channels (R155, R169, R179); O7. -/

namespace Sys2Proof.Machine

/-! ## Latches while images change -/

/-- A change of every image that keeps its latch. -/
theorem latchOf_mapped {s t : State} (hr : Rising s.imap) (shaped : shapes t.imap = shapes s.imap) {g : Output → Output}
    (mapped : ∀ m, entryAt t.imap m = (entryAt s.imap m).map (·.mapImage g)) (keeps : ∀ o, (g o).latch = o.latch) (r : Role)
    (w : Nat) : latchOf t r w = latchOf s r w := by
  have hrt : Rising t.imap := rising_of_shapes shaped hr
  rcases findRole_of_shapes shaped r w with ⟨hm, hn⟩ | ⟨j, a, b, hm, hn, _⟩
  · rw [latchOf_none hm, latchOf_none hn]
  · have here : b = a.mapImage g := by
      have entry := mapped j
      rw [entryAt_of_findRole hrt hn, entryAt_of_findRole hr hm] at entry
      exact Option.some.inj entry
    rw [latchOf_found hm, latchOf_found hn, here]
    cases body : a.body with
    | input d => rw [mapImage_of_input body]
    | output o =>
      rw [mapImage_of_output body]
      simp [MapEntry.image, MapEntry.withImage, body, keeps]

theorem latchOf_forceAllSafe {s : State} (hr : Rising s.imap) (r : Role) (w : Nat) :
    latchOf s.forceAllSafe r w = latchOf s r w :=
  latchOf_mapped hr ((inner_forceAllSafe s).shapes hr) (entryAt_forceAllSafe hr) (fun _ => rfl) r w

/-- A latch that stands goes on standing. -/
theorem Entries.latch_stands {free : Role → Nat → Prop} {s t : State} (h : Entries free s t) (hr : Rising s.imap) {r : Role}
    {w : Nat} {x : Command} (stands : Machine.latchOf s r w = some x) : ∃ y, Machine.latchOf t r w = some y := by
  obtain ⟨k, e, o, found, image, _⟩ := latchOf_eq_some hr stands
  obtain ⟨e', found', same⟩ := h.findRole hr found
  obtain ⟨o', rfl, _⟩ := same.2 o image.2
  exact ⟨o'.latch, by rw [latchOf_found found']; rfl⟩

/-! ## Compressors without spots, under channels in MONITOR -/

/-- Every image in MONITOR, nobody attached, nobody waiting. -/
structure Muted (s : State) : Prop where
  rising : Rising s.imap
  hushed : ∀ k, Hushed k s
  empty  : ∀ c, (s.comp c).attached = []
  list   : s.waitList = []

theorem Muted.unusable {s : State} (h : Muted s) (c : CompId) : unusable s c = true := by
  have monitor : notDriven (s.compEntry .compRun c) = true := by
    cases found : s.compEntry .compRun c with
    | none => rfl
    | some p =>
      obtain ⟨k, e⟩ := p
      cases body : e.body with
      | input d => simp [notDriven, MapEntry.image, body]
      | output o =>
        have off := h.hushed k e o ⟨entryAt_of_findRole h.rising found, body⟩
        simp [notDriven, MapEntry.image, body, off]
  simp [Machine.unusable, unavailability, monitor]

/-- What the tests for use leave, one compressor at a time (R139, R155). -/
structure Silences (l : List CompId) (s t : State) : Prop where
  only   : OnlyComps s t
  free   : Entries AnyLatch s t
  frame  : ∀ c, (t.comp c).attached = [] ∧ (t.comp c).record = (s.comp c).record ∧ (t.comp c).history = (s.comp c).history ∧
    (t.comp c).residency = (s.comp c).residency
  down   : ∀ c, (s.comp c).level = .unavailable → (t.comp c).level = .unavailable
  downed : ∀ c ∈ l, (t.comp c).level = .unavailable
  others : ∀ c, c ∉ l → latchOf t .compRun (compNumber c) = latchOf s .compRun (compNumber c)
  stop   : ∀ c ∈ l, ∀ x, latchOf s .compRun (compNumber c) = some x → latchOf t .compRun (compNumber c) = some .stop

theorem Silences.muted {l : List CompId} {s t : State} (h : Silences l s t) (k : Muted s) : Muted t :=
  ⟨h.free.rising k.rising, fun i => h.free.hushed (k.hushed i), fun c => (h.frame c).1, by rw [h.only]; exact k.list⟩

theorem comp_checkUsable_muted {s : State} (h : Muted s) (c d : CompId) : (s.checkUsable c).comp d =
    if d = c ∧ (s.comp c).level ≠ .unavailable then (s.comp c).downed else s.comp d := by
  unfold State.checkUsable
  by_cases up : (s.comp c).level ≠ .unavailable
  · rw [if_pos ⟨up, h.unusable c⟩, enterUnavailable_eq, h.empty, List.foldl_nil, comp_downMark]
    simp only [up, and_true, ne_eq, not_false_iff]
  · rw [if_neg fun e => up e.1, if_neg fun e => up e.2]

theorem silences_monitorComp {s : State} (h : Muted s) (c : CompId) : Silences [c] s (s.monitorComp c) := by
  have checked := entries_checkUsable_empty h.rising (h.empty c)
  have rising := checked.rising h.rising
  have written : Entries (fun r w => r = .compRun ∧ w = compNumber c) (s.checkUsable c) (s.monitorComp c) :=
    entries_writeLatch rising .compRun (compNumber c) .stop
  have entries := checked.trans written
  have only : OnlyComps s (s.monitorComp c) :=
    (onlyComps_checkUsable (h.empty c)).trans (onlyComps_of_onlyMap (onlyMap_writeLatch _ .compRun (compNumber c) .stop))
  have comp : ∀ d, (s.monitorComp c).comp d = if d = c ∧ (s.comp c).level ≠ .unavailable then (s.comp c).downed else s.comp d :=
    fun d => (comp_writeComp _ .compRun c .stop d).trans (comp_checkUsable_muted h c d)
  refine ⟨only, entries.mono fun _ _ _ => trivial, fun d => ?_, fun d down => ?_, fun d mem => ?_, fun d out => ?_,
    fun d mem x stands => ?_⟩
  · rw [comp]
    split
    · next e =>
      rw [e.1]
      exact ⟨rfl, rfl, rfl, rfl⟩
    · exact ⟨h.empty d, rfl, rfl, rfl⟩
  · rw [comp]
    split
    · rfl
    · exact down
  · rw [List.mem_singleton] at mem
    subst mem
    rw [comp]
    split
    · rfl
    · next up => exact not_not.mp fun e => up ⟨rfl, e⟩
  · refine entries.latchOf h.rising fun free => out ?_
    rw [compNumber_inj free.2]
    exact List.mem_singleton_self c
  · rw [List.mem_singleton] at mem
    subst mem
    obtain ⟨y, present⟩ := checked.latch_stands h.rising stands
    exact latchOf_writeComp rising present .stop

theorem silences_fold (l : List CompId) {s : State} (h : Muted s) : Silences l s (l.foldl State.monitorComp s) := by
  induction l generalizing s with
  | nil =>
    exact ⟨.refl s, .refl _ s, fun c => ⟨h.empty c, rfl, rfl, rfl⟩, fun _ e => e, (fun _ e => nomatch e),
      fun _ _ => rfl, (fun _ e => nomatch e)⟩
  | cons a l ih =>
    have first := silences_monitorComp h a
    have rest := ih (first.muted h)
    rw [List.foldl_cons]
    refine ⟨first.only.trans rest.only, first.free.trans rest.free, fun c => ?_, fun c e => rest.down c (first.down c e),
      fun c mem => ?_, fun c out => ?_, fun c mem x stands => ?_⟩
    · obtain ⟨_, record, history, residency⟩ := first.frame c
      obtain ⟨empty', record', history', residency'⟩ := rest.frame c
      exact ⟨empty', record'.trans record, history'.trans history, residency'.trans residency⟩
    · by_cases later : c ∈ l
      · exact rest.downed c later
      · exact rest.down c (first.downed c (by simpa [later] using mem))
    · rw [List.mem_cons, not_or] at out
      rw [rest.others c out.2, first.others c (by simpa using out.1)]
    · by_cases now : c = a
      · have stopped := first.stop c (by simp [now]) x stands
        by_cases later : c ∈ l
        · exact rest.stop c later _ stopped
        · rw [rest.others c later]
          exact stopped
      · have later : c ∈ l := (List.mem_cons.mp mem).resolve_left now
        exact rest.stop c later x (by rw [first.others c (by simpa using now)]; exact stands)

/-- The images after every channel has gone to MONITOR (R169). -/
theorem monitorOutputs_images {s : State} (hr : Rising s.imap) {t : State}
    (ht : t = (outputIndexes s.imap).foldl State.monitorOutput s) : OnlyMap s t ∧ shapes t.imap = shapes s.imap ∧
      (∀ k, Hushed k t) ∧ (∀ r w, latchOf t r w = latchOf s r w) ∧
      ∀ k e o, Images s k e o → ∃ o', entryAt t.imap k = some (e.withImage o') ∧ o'.safe = o.safe ∧ o'.direction = .monitor := by
  subst ht
  have entry := entryAt_monitorOutputs hr
  have only : OnlyMap s ((outputIndexes s.imap).foldl State.monitorOutput s) :=
    OnlyMap.foldl _ (fun u k => onlyMap_changeOutput u k _) _ s
  have shaped : shapes ((outputIndexes s.imap).foldl State.monitorOutput s).imap = shapes s.imap :=
    (Does.foldl (o := true) (c := true) State.monitorOutput (fun u k => does_monitorOutput u k) _ s).shapes hr
  refine ⟨only, shaped, fun k e o image => ?_, latchOf_mapped hr shaped entry fun _ => rfl, fun k e o image => ?_⟩
  · have here := image.1
    rw [entry] at here
    obtain ⟨e', _, rfl⟩ := Option.map_eq_some_iff.mp here
    have body := image.2
    cases before : e'.body with
    | input d =>
      rw [mapImage_of_input before, before] at body
      cases body
    | output o' =>
      rw [mapImage_of_output before] at body
      cases body
      rfl
  · refine ⟨monitored s.uptime s.sdu.device o, ?_, rfl, rfl⟩
    rw [entry, image.1, Option.map_some, mapImage_of_output image.2]

/-! ## RESET joins the causes -/

theorem tripSpots_idle {s : State} (quiet : ∀ i, s.isActive i = false) : s.tripSpots = s := by
  have fold : ∀ l : List SpotId, l.foldl (fun u i => u.faultSpot i .tripped) s = s := by
    intro l
    induction l with
    | nil => rfl
    | cons i l ih =>
      rw [List.foldl_cons, State.faultSpot, if_neg (by rw [quiet]; nofun)]
      exact ih
  exact fold allSpots

/-- Nobody attached, nobody waiting, no compressor running: trip entry has nothing to halt. -/
structure Halted (s : State) : Prop where
  empty : ∀ c, (s.comp c).attached = []
  rests : ∀ c, (s.comp c).level.tripStops = false
  list  : s.waitList = []

theorem tripComp_halted {s : State} (h : Halted s) (c : CompId) : s.tripComp c = s.modComp c Compressor.stripped := by
  have level : ((s.modComp c Compressor.stripped).comp c).level.tripStops = false := by
    rw [comp_modComp_same]
    exact h.rests c
  unfold State.tripComp
  simp only [h.empty, List.foldl_nil]
  exact if_neg (by rw [show ((s.modComp c fun x => { x with
    attached := [], popdown := none, deferred := false, held := false }).comp c).level.tripStops = false from level]; nofun)

theorem Halted.stripped {s : State} (h : Halted s) (c : CompId) : Halted (s.modComp c Compressor.stripped) := by
  have comp : ∀ d, (s.modComp c Compressor.stripped).comp d = if d = c then (s.comp c).stripped else s.comp d := fun d => by
    split
    · next e => rw [e, comp_modComp_same]
    · next e => exact comp_modComp_other s _ e
  refine ⟨fun d => ?_, fun d => ?_, h.list⟩
  · rw [comp]
    split
    · rfl
    · exact h.empty d
  · rw [comp]
    split
    · exact h.rests c
    · exact h.rests d

theorem imap_tripComps_halted {s : State} (h : Halted s) : s.tripComps.imap = s.imap := by
  have fold : ∀ (l : List CompId) (u : State), Halted u → (l.foldl State.tripComp u).imap = u.imap ∧
      (l.foldl State.tripComp u).waitList = [] := by
    intro l
    induction l with
    | nil => exact fun u hu => ⟨rfl, hu.list⟩
    | cons c l ih =>
      intro u hu
      rw [List.foldl_cons, tripComp_halted hu]
      obtain ⟨map, list⟩ := ih _ (hu.stripped c)
      exact ⟨map, list⟩
  have all := fold allComps s h
  unfold State.tripComps
  simp only
  generalize allComps.foldl State.tripComp s = u at *
  obtain ⟨map, list⟩ := all
  rw [list]
  exact map

/-- What RESET_PART's own cause makes of a part that is at rest (R169, R175, R179). -/
structure ResetJoins (s t : State) : Prop where
  device  : t.sdu.device = .tripped
  causes  : t.sdu.causes = { s.sdu.causes with reset := true }
  entry   : t.sdu.entryUptime = match s.sdu.device with | .run => s.uptime | .tripped => s.sdu.entryUptime
  line    : s.sdu.device = .run → t.pins.tripEnergised = false
  spots   : Regranted s t
  list    : t.waitList = []
  comps   : ∀ c, t.comp c = s.comp c ∨ t.comp c = (s.comp c).stripped
  latches : ∀ r w, latchOf t r w = latchOf s r w
  outputs : ∀ k e o, Images s k e o → ∃ o', entryAt t.imap k = some { e with body := .output o' } ∧ o'.safe = o.safe ∧
    o'.direction = o.direction

theorem union_causeReset (t : TripCauses) : t.union causeReset = { t with reset := true } := by
  simp [TripCauses.union, causeReset, TripCauses.empty]

theorem resetJoins {s : State} (hr : Rising s.imap) (h : Halted s) (quiet : ∀ i, s.isActive i = false) :
    ResetJoins s s.addReset := by
  have forced : ∀ k e o, Images s k e o → ∀ u : State, u.imap = s.imap → ∃ o', entryAt u.forceAllSafe.imap k =
      some { e with body := .output o' } ∧ o'.safe = o.safe ∧ o'.direction = o.direction := fun k e o image u map => by
    obtain ⟨o', entry, safe, direction, _⟩ := outputs_forced (s := u) (by rw [map]; exact hr) (.refl _ u)
      (k := k) (e := e) (o := o) ⟨by rw [map]; exact image.1, image.2⟩
    exact ⟨o', entry, safe, direction⟩
  unfold State.addReset
  cases device : s.sdu.device with
  | run =>
    dsimp only
    rw [addTripCause_of_run device]
    obtain ⟨tripped, causes, uptime, line⟩ := marked_tripEntry s causeReset
    rw [tripEntry_eq] at tripped causes uptime line ⊢
    have told : OnlyMap (s.tripMark causeReset) ((s.tripMark causeReset).tripNotice causeReset) := (onlyPort_notice _ _).onlyMap
    have map : ((s.tripMark causeReset).tripNotice causeReset).imap = s.imap := rfl
    have comp : ∀ c, ((s.tripMark causeReset).tripNotice causeReset).comp c = s.comp c := told.comp
    have regranted : Regranted s ((s.tripMark causeReset).tripNotice causeReset) :=
      ⟨rfl, rfl, fun i => ⟨_, _, rfl, fun _ => rfl, fun _ clear => clear⟩⟩
    have still : ∀ i, ((s.tripMark causeReset).tripNotice causeReset).isActive i = false := quiet
    have rests : Halted ((s.tripMark causeReset).tripNotice causeReset) :=
      ⟨fun c => by rw [comp]; exact h.empty c, fun c => by rw [comp]; exact h.rests c, h.list⟩
    generalize (s.tripMark causeReset).tripNotice causeReset = u at *
    rw [tripSpots_idle still] at tripped causes uptime line ⊢
    have map' := (imap_tripComps_halted rests).trans map
    obtain ⟨halted, list⟩ := halted_tripComps still
    have only := onlyMap_forceAllSafe u.tripComps
    refine ⟨tripped, by rw [causes, union_causeReset], by rw [uptime, device], fun _ => line,
      (regranted.trans (regranted_tripComps still)).trans only.regranted, only.waitList.trans list, fun c => .inr ?_,
      fun r w => ?_, fun k e o image => forced k e o image _ map'⟩
    · rw [only.comp, halted, State.halted, rests.rests, comp]
      rfl
    · rw [latchOf_forceAllSafe (by rw [map']; exact hr), latchOf_of_imap map']
  | tripped =>
    dsimp only
    rw [addTripCause_of_tripped device, union_causeReset]
    generalize hu : ({ s with sdu := { s.sdu with causes := { s.sdu.causes with reset := true } } } : State) = u
    have only := onlyMap_forceAllSafe u
    have regranted : Regranted s u := by
      subst hu
      exact ⟨rfl, rfl, fun i => ⟨_, _, rfl, fun _ => rfl, fun _ clear => clear⟩⟩
    have map : u.imap = s.imap := by rw [← hu]
    refine ⟨?_, ?_, ?_, (fun run => by rw [device] at run; cases run), regranted.trans only.regranted, ?_, fun c => .inl ?_,
      fun r w => ?_, fun k e o image => forced k e o image u map⟩
    · rw [only.sdu, ← hu]
      exact device
    · rw [only.sdu, ← hu]
    · rw [only.sdu, ← hu, device]
    · rw [only.waitList, ← hu]
      exact h.list
    · rw [only.comp, ← hu]
      rfl
    · rw [latchOf_forceAllSafe (by rw [map]; exact hr), latchOf_of_imap map]

end Sys2Proof.Machine
end

section
/-! RESET_PART as a whole: O7 (R179). -/

namespace Sys2Proof.Machine

/-! ## The reply of RESET_PART -/

/-- A reply given stays given through a trip (R9, R12). -/
theorem Waits.addTripCause {s : State} {d g : Byte} {b : List Byte} (p : Waits s.rpu d g b) (added : TripCauses) :
    Waits (s.addTripCause added).rpu d g b := by
  cases device : s.sdu.device with
  | run =>
    obtain ⟨u, entered, before, _, after⟩ := tripEntry_forced s added
    rw [addTripCause_of_run device, entered]
    exact after.waits (before.waits (s := s.tripMark added) p)
  | tripped =>
    rw [addTripCause_of_tripped device]
    exact p

theorem Turning.waits {c : Bool} {s t : State} (h : Turning c s t) {d g : Byte} {b : List Byte} (p : Waits s.rpu d g b) :
    Waits t.rpu d g b :=
  h.keeps (P := fun u => Waits u.rpu d g b) (fun _ _ hk hp => hk.waits hp) (fun _ added hp => hp.addTripCause added) p

/-- The reply fills the reservation before anything else (R15, R179). -/
theorem waits_resetPort {s : State} (reserved : .reservation ∈ s.rpu.messages) (d g : Byte) (b : List Byte) :
    Waits (s.resetPort (.reply d g b)).rpu d g b := by
  refine waits_kick _ d g b (mem_fillReservation _ _ ?_)
  exact List.mem_filter.mpr ⟨reserved, decide_eq_true rfl⟩

theorem takeRequest_idle {s : State} (h : s.rpu.requests = []) : s.takeRequest = s := by
  unfold State.takeRequest
  split
  · next none =>
    rw [h] at none
    cases none
  · rfl

/-! ## The steps of RESET_PART -/

/-- The steps of RESET_PART up to the cause it adds (R179). -/
def State.resetSteps (s : State) (m : Message) : State := (s.resetPort m).resetSpots.clearStanding.tripComps.monitorAll

theorem resetEffect_eq (s : State) (m : Message) : s.resetEffect m = (s.resetSteps m).addReset.endScan := rfl

/-- What the steps up to the added cause make of the part. -/
structure StepsReset (s t : State) : Prop where
  spots   : SpotsReset s t
  quiet   : ∀ i, t.isActive i = false
  halted  : Halted t
  down    : ∀ c, (t.comp c).level = .unavailable
  frame   : ∀ c, (t.comp c).record = (s.comp c).record ∧ (t.comp c).history = (s.comp c).history ∧
    (t.comp c).residency = (s.comp c).residency
  stop    : ∀ c x, latchOf s .compRun (compNumber c) = some x → latchOf t .compRun (compNumber c) = some .stop
  rising  : Rising t.imap
  outputs : ∀ k e o, Images s k e o → ∃ o', entryAt t.imap k = some (e.withImage o') ∧ o'.safe = o.safe ∧ o'.direction = .monitor

/-- The compressors after the spots are reset and before the channels go to MONITOR. -/
theorem halted_frame {s : State} (c : CompId) : (s.halted c).attached = [] ∧ (s.halted c).record = (s.comp c).record ∧
    (s.halted c).history = (s.comp c).history ∧ (s.halted c).residency = (s.comp c).residency := by
  rw [State.halted]
  split <;> exact ⟨rfl, rfl, rfl, rfl⟩

theorem OnlyComps.regranted {s t : State} (h : OnlyComps s t) : Regranted s t :=
  ⟨h.manifest, h.conditions, fun i => ⟨(s.spot i).grant, (s.spot i).pass, spot_of_spots h.spots i, fun _ => rfl,
    fun _ clear => clear⟩⟩

/-- The channels go to MONITOR with nobody attached and nobody waiting (R155, R169). -/
theorem silences_monitorAll {s : State} (hr : Rising s.imap) (empty : ∀ c, (s.comp c).attached = []) (list : s.waitList = []) :
    ∃ v, OnlyMap s v ∧ (∀ k, Hushed k v) ∧ Rising v.imap ∧ (∀ r w, latchOf v r w = latchOf s r w) ∧
      (∀ k e o, Images s k e o → ∃ o', entryAt v.imap k = some (e.withImage o') ∧ o'.safe = o.safe ∧ o'.direction = .monitor) ∧
      Silences allComps v s.monitorAll := by
  obtain ⟨only, shaped, hushed, latches, images⟩ := monitorOutputs_images hr rfl
  have muted : Muted ((outputIndexes s.imap).foldl State.monitorOutput s) :=
    ⟨rising_of_shapes shaped hr, hushed, fun c => by rw [only.comp]; exact empty c, only.waitList.trans list⟩
  exact ⟨_, only, hushed, muted.rising, latches, images, silences_fold allComps muted⟩

theorem entries_resetSpots {s : State} (hr : Rising s.imap) : Entries AnyLatch s s.resetSpots :=
  entries_foldl State.resetSpot (fun _ i h => entries_resetSpot h i) allSpots hr

theorem winds_resetSpots (s : State) (c : CompId) : Winds (s.comp c) (s.resetSpots.comp c) :=
  winds_sweep c (fun u i => winds_resetSpot u i c) allSpots s

theorem regranted_clearStanding (s : State) : Regranted s s.clearStanding :=
  ⟨rfl, rfl, fun _ => ⟨_, _, rfl, fun _ => rfl, fun _ clear => clear⟩⟩

/-- From the spots at rest on (R154, R155, R169). -/
theorem stepsReset_from {s u : State} (hr : Rising s.imap) (spots : SpotsReset s u) (winds : ∀ c, Winds (s.comp c) (u.comp c))
    (quiet : ∀ i, u.isActive i = false) (entries : Entries AnyLatch s u) : StepsReset s u.tripComps.monitorAll := by
  have third := entries_tripComps (entries.rising hr)
  have regranted := regranted_tripComps quiet
  obtain ⟨halted, list⟩ := halted_tripComps quiet
  have whole := entries.trans third
  have still := quiet_of_inside (inner_tripComps u) quiet
  have empty : ∀ c, (u.tripComps.comp c).attached = [] := fun c => by
    rw [halted]
    exact (halted_frame c).1
  generalize u.tripComps = w at *
  obtain ⟨v, only, hushed, rising, latches, monitored, silences⟩ := silences_monitorAll (whole.rising hr) empty list
  have rest := only.regranted.trans silences.only.regranted
  refine ⟨spots.regranted (regranted.trans rest), fun i => ?_, ⟨fun c => (silences.frame c).1, fun c => ?_, ?_⟩,
    fun c => silences.downed c (mem_allComps c), fun c => ?_, fun c x stands => ?_, silences.free.rising rising,
    fun k e o image => ?_⟩
  · obtain ⟨g, p, e, _⟩ := rest.spots i
    rw [State.isActive, e]
    exact still i
  · rw [silences.downed c (mem_allComps c)]
    rfl
  · rw [silences.only]
    exact only.waitList.trans list
  · obtain ⟨_, record, history, residency⟩ := silences.frame c
    obtain ⟨_, record', history', residency'⟩ := halted_frame (s := u) c
    rw [only.comp, halted] at record history residency
    exact ⟨record.trans (record'.trans (winds c).record), history.trans (history'.trans (winds c).history),
      residency.trans (residency'.trans (winds c).residency)⟩
  · obtain ⟨y, stands'⟩ := whole.latch_stands hr stands
    exact silences.stop c (mem_allComps c) y ((latches _ _).trans stands')
  · obtain ⟨e', found, same⟩ := whole.entry k e image.1
    obtain ⟨o', rfl, safe, _⟩ := same.2 o image.2
    obtain ⟨o'', found', safe', monitor⟩ := monitored k _ o' ⟨found, rfl⟩
    obtain ⟨e''', found'', same''⟩ := silences.free.entry k _ found'
    obtain ⟨o''', rfl, safe'', direction, _⟩ := same''.2 o'' rfl
    exact ⟨o''', found'', safe''.trans (safe'.trans safe), direction.trans monitor⟩

theorem entries_clearStanding {free : Role → Nat → Prop} (s : State) : Entries free s s.clearStanding := entries_still rfl rfl

theorem stepsReset_spots {s : State} (hr : Rising s.imap) :
    StepsReset s s.resetSpots.clearStanding.tripComps.monitorAll := by
  have spots := (spotsReset hr).regranted (regranted_clearStanding s.resetSpots)
  have cleared : Entries AnyLatch s.resetSpots s.resetSpots.clearStanding := entries_clearStanding _
  refine stepsReset_from hr spots (fun c => ?_) (fun i => ?_) ((entries_resetSpots hr).trans cleared)
  · rw [(stands_clearStanding s.resetSpots).comps]
    exact winds_resetSpots s c
  · rw [isActive_clearStanding, resetSpots_quiet]

/-- The ring port is the only thing the reply has changed before. -/
theorem stepsReset {s : State} (hr : Rising s.imap) (m : Message) : StepsReset s (s.resetSteps m) := by
  have before : OnlyPort s (s.resetPort m) := ⟨rfl⟩
  have imap : (s.resetPort m).imap = s.imap := rfl
  have table : (s.resetPort m).table = s.table := rfl
  have only := before.onlyMap
  rw [State.resetSteps]
  generalize s.resetPort m = a at *
  obtain ⟨⟨ended, state, tag, unbound⟩, quiet, halted, down, frame, stop, rising, outputs⟩ :=
    stepsReset_spots (s := a) (by rw [imap]; exact hr)
  have rest := restState_of_table table
  have untouched := only.untouched
  have pressure : ∀ i, a.carPressure i = s.carPressure i := fun i => by
    rw [State.carPressure, State.carPressure, State.spotEntry, State.spotEntry, imap]
  refine ⟨⟨fun i active => ?_, fun i => (state i).trans (rest i), tag, fun i p r => ?_⟩, quiet, halted, down, fun c => ?_,
    fun c x stands => stop c x ((latchOf_of_imap imap _ _).trans stands), rising,
    fun k e o image => outputs k e o ⟨by rw [imap]; exact image.1, image.2⟩⟩
  · rw [← rest]
    exact (ended i ((untouched i).isActive.trans active)).around (untouched i) (.refl i _) (pressure i)
  · rw [← only.spot, ← only.manifest]
    exact unbound i p r
  · rw [← only.comp]
    exact frame c

/-! ## What stands beside -/

/-- What RESET_PART leaves of the parts it does not speak of. -/
structure ResetBeside (s t : State) : Prop where
  sdu      : t.sdu = s.sdu
  uptime   : t.uptime = s.uptime
  standing : t.mgu.standing = Vector.replicate 16 false
  requests : t.rpu.requests = []

theorem clearStanding_beside (s : State) : s.clearStanding.sdu = s.sdu ∧ s.clearStanding.uptime = s.uptime ∧
    s.clearStanding.rpu = s.rpu ∧ s.clearStanding.mgu.standing = Vector.replicate 16 false := ⟨rfl, rfl, rfl, rfl⟩

theorem resetBeside (s : State) (m : Message) : ResetBeside s (s.resetSteps m) := by
  have spots := inner_resetSpots (s.resetPort m)
  have port : (s.resetPort m).rpu.requests = [] := (kick_step _).requests
  have marks : (s.resetPort m).sdu = s.sdu ∧ (s.resetPort m).uptime = s.uptime := ⟨rfl, rfl⟩
  have cleared := clearStanding_beside (s.resetPort m).resetSpots
  have rest := (inner_tripComps (s.resetPort m).resetSpots.clearStanding).trans (inner_monitorAll _)
  rw [State.resetSteps]
  generalize (s.resetPort m).resetSpots.clearStanding = u at *
  generalize s.resetPort m = a at *
  obtain ⟨sdu, uptime, rpu, standing⟩ := cleared
  exact ⟨rest.sdu.trans (sdu.trans (spots.sdu.trans marks.1)), rest.uptime.trans (uptime.trans (spots.uptime.trans marks.2)),
    by rw [rest.mgu, standing], by rw [rest.port.requests, rpu, spots.port.requests, port]⟩

theorem waits_resetSteps {s : State} (reserved : .reservation ∈ s.rpu.messages) (d g : Byte) (b : List Byte) :
    Waits (s.resetSteps (.reply d g b)).rpu d g b := by
  have spots := (does_resetSpots (c := true) (s.resetPort (.reply d g b))).waits (waits_resetPort reserved d g b)
  have rpu := (clearStanding_beside (s.resetPort (.reply d g b)).resetSpots).2.2.1
  rw [State.resetSteps]
  generalize (s.resetPort (.reply d g b)).resetSpots = u at *
  rw [← rpu] at spots
  exact ((does_tripComps (c := true) u.clearStanding).trans (does_monitorAll _)).waits spots

/-- Settles O7: the reply, the spots, the compressors and channels, then the cause; the scan finds nobody waiting. -/
theorem resetPartRestsThePart : Obligations.ResetPartRestsThePart := by
  unfold Obligations.ResetPartRestsThePart
  intro s q h hr
  have waits := waits_resetSteps h.reserved q.source q.tag ([requestCode q.body, Result.done.code] ++ [])
  have given : Message.reply q.source q.tag ([requestCode q.body, Result.done.code] ++ []) = replyMessage q ⟨.done, []⟩ := rfl
  rw [given] at waits
  have steps := stepsReset hr (replyMessage q ⟨.done, []⟩)
  have beside := resetBeside s (replyMessage q ⟨.done, []⟩)
  have kept := fun p hp => kept_resetEffect (p := p) s (replyMessage q ⟨.done, []⟩) hp
  have table : (s.resetEffect (replyMessage q ⟨.done, []⟩)).table = s.table := kept .table (by decide)
  have groups : (s.resetEffect (replyMessage q ⟨.done, []⟩)).groups = s.groups := kept .groups (by decide)
  have clock := (kept .clock (by decide)).1
  have address : (s.resetEffect (replyMessage q ⟨.done, []⟩)).rpu.address = s.rpu.address := kept .address (by decide)
  have accepted := exec_resetPart_accepted s q h
  rw [resetEffect_eq] at accepted table groups clock address
  generalize s.resetSteps (replyMessage q ⟨.done, []⟩) = u at *
  have joins := resetJoins steps.rising steps.halted steps.quiet
  have turn := turn_addReset u
  have waits := (turning_addReset (c := true) u).waits waits
  rw [endScan_empty joins.list] at accepted table groups clock address
  generalize u.addReset = t at *
  have requests : t.rpu.requests = [] := turn.port.requests.trans beside.requests
  rw [takeRequest_idle (s := { t with mgu := { t.mgu with held := none } }) requests] at accepted
  have spots := steps.spots.regranted joins.spots
  have frame : ∀ c, (t.comp c).attached = [] ∧ (t.comp c).record = (s.comp c).record ∧ (t.comp c).history = (s.comp c).history ∧
      (t.comp c).residency = (s.comp c).residency ∧ (t.comp c).level = .unavailable := fun c => by
    obtain ⟨record, history, residency⟩ := steps.frame c
    rcases joins.comps c with e | e <;> rw [e]
    · exact ⟨steps.halted.empty c, record, history, residency, steps.down c⟩
    · exact ⟨rfl, record, history, residency, steps.down c⟩
  refine ⟨_, accepted, waits, rfl, requests, fun i => ?_, joins.device, ?_, ?_, fun run => joins.line ?_,
    fun i active => (spots.ended i active).congr rfl rfl, fun i => ⟨spots.state i, spots.tag i⟩, spots.unbound, joins.list,
    fun c => ?_, fun c _ => ⟨(frame c).2.2.2.2, fun x stands => ?_⟩, fun k e o he ho => ?_, table, groups, clock, address⟩
  · change t.mgu.standing.get i = false
    rw [turn.mgu, beside.standing]
    simp [Vector.get]
  · exact joins.causes.trans (by rw [beside.sdu])
  · exact joins.entry.trans (by rw [beside.sdu, beside.uptime] <;> rfl)
  · rw [beside.sdu]
    exact run
  · obtain ⟨empty, record, history, residency, _⟩ := frame c
    exact ⟨empty, record, history, residency⟩
  · exact (joins.latches .compRun (compNumber c)).trans (steps.stop c x stands)
  · obtain ⟨o', found, safe, monitor⟩ := steps.outputs k e o ⟨he, ho⟩
    obtain ⟨o'', found', safe', direction⟩ := joins.outputs k _ o' ⟨found, rfl⟩
    exact ⟨o'', found', safe'.trans safe, direction.trans monitor⟩

end Sys2Proof.Machine
end

section
/-! The path of a meter sample (R85, R95, R96, R109 to R122): where a cause that comes suspends, the rejection of a sample, the
hand-offs after a credit; O19. -/

namespace Sys2Proof.Machine

/-! ## A cause that comes -/

/-- The context with its cause set changed. -/
def SpotContext.causedBy (x : SpotContext) (f : Causes → Causes) : SpotContext := { x with causes := f x.causes }

/-- What a change of the cause set that leaves a cause makes of a context (R89): it stays in its state, or is suspended from a state
that saves one. -/
inductive Caused (f : Causes → Causes) (x y : SpotContext) : Prop
  | stays (settled : f x.causes = x.causes ∨ savedOf x.state x.sub = none) (same : y = x.causedBy f)
  | held (v : Saved) (d : Demand) (g : Grant) (timer : Nat) (saves : savedOf x.state x.sub = some v)
      (same : y = (x.causedBy f).suspendedAs v d g timer)

theorem caused_changeCauses {s : State} {i : SpotId} {f : Causes → Causes} (active : s.isActive i = true)
    (any : (f (s.spot i).causes).any = true) : Caused f (s.spot i) ((s.changeCauses i f).spot i) := by
  unfold State.changeCauses
  rw [if_pos active]
  simp only
  split
  · next settled => exact .stays (.inl settled) (by rw [SpotContext.causedBy, settled])
  · unfold State.causeTest
    simp only [spot_modSpot_same, any, if_true]
    split
    · next v saves =>
      obtain ⟨d, g, same⟩ := spot_enterSuspended (s.modSpot i fun x => { x with causes := f x.causes }) i v
      rw [same, spot_modSpot_same]
      exact .held v d g _ saves rfl
    · next saves => exact .stays (.inr saves) (spot_modSpot_same ..)

namespace Caused

variable {f : Causes → Causes} {x y : SpotContext}

theorem causes (h : Caused f x y) : y.causes = f x.causes := by
  cases h with
  | stays _ same => rw [same]; rfl
  | held _ _ _ _ _ same => rw [same]; rfl

theorem acc (h : Caused f x y) : y.acc = x.acc := by
  cases h with
  | stays _ same => rw [same]; rfl
  | held _ _ _ _ _ same => rw [same]; rfl

theorem unassigned (h : Caused f x y) : y.unassigned = x.unassigned := by
  cases h with
  | stays _ same => rw [same]; rfl
  | held _ _ _ _ _ same => rw [same]; rfl

theorem excessSeen (h : Caused f x y) : y.excessSeen = x.excessSeen := by
  cases h with
  | stays _ same => rw [same]; rfl
  | held _ _ _ _ _ same => rw [same]; rfl

/-- A cause that is new suspends from every state that saves one. -/
theorem suspends (h : Caused f x y) (new : f x.causes ≠ x.causes) {w : Saved} (saves : savedOf x.state x.sub = some w) :
    y.state = .suspended ∧ y.saved = some w := by
  cases h with
  | stays settled _ =>
    rcases settled with old | nothing
    · exact absurd old new
    · rw [nothing] at saves
      cases saves
  | held v _ _ _ saves' same =>
    rw [saves'] at saves
    cases saves
    rw [same]
    exact ⟨rfl, rfl⟩

/-- A state that saves none goes on. -/
theorem runs (h : Caused f x y) (saves : savedOf x.state x.sub = none) : y.state = x.state := by
  cases h with
  | stays _ same => rw [same]; rfl
  | held _ _ _ _ saves' _ => rw [saves'] at saves; cases saves

end Caused

/-! ## The rejection of a sample (R95, R110) -/

/-- The states in which a rejection is a cause (R95). -/
def SpotState.suspects (st : SpotState) : Prop := st = .pressurising ∨ st = .unloading ∨ st = .recovery ∨ st = .suspended

def Causes.suspect (c : Causes) : Causes := { c with meterSuspect := true }

theorem any_suspect (c : Causes) : c.suspect.any = true := by simp [Causes.suspect, Causes.any]

/-- What a rejection makes of a context but for the pulses it counts (R95). -/
structure Suspected (x y : SpotContext) : Prop where
  acc        : y.acc = x.acc
  unassigned : y.unassigned = x.unassigned
  causes     : (x.state.suspects → y.causes = x.causes.suspect) ∧ (¬ x.state.suspects → y.causes = x.causes)
  suspends   : x.causes.meterSuspect = false → ∀ w, savedOf x.state x.sub = some w → y.state = .suspended ∧ y.saved = some w

theorem suspected_suspectMeter (s : State) (i : SpotId) : Suspected (s.spot i) ((s.suspectMeter i).spot i) := by
  have reported (active : (s.spot i).state.active = true) (h : (s.spot i).state.suspects) :
      Suspected (s.spot i) ((s.changeCauses i Causes.suspect).spot i) := by
    have caused := caused_changeCauses (s := s) (i := i) active (any_suspect _)
    refine ⟨caused.acc, caused.unassigned, ⟨fun _ => caused.causes, fun without => absurd h without⟩, fun clear w saves => ?_⟩
    refine caused.suspends (fun same => ?_) saves
    rw [← congrArg Causes.meterSuspect same] at clear
    cases clear
  unfold State.suspectMeter
  split
  · next state => exact reported (by rw [state]; rfl) (.inl state)
  · next state => exact reported (by rw [state]; rfl) (.inr (.inl state))
  · next state => exact reported (by rw [state]; rfl) (.inr (.inr (.inl state)))
  · next state => exact reported (by rw [state]; rfl) (.inr (.inr (.inr state)))
  · next pressurising unloading recovery suspended =>
    have calm : ¬ (s.spot i).state.suspects := by
      rintro (h | h | h | h)
      exacts [pressurising h, unloading h, recovery h, suspended h]
    refine ⟨rfl, rfl, ⟨fun h => absurd h calm, fun _ => rfl⟩, fun _ w saves => absurd ?_ calm⟩
    generalize (s.spot i).state = st at saves
    cases st with
    | pressurising => exact .inl rfl
    | unloading => exact .inr (.inl rfl)
    | recovery => exact .inr (.inr (.inl rfl))
    | suspended => exact .inr (.inr (.inr rfl))
    | opening | liquidClosing | closing | disabled | vacant | identified | ready | complete | faulted => cases saves

/-- The context with `d` pulses more counted as rejected. -/
def SpotContext.rejecting (x : SpotContext) (d : Nat) : SpotContext :=
  if x.state.crediting then { x with acc := { x.acc with rejected := Nat.min (x.acc.rejected + d) Config.max64 } } else x

theorem rejectSample_eq (s : State) (i : SpotId) (d : Nat) : ∃ m : State, s.rejectSample i d = m.suspectMeter i ∧
    m.spot i = (s.spot i).rejecting d := by
  unfold State.rejectSample SpotContext.rejecting
  simp only
  split
  · exact ⟨_, rfl, spot_modSpot_same ..⟩
  · exact ⟨_, rfl, rfl⟩

theorem suspected_rejectSample (s : State) (i : SpotId) (d : Nat) :
    Suspected ((s.spot i).rejecting d) ((s.rejectSample i d).spot i) := by
  obtain ⟨m, e, spot⟩ := rejectSample_eq s i d
  rw [e, ← spot]
  exact suspected_suspectMeter m i

theorem rejecting_keeps (x : SpotContext) (d : Nat) : (x.rejecting d).state = x.state ∧ (x.rejecting d).sub = x.sub ∧
    (x.rejecting d).causes = x.causes ∧ (x.rejecting d).unassigned = x.unassigned := by
  unfold SpotContext.rejecting
  split <;> exact ⟨rfl, rfl, rfl, rfl⟩

/-- What a rejected sample makes of a spot (R95, R110). -/
structure Rejected (x y : SpotContext) (d : Nat) : Prop where
  acc        : y.acc = if x.state.crediting then { x.acc with rejected := min (x.acc.rejected + d) (2 ^ 64 - 1) } else x.acc
  unassigned : y.unassigned = x.unassigned
  causes     : (x.state.suspects → y.causes = x.causes.suspect) ∧ (¬ x.state.suspects → y.causes = x.causes)
  suspends   : x.causes.meterSuspect = false → ∀ w, savedOf x.state x.sub = some w → y.state = .suspended ∧ y.saved = some w

theorem rejected_rejectSample (s : State) (i : SpotId) (d : Nat) : Rejected (s.spot i) ((s.rejectSample i d).spot i) d := by
  obtain ⟨acc, unassigned, causes, suspends⟩ := suspected_rejectSample s i d
  obtain ⟨state, sub, same, stood⟩ := rejecting_keeps (s.spot i) d
  rw [state, same] at causes
  rw [state, sub, same] at suspends
  refine ⟨acc.trans ?_, unassigned.trans stood, causes, suspends⟩
  unfold SpotContext.rejecting
  split <;> rfl

/-! ## The hand-offs after a credit (R96, R122) -/

/-- What a rate makes of a context: it joins the window, and may close the liquid valve (R71, R72). -/
structure Rated (x y : SpotContext) : Prop where
  figures : y.figures = x.figures
  causes  : y.causes = x.causes
  state   : y = x ∨ x.state = .unloading ∧ (y.state = .unloading ∨ y.state = .liquidClosing)

theorem rated_handOff {s : State} (hr : Rising s.imap) (i : SpotId) (q : Nat) :
    Rated (s.spot i) ((if (s.spot i).state = .unloading then s.addRate i q else s).spot i) ∧
    (if (s.spot i).state = .unloading then s.addRate i q else s).manifest = s.manifest := by
  split
  · next unloads =>
    rw [addRate_eq]
    split
    · obtain ⟨d, g, p, _, _, e, _, _, _, manifest, _⟩ :=
        enterLiquidClosing_spot (s := s.modSpot i fun x => { x with window := x.window.add q }) hr i
      rw [e, spot_modSpot_same]
      exact ⟨⟨rfl, rfl, .inr ⟨unloads, .inr rfl⟩⟩, manifest⟩
    · rw [spot_modSpot_same]
      exact ⟨⟨rfl, rfl, .inr ⟨unloads, .inl unloads⟩⟩, rfl⟩
  · exact ⟨⟨rfl, rfl, .inl rfl⟩, rfl⟩

def Causes.exceeds (c : Causes) : Causes := { c with excess := true }

theorem any_exceeds (c : Causes) : c.exceeds.any = true := by simp [Causes.exceeds, Causes.any]

/-- Whether a net volume is the first above 105% of what was declared (R96). -/
def SpotContext.tooMuch (x : SpotContext) (declared : Nat) : Bool :=
  decide (declared * 1050 < x.acc.net) && !x.causes.excess && !x.excessAck

theorem excessTest_spot {s : State} {i : SpotId} {r : CarRecord} (active : s.isActive i = true)
    (bound : s.boundRecord i = some r) :
    ((s.spot i).tooMuch r.declared = true ∧
      Caused Causes.exceeds { s.spot i with excessSeen := true } ((s.excessTest i).spot i)) ∨
    ((s.spot i).tooMuch r.declared = false ∧ (s.excessTest i).spot i = s.spot i) := by
  unfold State.excessTest SpotContext.tooMuch
  rw [bound]
  simp only
  split
  · next exceeds =>
    obtain ⟨above, clear, unacknowledged⟩ := exceeds
    have caused := caused_changeCauses (s := s.modSpot i fun x => { x with excessSeen := true }) (i := i)
      (f := Causes.exceeds) (by rw [State.isActive, spot_modSpot_same]; exact active) (any_exceeds _)
    rw [spot_modSpot_same] at caused
    exact .inl ⟨by simp [above, clear, unacknowledged], caused⟩
  · next stays =>
    refine .inr ⟨?_, rfl⟩
    rw [Bool.eq_false_iff]
    intro exceeds
    simp only [Bool.and_eq_true, decide_eq_true_eq, Bool.not_eq_true'] at exceeds
    exact stays ⟨exceeds.1.1, exceeds.1.2, exceeds.2⟩

/-- What the hand-offs after a credit make of a context (R96, R122). -/
structure HandedOn (x y : SpotContext) (declared : Nat) : Prop where
  acc        : y.acc = x.acc
  unassigned : y.unassigned = x.unassigned
  excess     : y.causes.excess = (x.causes.excess || x.tooMuch declared)
  excessSeen : y.excessSeen = (x.excessSeen || x.tooMuch declared)
  suspends   : x.tooMuch declared = true → x.state = .pressurising ∨ x.state = .recovery →
    y.state = .suspended ∧ y.saved = savedOf x.state x.sub
  unloads    : x.tooMuch declared = true → x.state = .unloading →
    (y.state = .suspended ∧ y.saved = some .unloading) ∨ y.state = .liquidClosing

theorem tooMuch_clear {x : SpotContext} {n : Nat} (h : x.tooMuch n = true) : x.causes.excess = false := by
  simp only [SpotContext.tooMuch, Bool.and_eq_true, Bool.not_eq_true'] at h
  exact h.1.2

theorem exceeds_new {x : SpotContext} {n : Nat} (h : x.tooMuch n = true) : x.causes.exceeds ≠ x.causes := fun same => by
  have clear := tooMuch_clear h
  rw [← congrArg Causes.excess same] at clear
  cases clear

theorem handedOn_handOff {s : State} (hr : Rising s.imap) {i : SpotId} (q before : Nat) {r : CarRecord}
    (active : s.isActive i = true) (bound : s.boundRecord i = some r) :
    HandedOn (s.spot i) ((s.handOff i q before).spot i) r.declared := by
  obtain ⟨⟨figures, causes, state⟩, manifest⟩ := rated_handOff hr i q
  unfold State.handOff
  simp only
  generalize (if (s.spot i).state = .unloading then s.addRate i q else s) = a at *
  have acc : (a.spot i).acc = (s.spot i).acc := (congrArg SpotContext.acc figures :)
  have unassigned : (a.spot i).unassigned = (s.spot i).unassigned := (congrArg SpotContext.unassigned figures :)
  have excessSeen : (a.spot i).excessSeen = (s.spot i).excessSeen := (congrArg SpotContext.excessSeen figures :)
  have excessAck : (a.spot i).excessAck = (s.spot i).excessAck := (congrArg SpotContext.excessAck figures :)
  have tooMuch : (a.spot i).tooMuch r.declared = (s.spot i).tooMuch r.declared := by
    rw [SpotContext.tooMuch, SpotContext.tooMuch, acc, causes, excessAck]
  have active' : a.isActive i = true := by
    rcases state with same | ⟨_, unloads | closes⟩
    · rw [State.isActive, same]; exact active
    · rw [State.isActive, unloads]; rfl
    · rw [State.isActive, closes]; rfl
  have bound' : a.boundRecord i = some r := by rw [State.boundRecord, manifest]; exact bound
  have spot : (if before / 1000000 < ((a.excessTest i).spot i).acc.net / 1000000 then (a.excessTest i).standingReport i
      else a.excessTest i).spot i = (a.excessTest i).spot i := by
    split
    · exact (onlyPort_standingReport _ i).onlyMap.spot i
    · rfl
  rw [spot]
  rcases excessTest_spot active' bound' with ⟨exceeds, caused⟩ | ⟨stays, same⟩
  · have new := exceeds_new exceeds
    rw [tooMuch] at exceeds
    refine ⟨caused.acc.trans acc, caused.unassigned.trans unassigned, ?_, ?_, fun _ runs => ?_, fun _ unloads => ?_⟩
    · rw [caused.causes, exceeds, Bool.or_true]
      rfl
    · rw [caused.excessSeen, exceeds, Bool.or_true]
    · rcases state with same | ⟨unloads, _⟩
      · obtain ⟨w, saves⟩ : ∃ w, savedOf (s.spot i).state (s.spot i).sub = some w := by
          rcases runs with h | h <;> rw [h] <;> exact ⟨_, rfl⟩
        rw [saves]
        exact caused.suspends new (by rw [same]; exact saves)
      · rcases runs with h | h <;> rw [h] at unloads <;> cases unloads
    · have run : (a.spot i).state = .unloading ∨ (a.spot i).state = .liquidClosing := by
        rcases state with same | ⟨_, h⟩
        · rw [same]; exact .inl unloads
        · exact h
      rcases run with h | h
      · exact .inl (caused.suspends new (by rw [show savedOf _ _ = savedOf SpotState.unloading _ from congrArg (savedOf · _) h]; rfl))
      · exact .inr ((caused.runs (by rw [show savedOf _ _ = savedOf SpotState.liquidClosing _ from congrArg (savedOf · _) h]; rfl)).trans h)
  · rw [tooMuch] at stays
    rw [same]
    refine ⟨acc, unassigned, by rw [causes, stays, Bool.or_false], by rw [excessSeen, stays, Bool.or_false],
      fun h => ?_, fun h => ?_⟩ <;> rw [stays] at h <;> cases h

/-! ## The baseline (R108, R109) -/

theorem setBaseline_input {s : State} {k : Nat} {e : MapEntry} {d : Dynamic} (entry : entryAt s.imap k = some e)
    (input : e.body = .input d) (b : Baseline) :
    s.setBaseline k b = s.setBody k (.input { d with baseline := some b }) := by
  unfold State.setBaseline
  rw [entry]
  simp only [input]

theorem baselineAt_input {s : State} {k : Nat} {e : MapEntry} {d : Dynamic} (entry : entryAt s.imap k = some e)
    (input : e.body = .input d) : s.baselineAt k = d.baseline := by
  unfold State.baselineAt
  rw [entry]
  simp only [MapEntry.dynamic, input]
  rfl

/-- What a credit reads of the temperature entry of a spot (R111). -/
def temperatureOf (p : Option (Nat × MapEntry)) : Option (Int × Bool) :=
  p.bind fun q => q.2.dynamic.bind fun d => (d.last.bind Value.tenths?).map fun t => (t, d.clamped)

theorem creditInputs_eq (s : State) (i : SpotId) : s.creditInputs i =
    (s.record i).bind fun r => (s.boundRecord i).bind fun b => (temperatureOf (s.spotEntry .tempLiq i)).map fun t =>
      ⟨r.kc, r.curve, t.1, t.2, s.groups.get b.group, b.density⟩ := by
  unfold State.creditInputs temperatureOf
  cases s.record i with
  | none => rfl
  | some r =>
    cases s.boundRecord i with
    | none => rfl
    | some b =>
      cases s.spotEntry .tempLiq i with
      | none => rfl
      | some p =>
        obtain ⟨k, e⟩ := p
        simp only [Option.bind_some, MapEntry.dynamic]
        cases e.body with
        | output o => rfl
        | input d =>
          simp only [Option.bind_some]
          cases d.last.bind Value.tenths? <;> rfl

/-- No effect of a sample reads a baseline. -/
theorem temperatureOf_setBody {s : State} {k : Nat} {e : MapEntry} {d d' : Dynamic} (hr : Rising s.imap)
    (entry : entryAt s.imap k = some e) (input : e.body = .input d) (last : d'.last = d.last)
    (clamped : d'.clamped = d.clamped) (r : Role) (w : Nat) :
    temperatureOf (findRole (s.setBody k (.input d')).imap r w) = temperatureOf (findRole s.imap r w) := by
  have shape : shapes (s.setBody k (.input d')).imap = shapes s.imap :=
    ((does_setInput (o := false) (c := false) s k e d d' (fun _ => entry) input) False nofun).shapes hr
  rcases findRole_of_shapes shape r w with ⟨before, after⟩ | ⟨j, a, b, before, after, _⟩
  · rw [before, after]
  · have ha := entryAt_of_findRole hr before
    have hb := entryAt_of_findRole (rising_of_shapes shape hr) after
    rw [before, after]
    by_cases hj : j = k
    · subst hj
      rw [entryAt_setBody_same entry] at hb
      rw [entry] at ha
      cases ha
      cases hb
      have found : a.body = .input d := input
      simp [temperatureOf, MapEntry.dynamic, found, last, clamped]
    · rw [entryAt_setBody_other _ hj, ha] at hb
      cases hb
      rfl

/-! ## What a sample leaves of the map -/

theorem beside_enterLiquidClosing (s : State) (i : SpotId) : Beside i s (s.enterLiquidClosing i) :=
  (beside_writeLiquid s i .closed).trans ((beside_modSpot _ i _).trans ((beside_modSpot _ i _).trans
    ((beside_holdOrNone _ i).trans (beside_announce _ i))))

theorem beside_standingReport (s : State) (i : SpotId) : Beside i s (s.standingReport i) := by
  unfold State.standingReport
  split
  · exact (onlyPort_notice s _).onlyMap.beside fun _ => entries_notice s _
  · exact .refl i s

theorem beside_excessTest (s : State) (i : SpotId) : Beside i s (s.excessTest i) := by
  unfold State.excessTest
  split
  · exact .refl i s
  · simp only
    split
    · exact (beside_modSpot s i _).trans (beside_changeCauses _ i _)
    · exact .refl i s

theorem beside_handOff (s : State) (i : SpotId) (q before : Nat) : Beside i s (s.handOff i q before) := by
  have rated : Beside i s (if (s.spot i).state = .unloading then s.addRate i q else s) := by
    split
    · rw [addRate_eq]
      split
      · exact (beside_modSpot s i _).trans (beside_enterLiquidClosing _ i)
      · exact beside_modSpot s i _
    · exact .refl i s
  unfold State.handOff
  simp only
  generalize (if (s.spot i).state = .unloading then s.addRate i q else s) = a at rated ⊢
  split
  · exact rated.trans ((beside_excessTest _ i).trans (beside_standingReport _ i))
  · exact rated.trans (beside_excessTest _ i)

theorem beside_suspectMeter (s : State) (i : SpotId) : Beside i s (s.suspectMeter i) := by
  unfold State.suspectMeter
  split
  · exact beside_changeCauses s i _
  · exact beside_changeCauses s i _
  · exact beside_changeCauses s i _
  · exact beside_changeCauses s i _
  · exact .refl i s

theorem beside_rejectSample (s : State) (i : SpotId) (d : Nat) : Beside i s (s.rejectSample i d) := by
  unfold State.rejectSample
  simp only
  split
  · exact (beside_modSpot s i _).trans (beside_suspectMeter _ i)
  · exact beside_suspectMeter s i

theorem beside_disposeSample (s : State) (i : SpotId) (d e : Nat) : Beside i s (s.disposeSample i d e) := by
  unfold State.disposeSample
  split
  · split
    · exact beside_rejectSample s i d
    · split
      · unfold State.creditSample
        split
        · exact .refl i s
        · simp only
          split
          · exact (beside_modSpot s i _).trans (beside_handOff _ i _ _)
          · exact beside_rejectSample s i d
      · exact beside_modSpot s i _
  · exact beside_modSpot s i _

/-! ## The path of a sample -/

/-- What the disposal of a sample of `d` pulses in `e` seconds makes of a spot with a record (R110, R111, R121). -/
structure Disposed (s u : State) (i : SpotId) (r : SpotRecord) (d e : Nat) : Prop where
  rejects  : plausibleBound r.plausibility e < d ∨ ((s.spot i).state.crediting = true ∧ ∃ c, s.creditInputs i = some c ∧
    fits64 (credit (s.spot i).acc c d e) = false) → Rejected (s.spot i) (u.spot i) d
  idles    : d ≤ plausibleBound r.plausibility e → (s.spot i).state.crediting = false →
    (u.spot i).acc = (s.spot i).acc ∧ (u.spot i).unassigned = min ((s.spot i).unassigned + d) (2 ^ 32 - 1)
  credits  : ∀ c, d ≤ plausibleBound r.plausibility e → (s.spot i).state.crediting = true → s.creditInputs i = some c →
    fits64 (credit (s.spot i).acc c d e) = true →
    (u.spot i).acc = credit (s.spot i).acc c d e ∧ (u.spot i).unassigned = (s.spot i).unassigned ∧
    ∀ car, s.boundRecord i = some car →
      HandedOn { s.spot i with acc := credit (s.spot i).acc c d e } (u.spot i) car.declared

theorem active_of_crediting {st : SpotState} (h : st.crediting = true) : st.active = true := by
  cases st <;> simp [SpotState.crediting, SpotState.active] at h ⊢

theorem boundRecord_of_creditInputs {s : State} {i : SpotId} {c : CreditInputs} (h : s.creditInputs i = some c) :
    ∃ car, s.boundRecord i = some car := by
  rw [creditInputs_eq] at h
  cases bound : s.boundRecord i with
  | none => simp [bound] at h
  | some car => exact ⟨car, rfl⟩

theorem disposed_disposeSample {s : State} (hr : Rising s.imap) {i : SpotId} {r : SpotRecord} (record : s.record i = some r)
    (d e : Nat) : Disposed s (s.disposeSample i d e) i r d e := by
  have path : s.disposeSample i d e = if plausibleBound r.plausibility e < d then s.rejectSample i d
      else if (s.spot i).state.crediting then s.creditSample i d e else s.addUnassigned i d := by
    unfold State.disposeSample
    rw [record]
  rw [path]
  refine ⟨fun rejects => ?_, fun plausible idle => ?_, fun c plausible crediting inputs fits => ?_⟩
  · split
    · exact rejected_rejectSample s i d
    · next plausible =>
      obtain ⟨crediting, c, inputs, overflow⟩ := rejects.resolve_left plausible
      rw [if_pos crediting]
      unfold State.creditSample
      rw [inputs]
      simp only [overflow]
      exact rejected_rejectSample s i d
  · rw [if_neg (Nat.not_lt.mpr plausible), idle, if_neg Bool.false_ne_true, State.addUnassigned, spot_modSpot_same]
    exact ⟨rfl, rfl⟩
  · rw [if_neg (Nat.not_lt.mpr plausible), if_pos crediting]
    unfold State.creditSample
    rw [inputs]
    simp only [fits, if_true]
    generalize hm : (s.modSpot i fun x => { x with acc := credit (s.spot i).acc c d e }) = m
    have spot : m.spot i = { s.spot i with acc := credit (s.spot i).acc c d e } := by rw [← hm, spot_modSpot_same]
    have active : m.isActive i = true := by
      rw [State.isActive, spot]
      exact active_of_crediting crediting
    have same : m.boundRecord i = s.boundRecord i := by rw [← hm]; rfl
    have rising : Rising m.imap := by rw [← hm]; exact hr
    have handed : ∀ car, s.boundRecord i = some car → HandedOn { s.spot i with acc := credit (s.spot i).acc c d e }
        ((m.handOff i (creditRate (s.spot i).acc c.kc d e) (s.spot i).acc.net).spot i) car.declared := fun car bound => by
      rw [← spot]
      exact handedOn_handOff rising _ _ active (same.trans bound)
    obtain ⟨car, bound⟩ := boundRecord_of_creditInputs inputs
    exact ⟨(handed car bound).acc, (handed car bound).unassigned, handed⟩

/-- Settles O19: the sample is disposed of behind its baseline, which no effect of it reads. -/
theorem meterSamplesAreDisposed : Obligations.MeterSamplesAreDisposed := by
  unfold Obligations.MeterSamplesAreDisposed
  intro s k i e d n t hr entry input
  simp only
  have found : s.baselineAt k = d.baseline := baselineAt_input entry input
  have moved := setBaseline_input entry input ⟨n, t⟩
  have only := onlyMap_setBody s k (.input { d with baseline := some ⟨n, t⟩ })
  have entered := entryAt_setBody_same entry (.input { d with baseline := some ⟨n, t⟩ })
  have temps := temperatureOf_setBody (d' := { d with baseline := some ⟨n, t⟩ }) hr entry input rfl rfl .tempLiq (spotNumber i)
  have rising := (does_setBaseline (c := false) s k ⟨n, t⟩).rising hr
  rw [moved] at rising
  refine ⟨fun unset => ?_, fun b known same => ?_, fun b r known later record => ?_⟩
  · have path : s.meterSample k i n t = s.setBaseline k ⟨n, t⟩ := by
      unfold State.meterSample
      rw [found, unset]
    rw [path, moved]
    exact ⟨only.spots, baselineAt_input entered rfl⟩
  · unfold State.meterSample
    rw [found, known]
    simp [same]
  · have elapsed : (t - b.time).toNat ≠ 0 := fun zero => later (by bv_omega)
    have path : s.meterSample k i n t =
        (s.setBaseline k ⟨n, t⟩).disposeSample i (n - b.count).toNat (t - b.time).toNat := by
      unfold State.meterSample
      rw [found, known]
      simp only [elapsed, if_false]
    rw [path, moved]
    generalize s.setBody k (.input { d with baseline := some ⟨n, t⟩ }) = m at *
    have record' : m.record i = some r := (congrArg (Vector.get · i) only.table).trans record
    have spot : m.spot i = s.spot i := only.spot i
    have bound : m.boundRecord i = s.boundRecord i := by rw [State.boundRecord, only.manifest]; rfl
    have inputs : m.creditInputs i = s.creditInputs i := by
      rw [creditInputs_eq, creditInputs_eq, record', record, bound, only.groups]
      simp only [State.spotEntry] at temps ⊢
      rw [temps]
    obtain ⟨rejects, idles, credits⟩ := disposed_disposeSample rising record' (n - b.count).toNat (t - b.time).toNat
    have beside := beside_disposeSample m i (n - b.count).toNat (t - b.time).toNat
    generalize m.disposeSample i (n - b.count).toNat (t - b.time).toNat = u at *
    rw [spot, inputs] at rejects
    rw [spot] at idles
    rw [spot, inputs, bound] at credits
    refine ⟨baselineAt_input ((beside.entries rising).input entered rfl) rfl, fun implausible => ?_, idles,
      fun c plausible crediting inputs fits => ?_, fun c inputs crediting overflow => ?_, fun rejected => ?_⟩
    · have gone := rejects (.inl implausible)
      exact ⟨gone.unassigned, gone.acc⟩
    · obtain ⟨acc, unassigned, handed⟩ := credits c plausible crediting inputs fits
      refine ⟨acc, unassigned, fun car bound => ?_⟩
      obtain ⟨_, _, excess, excessSeen, suspends, unloads⟩ := handed car bound
      exact ⟨excess, excessSeen, suspends, unloads⟩
    · have gone := rejects (.inr ⟨crediting, c, inputs, overflow⟩)
      exact ⟨gone.unassigned, gone.acc.trans (if_pos crediting)⟩
    · have gone := rejects rejected
      refine ⟨?_, gone.suspends⟩
      split
      · next suspects => exact gone.causes.1 suspects
      · next calm => exact gone.causes.2 calm

end Sys2Proof.Machine
end

section
/-! What the condition sets read of the map (R31), and the operations that leave it: the sets stay those the map gives (R28, R33). -/

namespace Sys2Proof.Machine

/-! ## Entries read alike -/

/-- What the events of a sample leave of the map: its shape, and every input entry but for the baseline of a meter. -/
structure SameReadings (s t : State) : Prop where
  shapes : shapes t.imap = shapes s.imap
  inputs : ∀ k e d, entryAt s.imap k = some e → e.body = .input d →
    ∃ b, entryAt t.imap k = some { e with body := .input { d with baseline := b } } ∧ (e.role ≠ .meter → b = d.baseline)

namespace SameReadings

variable {s t u : State}

theorem refl (s : State) : SameReadings s s := ⟨rfl, fun _ e d he hd => ⟨d.baseline, by rw [he, ← hd], fun _ => rfl⟩⟩

theorem trans (h : SameReadings s t) (k : SameReadings t u) : SameReadings s u := by
  refine ⟨k.shapes.trans h.shapes, fun j e d he hd => ?_⟩
  obtain ⟨b, entry, meter⟩ := h.inputs j e d he hd
  obtain ⟨b', entry', meter'⟩ := k.inputs j _ _ entry rfl
  exact ⟨b', entry', fun other => (meter' other).trans (meter other)⟩

theorem rising (h : SameReadings s t) (hr : Rising s.imap) : Rising t.imap := rising_of_shapes h.shapes hr

/-- An entry of the first map and the one at its index in the second are read alike. -/
theorem read (h : SameReadings s t) {k : Nat} {a b : MapEntry} (ha : entryAt s.imap k = some a)
    (hb : entryAt t.imap k = some b) (shape : entryShape (k, b) = entryShape (k, a)) :
    b.isStale = a.isStale ∧ b.lastValue = a.lastValue ∧ b.dynamic.isSome = a.dynamic.isSome := by
  cases body : a.body with
  | input d =>
    obtain ⟨c, entry, _⟩ := h.inputs k a d ha body
    rw [hb] at entry
    cases entry
    simp [MapEntry.isStale, MapEntry.lastValue, MapEntry.dynamic, body]
  | output o =>
    have image := (entryShape_eq_iff.mp shape).2.2.2.2.2.2
    cases body' : b.body with
    | input d => simp [MapEntry.image, body, body'] at image
    | output o' => simp [MapEntry.isStale, MapEntry.lastValue, MapEntry.dynamic, body, body']

theorem role (h : SameReadings s t) (hr : Rising s.imap) (r : Role) (w : Nat) :
    staleEntry (findRole t.imap r w) = staleEntry (findRole s.imap r w) ∧
      lastOf (findRole t.imap r w) = lastOf (findRole s.imap r w) := by
  rcases findRole_of_shapes h.shapes r w with ⟨before, after⟩ | ⟨k, a, b, before, after, shape⟩
  · rw [before, after]
    exact ⟨rfl, rfl⟩
  · rw [before, after]
    have ha : entryAt s.imap k = some a := entryAt_of_findRole hr before
    have hb : entryAt t.imap k = some b := entryAt_of_findRole (h.rising hr) after
    have read := h.read ha hb shape
    exact ⟨read.1, read.2.1⟩

/-- An entry present in one map has an entry of its shape at its index in the other. -/
theorem entry_of_shapes {m n : List (Nat × MapEntry)} (shapes : Machine.shapes n = Machine.shapes m) (hn : Rising n)
    {k : Nat} {a : MapEntry} (ha : (k, a) ∈ m) : ∃ b, entryAt n k = some b ∧ entryShape (k, b) = entryShape (k, a) := by
  have mem : entryShape (k, a) ∈ Machine.shapes n := by
    rw [shapes]
    exact List.mem_map_of_mem ha
  obtain ⟨⟨j, b⟩, hb, shape⟩ := List.mem_map.mp mem
  obtain rfl : j = k := (entryShape_eq_iff.mp shape).1
  exact ⟨b, entryAt_of_mem hn hb, shape⟩

theorem owned (h : SameReadings s t) {k : Nat} {a b : MapEntry} (ha : entryAt s.imap k = some a)
    (hb : entryAt t.imap k = some b) (shape : entryShape (k, b) = entryShape (k, a)) (i : SpotId) :
    (ownedInput i b && b.isStale) = (ownedInput i a && a.isStale) := by
  obtain ⟨_, _, _, role, owner, _, _⟩ := entryShape_eq_iff.mp shape
  obtain ⟨stale, _, input⟩ := h.read ha hb shape
  simp only at role owner
  rw [ownedInput, ownedInput, role, owner, stale, input]

theorem anyOwned (h : SameReadings s t) (hr : Rising s.imap) (i : SpotId) :
    t.imap.any (fun p => ownedInput i p.2 && p.2.isStale) = s.imap.any (fun p => ownedInput i p.2 && p.2.isStale) := by
  rw [Bool.eq_iff_iff, List.any_eq_true, List.any_eq_true]
  constructor
  · rintro ⟨⟨k, b⟩, hb, owned⟩
    obtain ⟨a, ha, shape⟩ := entry_of_shapes h.shapes.symm hr hb
    exact ⟨(k, a), mem_of_entryAt ha, (h.owned ha (entryAt_of_mem (h.rising hr) hb) shape.symm i).symm.trans owned⟩
  · rintro ⟨⟨k, a⟩, ha, owned⟩
    obtain ⟨b, hb, shape⟩ := entry_of_shapes h.shapes (h.rising hr) ha
    exact ⟨(k, b), mem_of_entryAt hb, (h.owned (entryAt_of_mem hr ha) hb shape i).trans owned⟩

theorem tank (h : SameReadings s t) (hr : Rising s.imap) (table : t.table = s.table) (r : Role) (i : SpotId) :
    staleEntry (t.tankEntry r i) = staleEntry (s.tankEntry r i) ∧ lastOf (t.tankEntry r i) = lastOf (s.tankEntry r i) := by
  unfold State.tankEntry State.record
  rw [table]
  split
  · exact h.role hr r _
  · exact ⟨rfl, rfl⟩

theorem conditionSet (h : SameReadings s t) (hr : Rising s.imap) (table : t.table = s.table) (i : SpotId) (b : Bool) :
    conditionSet t i b = conditionSet s i b := by
  have good : ∀ r, goodDiscrete (t.spotEntry r i) = goodDiscrete (s.spotEntry r i) := fun r => by
    obtain ⟨stale, last⟩ := h.role hr r (spotNumber i)
    rw [goodDiscrete, goodDiscrete, State.spotEntry, State.spotEntry, stale, last]
  have high : highTank (t.tankEntry .tankHigh i) = highTank (s.tankEntry .tankHigh i) := by
    obtain ⟨stale, last⟩ := h.tank hr table .tankHigh i
    rw [highTank, highTank, stale, last]
  have any : anyStale t i = anyStale s i := by
    rw [anyStale, anyStale, h.anyOwned hr i, (h.tank hr table .pTank i).1, (h.tank hr table .tankHigh i).1]
  rw [Machine.conditionSet, Machine.conditionSet, good, good, good, high, any]

end SameReadings

theorem Entries.sameReadings {free : Role → Nat → Prop} {s t : State} (h : Entries free s t) : SameReadings s t :=
  ⟨h.shapes, fun _ _ d he hd => ⟨d.baseline, by rw [h.input he hd, ← hd], fun _ => rfl⟩⟩

theorem sameReadings_setBaseline {s : State} (hr : Rising s.imap) {k : Nat} {e : MapEntry} {d : Dynamic}
    (entry : entryAt s.imap k = some e) (input : e.body = .input d) (meter : e.role = .meter) (b : Baseline) :
    SameReadings s (s.setBaseline k b) := by
  have shapes := (does_setBaseline (c := false) s k b False nofun).shapes hr
  rw [setBaseline_input entry input] at shapes ⊢
  refine ⟨shapes, fun j a c ha hc => ?_⟩
  by_cases hj : j = k
  · subst hj
    rw [entry] at ha
    cases ha
    rw [input] at hc
    cases hc
    exact ⟨_, entryAt_setBody_same entry _, fun other => absurd meter other⟩
  · exact ⟨c.baseline, by rw [entryAt_setBody_other _ hj, ha, ← hc], fun _ => rfl⟩

/-! ## Condition sets that stay current -/

/-- The condition set stored for a spot is the one the map gives (R31, R33). -/
def Current (s : State) (i : SpotId) : Prop := s.values i = conditionSet s i (s.values i).unknownTag

/-- An event leaves the readings of the map, and the condition sets as current as they were. -/
structure Heeds (s t : State) : Prop where
  table    : t.table = s.table
  readings : SameReadings s t
  current  : ∀ i, Current s i → Current t i

namespace Heeds

variable {s t u : State}

theorem refl (s : State) : Heeds s s := ⟨rfl, .refl s, fun _ h => h⟩

theorem trans (h : Heeds s t) (k : Heeds t u) : Heeds s u :=
  ⟨k.table.trans h.table, h.readings.trans k.readings, fun i x => k.current i (h.current i x)⟩

theorem rising (h : Heeds s t) (hr : Rising s.imap) : Rising t.imap := h.readings.rising hr

theorem foldl {α : Type} {f : State → α → State} (h : ∀ u a, Rising u.imap → Heeds u (f u a)) (l : List α)
    (hr : Rising s.imap) : Heeds s (l.foldl f s) := by
  induction l generalizing s with
  | nil => exact .refl s
  | cons a l ih => exact (h s a hr).trans (ih ((h s a hr).rising hr))

theorem of_values (hr : Rising s.imap) (table : t.table = s.table) (readings : SameReadings s t)
    (values : ∀ i, t.values i = s.values i) : Heeds s t :=
  ⟨table, readings, fun i current => by
    rw [Current, values, readings.conditionSet hr table]
    exact current⟩

end Heeds

theorem heeds_reportUnknownTag {s : State} (hr : Rising s.imap) (i : SpotId) (b : Bool) : Heeds s (s.reportUnknownTag i b) := by
  have only := onlyConditions_reportUnknownTag s i b
  have readings : SameReadings s (s.reportUnknownTag i b) := (entries_reportUnknownTag (free := AnyLatch) s i b).sameReadings
  refine ⟨only.table, readings, fun j current => ?_⟩
  rw [Current, readings.conditionSet hr only.table]
  unfold State.reportUnknownTag
  split
  · exact current
  · by_cases hj : j = i
    · subst hj
      rw [values_storeConditions, if_pos rfl]
      rfl
    · rw [values_storeConditions, if_neg hj]
      exact current

/-! ## Operations that leave readings and conditions -/

/-- An operation that reads no instrument: table, conditions and input entries stand. -/
structure Unsensed (s t : State) : Prop where
  table      : t.table = s.table
  conditions : t.conditions = s.conditions
  entries    : Rising s.imap → Entries AnyLatch s t

namespace Unsensed

variable {s t u : State}

theorem refl (s : State) : Unsensed s s := ⟨rfl, rfl, fun _ => .refl _ s⟩

theorem trans (h : Unsensed s t) (k : Unsensed t u) : Unsensed s u :=
  ⟨k.table.trans h.table, k.conditions.trans h.conditions, fun hr => (h.entries hr).trans (k.entries ((h.entries hr).rising hr))⟩

theorem foldl {α : Type} {f : State → α → State} (h : ∀ u a, Unsensed u (f u a)) (l : List α) (s : State) :
    Unsensed s (l.foldl f s) := by
  induction l generalizing s with
  | nil => exact .refl s
  | cons a l ih => exact (h s a).trans (ih _)

theorem heeds (h : Unsensed s t) (hr : Rising s.imap) : Heeds s t :=
  .of_values hr h.table (h.entries hr).sameReadings (values_of_conditions h.conditions)

end Unsensed

theorem Beside.unsensed {i : SpotId} {s t : State} (h : Beside i s t) (table : t.table = s.table) : Unsensed s t :=
  ⟨table, h.conditions, fun hr => (h.entries hr).any⟩

/-- An answer of the Coordinator, and what else leaves contexts but for answers, reads no instrument. -/
theorem Aside.unsensed {s t : State} (h : Aside s t) (table : t.table = s.table)
    (entries : Rising s.imap → Entries AnyLatch s t) : Unsensed s t := ⟨table, h.conditions, entries⟩

theorem unsensed_modSpot (s : State) (i : SpotId) (f : SpotContext → SpotContext) : Unsensed s (s.modSpot i f) :=
  (beside_modSpot s i f).unsensed rfl

theorem unsensed_announce (s : State) (i : SpotId) : Unsensed s (s.announce i) :=
  (beside_announce (i := i) s i).unsensed (inner_announce s i).table

theorem unsensed_writeLatch (s : State) (r : Role) (w : Nat) (cmd : Command) : Unsensed s (s.writeLatch r w cmd) :=
  ⟨(onlyMap_writeLatch s r w cmd).table, (onlyMap_writeLatch s r w cmd).conditions, fun hr => (entries_writeLatch hr r w cmd).any⟩

theorem unsensed_writeValve (s : State) (r : Role) (i : SpotId) (cmd : Command) : Unsensed s (s.writeValve r i cmd) :=
  unsensed_writeLatch s r _ cmd

theorem unsensed_handDemand (s : State) (i : SpotId) (d : Demand) : Unsensed s (s.handDemand i d) :=
  (beside_handDemand s i d).unsensed (inner_handDemand s i d).table

theorem unsensed_changeCauses (s : State) (i : SpotId) (f : Causes → Causes) : Unsensed s (s.changeCauses i f) :=
  (beside_changeCauses s i f).unsensed (inner_changeCauses s i f).table

theorem unsensed_takeReport (s : State) (i : SpotId) : Unsensed s (s.takeReport i) :=
  (beside_takeReport s i).unsensed (inner_takeReport s i).table

theorem unsensed_causeTest (s : State) (i : SpotId) : Unsensed s (s.causeTest i) :=
  (beside_causeTest s i).unsensed (inner_causeTest s i).table

theorem unsensed_changeState (s : State) (i : SpotId) (st : SpotState) : Unsensed s (s.changeState i st) :=
  (unsensed_modSpot s i _).trans (unsensed_announce _ i)

theorem unsensed_notice (s : State) (b : List Byte) : Unsensed s (s.notice b) := ⟨rfl, rfl, fun _ => entries_notice s b⟩

theorem unsensed_manifest (s : State) (m : List CarRecord) : Unsensed s { s with manifest := m } :=
  ⟨rfl, rfl, fun _ => entries_still rfl rfl⟩

end Sys2Proof.Machine
end

section
/-! The deliveries of a sample (R28) and what they leave of readings and condition sets. -/

namespace Sys2Proof.Machine

/-! ## The end of a transfer, and readiness -/

theorem unsensed_finishTransfer (s : State) (i : SpotId) (o : Ending) (st : SpotState) (b : Bool) :
    Unsensed s (s.finishTransfer i o st b) := by
  rw [finishTransfer_eq]
  have valves : Unsensed (s.stopTimers i) ((s.stopTimers i).closeValves i) :=
    (unsensed_writeValve _ .liqCmd i .closed).trans (unsensed_writeValve _ .vapCmd i .closed)
  have down : Unsensed s (s.standDown i) :=
    (((unsensed_modSpot s i _).trans valves).trans (unsensed_handDemand _ i .none)).trans (unsensed_modSpot _ i _)
  refine down.trans (Unsensed.trans ?_ (unsensed_modSpot _ i _))
  unfold State.writeEndRecord
  exact (unsensed_manifest _ _).trans (unsensed_modSpot _ i _)

theorem unsensed_endTransfer (s : State) (i : SpotId) (o : Ending) (st : SpotState) (b : Bool) :
    Unsensed s (s.endTransfer i o st b) := by
  refine (unsensed_finishTransfer s i o st b).trans ?_
  unfold State.endTransfer
  split
  · exact (unsensed_announce _ i).trans (unsensed_notice _ _)
  · exact unsensed_announce _ i

theorem unsensed_faultSpot (s : State) (i : SpotId) (o : Ending) : Unsensed s (s.faultSpot i o) := by
  unfold State.faultSpot
  split
  · exact unsensed_endTransfer s i o _ _
  · exact .refl s

theorem unsensed_readiness (s : State) (i : SpotId) : Unsensed s (s.readiness i) := by
  unfold State.readiness
  split
  · split
    · exact unsensed_changeState s i _
    · exact .refl s
  · split
    · exact .refl s
    · exact unsensed_changeState s i _
  · exact .refl s

theorem unsensed_connectionReport (s : State) (i : SpotId) (b : Bool) (o : Ending) : Unsensed s (s.connectionReport i b o) := by
  unfold State.connectionReport
  split
  · split
    · exact .refl s
    · exact unsensed_faultSpot s i o
  · exact unsensed_readiness s i

theorem unsensed_connectionLost (s : State) (i : SpotId) (o : Ending) : Unsensed s (s.connectionLost i o) := by
  unfold State.connectionLost
  split
  · exact unsensed_faultSpot s i o
  · split
    · exact unsensed_changeState s i _
    · exact .refl s

/-! ## Pressures and positions -/

theorem beside_enterUnloading (s : State) (i : SpotId) : Beside i s (s.enterUnloading i) :=
  (beside_modSpot s i _).trans ((beside_writeLiquid _ i .opened).trans ((beside_modSpot _ i _).trans
    ((beside_modSpot _ i _).trans (beside_announce _ i))))

theorem beside_differentialTest (s : State) (i : SpotId) : Beside i s (s.differentialTest i) := by
  unfold State.differentialTest
  split
  · split
    · exact beside_enterUnloading s i
    · exact .refl i s
  · exact .refl i s

theorem beside_deliverTankPressure (s : State) (i : SpotId) : Beside i s (s.deliverTankPressure i) := by
  unfold State.deliverTankPressure
  split
  · exact beside_differentialTest s i
  · exact .refl i s

theorem beside_deliverCarPressure (s : State) (i : SpotId) (p : Int) : Beside i s (s.deliverCarPressure i p) := by
  unfold State.deliverCarPressure
  split
  · exact .refl i s
  · next r _ =>
    have changed := beside_changeCauses s i (pressureCause r.maxPressure p)
    simp only
    generalize s.changeCauses i (pressureCause r.maxPressure p) = t at *
    split
    · exact changed.trans (beside_differentialTest t i)
    · split
      · exact changed.trans (beside_endPass t i)
      · exact changed

theorem beside_freshSpot (s : State) (i : SpotId) : Beside i s (s.freshSpot i) := by
  unfold State.freshSpot
  split
  · exact .refl i s
  · exact beside_changeCauses s i _

theorem unsensed_entry (s : State) (i : SpotId) : Unsensed s (((s.announce i).takeReport i).causeTest i) :=
  (unsensed_announce s i).trans ((unsensed_takeReport _ i).trans (unsensed_causeTest _ i))

theorem unsensed_deliverPosition (s : State) (i : SpotId) (r : Role) (p : Position) :
    Unsensed s (s.deliverPosition i r p) := by
  unfold State.deliverPosition
  simp only
  split
  · exact .refl s
  · split
    · split
      · exact (unsensed_modSpot s i _).trans ((unsensed_modSpot _ i _).trans
          ((unsensed_handDemand _ i .push).trans (unsensed_entry _ i)))
      · exact unsensed_modSpot s i _
      · exact (unsensed_modSpot s i _).trans ((unsensed_handDemand _ i .recover).trans (unsensed_entry _ i))
      · exact unsensed_endTransfer s i _ _ _
      · exact .refl s
    · exact .refl s

/-! ## COMP_STATE reports -/

theorem unsensed_enterUnavailable (s : State) (c : CompId) : Unsensed s (s.enterUnavailable c) :=
  ⟨(inner_enterUnavailable s c).table, conditions_enterUnavailable s c, fun hr => (entries_enterUnavailable hr c).any⟩

theorem Drives.unsensed {c : CompId} {s t : State} (h : Drives c s t) (aside : Aside s t) (table : t.table = s.table) :
    Unsensed s t := ⟨table, aside.conditions, fun hr => (h.entries hr).any⟩

theorem unsensed_modComp (s : State) (c : CompId) (f : Compressor → Compressor) : Unsensed s (s.modComp c f) :=
  ⟨rfl, rfl, fun _ => entries_still rfl rfl⟩

theorem unsensed_writeComp (s : State) (r : Role) (c : CompId) (cmd : Command) : Unsensed s (s.writeComp r c cmd) :=
  unsensed_writeLatch s r _ cmd

theorem unsensed_setLevel (s : State) (c : CompId) (l : Level) : Unsensed s (s.setLevel c l) :=
  (drives_setLevel s c l).unsensed (aside_setLevel s c l) (inner_setLevel s c l).table

theorem unsensed_returnToLevel (s : State) (c : CompId) (l : Level) : Unsensed s (s.returnToLevel c l) :=
  (unsensed_setLevel s c l).trans (unsensed_notice _ _)

theorem unsensed_takeOver (s : State) (c : CompId) (d : Command) : Unsensed s (s.takeOver c d) := by
  unfold State.takeOver
  simp only
  split
  · exact (unsensed_writeComp s _ c d).trans ((unsensed_writeComp _ _ c _).trans ((unsensed_modComp _ c _).trans
      (unsensed_returnToLevel _ c _)))
  · exact (unsensed_writeComp s _ c d).trans ((unsensed_writeComp _ _ c _).trans ((unsensed_modComp _ c _).trans
      (unsensed_returnToLevel _ c _)))

theorem unsensed_leaveUnavailable (s : State) (c : CompId) (r : CompReading) : Unsensed s (s.leaveUnavailable c r) := by
  unfold State.leaveUnavailable
  split
  · exact .refl s
  · split
    · exact (unsensed_writeComp s _ c _).trans (unsensed_returnToLevel _ c _)
    · exact unsensed_takeOver s c _
    · exact unsensed_takeOver s c _
    · exact .refl s

theorem unsensed_confirmRunning (s : State) (c : CompId) : Unsensed s (s.confirmRunning c) :=
  (unsensed_modComp s c _).trans ((unsensed_setLevel _ c _).trans
    ((drives_followDemand _ c).unsensed (aside_followDemand _ c) (inner_followDemand _ c).table))

theorem unsensed_confirmStop (s : State) (c : CompId) : Unsensed s (s.confirmStop c) := by
  have stopped := (unsensed_modComp s c fun x => { x with confirm := none }).trans (unsensed_setLevel _ c .stopped)
  unfold State.confirmStop
  simp only
  split
  · exact stopped
  · exact stopped.trans (((drives_startDecision _ c).unsensed (aside_startDecision _ c) (inner_startDecision _ c).table).trans
      (Unsensed.foldl unsensed_takeReport _ _))

theorem unsensed_stateReport (s : State) (c : CompId) (r : CompReading) : Unsensed s (s.stateReport c r) := by
  have down := unsensed_enterUnavailable s c
  have runs := unsensed_confirmRunning s c
  unfold State.stateReport
  split
  · split
    exacts [.refl s, down, down, down]
  · split
    · exact .refl s
    · split
      exacts [runs, down]
    · split
      exacts [runs, down]
    · exact down
  · split
    exacts [.refl s, down]
  · split
    exacts [.refl s, down]
  · split
    exacts [.refl s, down]
  · split
    · exact .refl s
    · split
      exacts [runs, .refl s]
    · split
      exacts [runs, .refl s]
    · exact down
  · split
    exacts [unsensed_confirmStop s c, .refl s, .refl s, down]
  · exact unsensed_leaveUnavailable s c r

/-! ## Trip causes -/

theorem conditions_tripEntry (s : State) (added : TripCauses) : (s.tripEntry added).conditions = s.conditions := by
  have swept : Unsensed _ ((s.tripMark added).tripNotice added).tripSpots :=
    Unsensed.foldl (fun u i => unsensed_faultSpot u i .tripped) allSpots ((s.tripMark added).tripNotice added)
  have comps := regranted_tripComps (tripSpots_quiet ((s.tripMark added).tripNotice added))
  rw [tripEntry_eq, (onlyMap_forceAllSafe _).conditions, comps.conditions, swept.conditions]
  rfl

theorem heeds_addTripCause {s : State} (hr : Rising s.imap) (added : TripCauses) : Heeds s (s.addTripCause added) := by
  have turn := turn_addTripCause s added
  refine .of_values hr turn.table ⟨turn.shapes hr, fun k e d he hd => ⟨d.baseline, ?_, fun _ => rfl⟩⟩
    (values_of_conditions ?_)
  · rw [input_addTripCause hr added he hd, ← hd]
  · unfold State.addTripCause
    split
    · exact conditions_tripEntry s added
    · rfl

/-! ## Tags -/

theorem heeds_matchTag {s : State} (hr : Rising s.imap) (i : SpotId) (chars : List Byte) : Heeds s (s.matchTag i chars) := by
  unfold State.matchTag
  split
  · next m _ =>
    have bound := (unsensed_manifest s m).trans (unsensed_modSpot _ i fun x => { x with lastHeld := none })
    have first := (bound.heeds hr).trans (heeds_reportUnknownTag (bound.heeds hr |>.rising hr) i false)
    exact first.trans (((unsensed_changeState _ i .identified).trans (unsensed_readiness _ i)).heeds (first.rising hr))
  · exact heeds_reportUnknownTag hr i true

theorem heeds_deliverTag {s : State} (hr : Rising s.imap) (i : SpotId) (chars : List Byte) : Heeds s (s.deliverTag i chars) := by
  have fault := (unsensed_faultSpot s i .faultCarMismatch).heeds hr
  have anew : Heeds s (((s.unbind i).changeState i .vacant).matchTag i chars) := by
    have vacated := (((unsensed_manifest s _).trans (unsensed_modSpot _ i _)).trans (unsensed_changeState (s.unbind i) i .vacant)).heeds hr
    exact vacated.trans (heeds_matchTag (vacated.rising hr) i chars)
  have same (t : State) (h : Heeds s t) : Heeds s (if s.sameCar i chars then s else t) := by
    split
    exacts [.refl s, h]
  unfold State.deliverTag
  split
  exacts [heeds_matchTag hr i chars, same _ anew, same _ anew, .refl s, .refl s, .refl s, same _ fault, same _ fault,
    same _ fault, same _ fault, same _ fault, same _ fault, same _ fault]

end Sys2Proof.Machine
end

section
/-! The acceptance of a sample (R24 to R28): the sample stored, the conditions re-evaluated, and the delivery that follows; O14. -/

namespace Sys2Proof.Machine

/-! ## The kind of a value -/

/-- The kind a value is of (R190). -/
def Value.kind : Value → Kind
  | .count _ _ => .count
  | .temperature _ => .temperature
  | .pressure _ => .pressure
  | .position _ => .position
  | .discrete _ => .discrete
  | .compressor _ => .compressorState
  | .tag _ => .tag

theorem kind_clampValue (v : Value) : (clampValue v).kind = v.kind := by cases v <;> rfl

theorem kind_positionOf {b : Byte} {v : Value} (h : positionOf b = .value v) : v.kind = .position := by
  unfold positionOf at h
  split at h <;> cases h <;> rfl

theorem kind_discreteOf {b : Byte} {v : Value} (h : discreteOf b = .value v) : v.kind = .discrete := by
  unfold discreteOf at h
  split at h <;> cases h <;> rfl

theorem kind_compReadingOf {b : Byte} {v : Value} (h : compReadingOf b = .value v) : v.kind = .compressorState := by
  unfold compReadingOf at h
  split at h <;> cases h <;> rfl

theorem kind_tagOf {chars : List Byte} {v : Value} (h : tagOf chars = .value v) : v.kind = .tag := by
  unfold tagOf at h
  split at h <;> cases h
  rfl

/-- The value read of a body is of the kind its kind code names (R190). -/
theorem kind_of_parseSample {body : List Byte} {x : Sample} (h : parseSample body = some x) {v : Value}
    (value : x.reading = .value v) : v.kind = x.kind := by
  unfold parseSample at h
  split at h
  · split at h
    · cases h; cases value; rfl
    · cases h; cases value; rfl
    · cases h; cases value; rfl
    · cases h; exact kind_positionOf value
    · cases h; exact kind_discreteOf value
    · cases h; exact kind_compReadingOf value
    · split at h
      · cases h; exact kind_tagOf value
      · cases h
    · cases h
  · cases h

/-! ## Re-evaluation -/

theorem conditionSet_congr {s t : State} (imap : t.imap = s.imap) (table : t.table = s.table) (i : SpotId) (b : Bool) :
    conditionSet t i b = conditionSet s i b := by
  simp only [conditionSet, anyStale, State.spotEntry, State.tankEntry, State.record, imap, table]

theorem values_reevaluate (s : State) (i j : SpotId) :
    (s.reevaluate j).values i = if i = j then conditionSet s i (s.values i).unknownTag else s.values i := by
  unfold State.reevaluate
  rw [values_storeConditions]
  split
  · next same => rw [same]
  · rfl

theorem unknownTag_reevaluate (s : State) (i j : SpotId) :
    ((s.reevaluate j).values i).unknownTag = (s.values i).unknownTag := by
  rw [values_reevaluate]
  split <;> rfl

/-- A re-evaluation gives each spot named the set of the map, and leaves the others (R33). -/
theorem values_reevaluateAll (l : List SpotId) (s : State) (i : SpotId) : (s.reevaluateAll l).values i =
    if i ∈ l then conditionSet s i (s.values i).unknownTag else s.values i := by
  induction l generalizing s with
  | nil => rfl
  | cons j l ih =>
    have only := onlyConditions_storeConditions s j (conditionSet s j (s.values j).unknownTag)
    change ((s.reevaluate j).reevaluateAll l).values i = _
    rw [ih, unknownTag_reevaluate, conditionSet_congr (t := s.reevaluate j) (s := s) only.imap only.table, values_reevaluate]
    by_cases hj : i = j
    · simp [hj]
    · simp [hj]

/-! ## The part with the sample stored -/

namespace Accepts

variable {s : State} {f : Frame} {k : Nat} {e : MapEntry} {d : Dynamic} {v : Value}

theorem found (h : Accepts s f k e d v) : ∃ x, parseSample f.body = some x ∧ ¬ 15 < x.channel.toNat ∧
    findKey s.imap f.source x.channel = some (k, e) ∧ valueTest e.role x = some v := by
  obtain ⟨x, parse, channel, key, value⟩ := h.sample
  exact ⟨x, parse, Nat.not_lt.mpr channel, key, value⟩

theorem entry (h : Accepts s f k e d v) : entryAt s.imap k = some e := by
  obtain ⟨x, _, _, key, _⟩ := h.found
  exact entryAt_of_findKey h.rising key

/-- The value is of the kind of the entry's role (R26). -/
theorem role_kind (h : Accepts s f k e d v) : e.role.kind = some v.kind := by
  obtain ⟨x, parse, _, _, value⟩ := h.found
  obtain ⟨kind, reading⟩ := valueTest_some value
  rw [kind, kind_of_parseSample parse reading]

end Accepts

/-- The part with an accepted sample stored and the conditions re-evaluated, before any owner acts (R27, R28). -/
def received (s : State) (f : Frame) (k : Nat) (e : MapEntry) (d : Dynamic) (v : Value) : State :=
  (s.noteValidFrame.setBody k (.input (acceptInto d e.role f.tag v s.uptime))).reevaluateAll (concernedSpots s e.role e.owner)

theorem atDelivery_eq (s : State) (f : Frame) (k : Nat) (e : MapEntry) (d : Dynamic) (v : Value) :
    atDelivery s f k e d v = if d.stale then (received s f k e d v).tellFresh e.role (concernedSpots s e.role e.owner)
      else received s f k e d v := rfl

/-- What stands when a sample has been received: all but the port, the silence, the entry and the condition sets of its spots. -/
structure Received (s u : State) (f : Frame) (k : Nat) (e : MapEntry) (d : Dynamic) (v : Value) : Prop where
  only    : u = { s.noteValidFrame with rpu := u.rpu, imap := u.imap, conditions := u.conditions }
  entry   : entryAt u.imap k = some { e with body := .input (acceptInto d e.role f.tag v s.uptime) }
  others  : ∀ j, j ≠ k → entryAt u.imap j = entryAt s.imap j
  shapes  : shapes u.imap = shapes s.imap
  values  : ∀ i, u.values i =
    if i ∈ concernedSpots s e.role e.owner then conditionSet u i (s.values i).unknownTag else s.values i
  port    : PortCalm s.noteValidFrame.rpu u.rpu

theorem received_of {s : State} {f : Frame} {k : Nat} {e : MapEntry} {d : Dynamic} {v : Value} (h : Accepts s f k e d v) :
    Received s (received s f k e d v) f k e d v := by
  have stored := does_setInput (o := true) (c := false) s.noteValidFrame k e d (acceptInto d e.role f.tag v s.uptime)
    (fun _ => h.entry) h.input
  have only := onlyMap_setBody s.noteValidFrame k (.input (acceptInto d e.role f.tag v s.uptime))
  have entry := entryAt_setBody_same (s := s.noteValidFrame) h.entry (.input (acceptInto d e.role f.tag v s.uptime))
  have others := fun j hj => entryAt_setBody_other s.noteValidFrame (i := k) (k := j) hj
    (.input (acceptInto d e.role f.tag v s.uptime))
  have shapes := (stored False nofun).shapes h.rising
  have calm := stored.calm
  unfold received
  generalize s.noteValidFrame.setBody k (.input (acceptInto d e.role f.tag v s.uptime)) = w at *
  have evaluated := onlyConditions_reevaluateAll w (concernedSpots s e.role e.owner)
  have values := values_reevaluateAll (concernedSpots s e.role e.owner) w
  have calm' := calm.trans (does_reevaluateAll (o := true) (c := false) w (concernedSpots s e.role e.owner)).calm
  generalize w.reevaluateAll (concernedSpots s e.role e.owner) = u at *
  refine ⟨?_, by rw [evaluated.imap]; exact entry, fun j hj => by rw [evaluated.imap]; exact others j hj,
    by rw [evaluated.imap]; exact shapes, fun i => ?_, calm'⟩
  · rw [evaluated.eq, only.eq]
  · rw [values, conditionSet_congr evaluated.imap evaluated.table, values_of_conditions only.conditions]
    rfl

/-- An accepted sample is stored, delivered, and sent on (R5, R27, R28; log 9, log 12). -/
theorem exec_accepted {s : State} {f : Frame} {k : Nat} {e : MapEntry} {d : Dynamic} {v : Value} (h : Accepts s f k e d v) :
    exec (.frameArrival f) s = .next ((((atDelivery s f k e d v).deliver k e (concernedSpots s e.role e.owner)
      (clampValue v)).endScan).modRpu (forwardFrame f)) := by
  obtain ⟨a, address, other⟩ := h.address
  obtain ⟨x, parse, channel, key, value⟩ := h.found
  have key' : findKey s.noteValidFrame.imap f.source x.channel = some (k, e) := key
  have concerned (b : EntryBody) : concernedSpots (s.noteValidFrame.setBody k b) e.role e.owner =
      concernedSpots s e.role e.owner := concernedSpots_of_table (onlyMap_setBody ..).table _ _
  have offered : s.noteValidFrame.offerSample f = (s.noteValidFrame.acceptSample k e d f.tag v).endScan := by
    unfold State.offerSample
    rw [parse]
    simp only [channel, if_false, key', h.input, h.sequence, if_true, value]
  have accepted : s.noteValidFrame.acceptSample k e d f.tag v =
      (atDelivery s f k e d v).deliver k e (concernedSpots s e.role e.owner) (clampValue v) := by
    unfold State.acceptSample
    simp only [concerned]
    rfl
  rw [exec_frameArrival_on s f h.powered, frameArrival_sample h.valid h.hops address other h.kind, offered, accepted]

/-! ## What the deliveries leave of the map and the conditions -/

theorem unsensed_endScan (s : State) : Unsensed s s.endScan :=
  ⟨(inner_endScan s).table, (endScan_aside s).1, fun hr => (entries_endScan hr).any⟩

theorem unsensed_tellFresh (s : State) (r : Role) (l : List SpotId) : Unsensed s (s.tellFresh r l) := by
  have fresh : Unsensed s (l.foldl State.freshSpot s) :=
    Unsensed.foldl (fun u i => (beside_freshSpot u i).unsensed (inner_freshSpot u i).table) l s
  unfold State.tellFresh
  split
  exacts [fresh, fresh, fresh, fresh, .refl s]

theorem heeds_meterSample {s : State} (hr : Rising s.imap) {k : Nat} {e : MapEntry} {d : Dynamic}
    (entry : entryAt s.imap k = some e) (input : e.body = .input d) (meter : e.role = .meter) (i : SpotId) (n t : Word16) :
    Heeds s (s.meterSample k i n t) := by
  have moved : Heeds s (s.setBaseline k ⟨n, t⟩) := by
    have only : OnlyMap s (s.setBaseline k ⟨n, t⟩) := by
      rw [setBaseline_input entry input]
      exact onlyMap_setBody s k _
    exact .of_values hr only.table (sameReadings_setBaseline hr entry input meter ⟨n, t⟩) (values_of_conditions only.conditions)
  unfold State.meterSample
  split
  · exact moved
  · simp only
    split
    · exact .refl s
    · exact moved.trans (((beside_disposeSample _ i _ _).unsensed (inner_disposeSample _ i _ _).table).heeds (moved.rising hr))

theorem heeds_meterSamples {k : Nat} {e : MapEntry} (meter : e.role = .meter) (n t : Word16) (l : List SpotId) {s : State}
    (hr : Rising s.imap) {d : Dynamic} (entry : entryAt s.imap k = some { e with body := .input d }) :
    Heeds s (l.foldl (fun u i => u.meterSample k i n t) s) := by
  induction l generalizing s d with
  | nil => exact .refl s
  | cons i l ih =>
    have first := heeds_meterSample hr entry rfl meter i n t
    obtain ⟨b, entry', _⟩ := first.readings.inputs k _ _ entry rfl
    exact first.trans (ih (first.rising hr) entry')

/-- A delivery leaves what the condition sets read, and the sets current (R28, R31). -/
theorem heeds_deliver {s : State} (hr : Rising s.imap) {k : Nat} {e : MapEntry} {d : Dynamic}
    (entry : entryAt s.imap k = some { e with body := .input d }) {v : Value} (kind : e.role.kind = some v.kind)
    (l : List SpotId) : Heeds s (s.deliver k e l v) := by
  have fold {f : State → SpotId → State} (h : ∀ u i, Unsensed u (f u i)) : Heeds s (l.foldl f s) :=
    (Unsensed.foldl h l s).heeds hr
  unfold State.deliver
  split
  · have meter : e.role = .meter := by
      cases role : e.role <;> rw [role] at kind <;> cases kind
    exact heeds_meterSamples meter _ _ l hr entry
  · exact .refl s
  · split
    · exact fold fun u i => (beside_deliverCarPressure u i _).unsensed (inner_deliverCarPressure u i _).table
    · exact fold fun u i => (beside_deliverTankPressure u i).unsensed (inner_deliverTankPressure u i).table
  · exact fold fun u i => unsensed_deliverPosition u i _ _
  · exact Heeds.foldl (fun u i hu => heeds_deliverTag hu i _) l hr
  · split
    · exact (unsensed_stateReport s _ _).heeds hr
    · exact .refl s
  · split
    · exact fold fun u i => unsensed_connectionReport u i _ _
    · exact fold fun u i => unsensed_connectionReport u i _ _
    · exact fold fun u i => unsensed_connectionReport u i _ _
    · exact fold fun u i => unsensed_changeCauses u i _
    · split
      · exact heeds_addTripCause hr causeGas
      · exact .refl s
    · exact .refl s

theorem heeds_atDelivery {s : State} {f : Frame} {k : Nat} {e : MapEntry} {d : Dynamic} {v : Value} (h : Accepts s f k e d v) :
    Heeds (received s f k e d v) (atDelivery s f k e d v) := by
  have rising := rising_of_shapes (received_of h).shapes h.rising
  rw [atDelivery_eq]
  split
  · exact (unsensed_tellFresh _ _ _).heeds rising
  · exact .refl _

theorem calm_atDelivery {s : State} {f : Frame} {k : Nat} {e : MapEntry} {d : Dynamic} {v : Value} (h : Accepts s f k e d v) :
    PortCalm s.noteValidFrame.rpu (atDelivery s f k e d v).rpu := by
  refine (received_of h).port.trans ?_
  rw [atDelivery_eq]
  split
  · exact (does_tellFresh (c := true) _ _ _).calm
  · exact .refl _

/-- Settles O14: the entry is stored before its delivery, which leaves it but for a meter's baseline, and the sets current. -/
theorem acceptedSamplesAreStored : Obligations.AcceptedSamplesAreStored := by
  unfold Obligations.AcceptedSamplesAreStored
  intro s f k e d v h
  have received := received_of h
  have rising := rising_of_shapes received.shapes h.rising
  have delivery := heeds_atDelivery h
  have calm := calm_atDelivery h
  have path := exec_accepted h
  generalize Machine.received s f k e d v = u at *
  generalize atDelivery s f k e d v = x at *
  obtain ⟨b, entry, _⟩ := delivery.readings.inputs k _ _ received.entry rfl
  have delivered := heeds_deliver (e := e) (delivery.rising rising) entry (h.role_kind.trans (by rw [kind_clampValue]))
    (concernedSpots s e.role e.owner)
  have port := calm.trans ((turning_deliver x k e (concernedSpots s e.role e.owner) (clampValue v)).calm)
  generalize x.deliver k e (concernedSpots s e.role e.owner) (clampValue v) = y at *
  have whole := (delivery.trans delivered).trans
    ((unsensed_endScan y).heeds ((delivery.trans delivered).rising rising))
  have port' := port.trans (does_endScan (c := true) y).calm
  generalize y.endScan = w at *
  obtain ⟨c, stored, meter⟩ := whole.readings.inputs k _ _ received.entry rfl
  refine ⟨_, _, path, stored, rfl, rfl, rfl, rfl, rfl, meter, fun i hi => ?_, fun g busy room => ?_⟩
  · have current : Current u i := by
      rw [Current, received.values, if_pos hi]
      rfl
    have settled := whole.current i current
    rw [Current] at settled
    exact settled.trans (conditionSet_congr rfl rfl i _).symm
  · have still := port'.sending g busy
    have same : w.rpu.forward = s.rpu.forward := port'.waiting g busy
    have after := forward_forwardFrame f still
    rw [same, if_pos room] at after
    exact after

end Sys2Proof.Machine
end

section
/-! Tags (R59 to R61): the manifest matched, the spot's states, and what the grant scan leaves of a spot that is idle or does not
wait; O15. -/

namespace Sys2Proof.Machine

/-! ## The first WAITING record of a car (R59) -/

/-- A record that waits for the car with the tag. -/
def CarRecord.awaits (chars : List Byte) (r : CarRecord) : Prop := r.status = .waiting ∧ r.car = chars

theorem bindFirst_eq_some_iff (m m' : List CarRecord) (i : SpotId) (chars : List Byte) : bindFirst m i chars = some m' ↔
    ∃ l r rest, m = l ++ r :: rest ∧ r.awaits chars ∧ (∀ x ∈ l, ¬ x.awaits chars) ∧
      m' = l ++ { r with status := .bound i } :: rest := by
  induction m generalizing m' with
  | nil =>
    refine ⟨nofun, ?_⟩
    rintro ⟨l, r, rest, split, _⟩
    exact absurd split.symm (by simp)
  | cons c m ih =>
    by_cases here : c.awaits chars
    · have bound : bindFirst (c :: m) i chars = some ({ c with status := .bound i } :: m) := if_pos here
      rw [bound]
      constructor
      · intro same
        exact ⟨[], c, m, rfl, here, nofun, (Option.some.inj same).symm⟩
      · rintro ⟨l, r, rest, split, _, before, rfl⟩
        cases l with
        | nil => cases split; rfl
        | cons x l =>
          cases split
          exact absurd here (before c (List.mem_cons_self ..))
    · have later : bindFirst (c :: m) i chars = (bindFirst m i chars).map (fun l => c :: l) := if_neg here
      rw [later, Option.map_eq_some_iff]
      constructor
      · rintro ⟨n, bound, rfl⟩
        obtain ⟨l, r, rest, rfl, awaits, before, rfl⟩ := (ih n).mp bound
        refine ⟨c :: l, r, rest, rfl, awaits, fun x hx => ?_, rfl⟩
        rcases List.mem_cons.mp hx with rfl | hx
        exacts [here, before x hx]
      · rintro ⟨l, r, rest, split, awaits, before, rfl⟩
        cases l with
        | nil => cases split; exact absurd awaits here
        | cons x l =>
          cases split
          exact ⟨_, (ih _).mpr ⟨l, r, rest, rfl, awaits, fun x hx => before x (List.mem_cons_of_mem _ hx), rfl⟩, rfl⟩

/-! ## Spots the scan leaves -/

/-- The scan gives an idle spot no more than a grant and a pass timer. -/
theorem spot_endScan_idle {s : State} {j : SpotId} (idle : s.isActive j = false) :
    ∃ g p, s.endScan.spot j = (s.spot j).handed (s.spot j).demand g p := by
  refine spot_endScan_keeps (P := fun x => ∃ g p, x = (s.spot j).handed (s.spot j).demand g p)
    (fun x p _ ⟨g, _, e⟩ => ⟨g, p, by rw [e]; rfl⟩) (fun u _ ⟨g, p, e⟩ => ?_) ⟨_, _, rfl⟩
  have asleep : ¬ u.isActive j = true := by
    rw [State.isActive, e]
    exact Bool.eq_false_iff.mp idle
  obtain ⟨q, _, granted⟩ := spot_takeGrant u j
  rw [State.takeReport]
  simp only
  rw [if_neg asleep, granted, e]
  exact ⟨_, q, rfl⟩

/-- A spot that does not wait keeps all but its pass timer through the scan. -/
theorem spot_endScan_unlisted {s : State} {j : SpotId} (absent : j ∉ s.waitList) :
    ∃ p, s.endScan.spot j = { s.spot j with pass := p } := by
  refine (endScan_keeps (P := fun t => j ∉ t.waitList ∧ ∃ p, t.spot j = { s.spot j with pass := p })
    (fun u i c m taken ⟨out, p, same⟩ => ?_) ⟨absent, _, rfl⟩).2
  have e : j ≠ i := fun e => out (e ▸ m)
  have beside := beside_grant taken
  exact ⟨fun hj => out ((beside.mem_waitList e).mp hj), _, by rw [beside.spots j e, same]⟩

/-! ## The part with a sample of a spot's role received -/

theorem concernedSpots_of_spot {r : Role} (kind : r.ownerKind = .spot ∨ r.ownerKind = .spotOrNone) {w : Nat} {i : SpotId}
    (owner : spotId w = some i) (s : State) : concernedSpots s r w = [i] := by
  have one : ∀ j : SpotId, allSpots.filter (fun i => spotNumber i == spotNumber j) = [j] := by decide
  unfold concernedSpots
  rw [spotId_eq_some owner]
  rcases kind with kind | kind <;> rw [kind] <;> exact one i

namespace Received

variable {s u : State} {f : Frame} {k : Nat} {e : MapEntry} {d : Dynamic} {v : Value}

theorem spot (h : Received s u f k e d v) (i : SpotId) : u.spot i = s.spot i := spot_of_spots (by rw [h.only]; rfl) i
theorem manifest (h : Received s u f k e d v) : u.manifest = s.manifest := by rw [h.only]; rfl
theorem waitList (h : Received s u f k e d v) : u.waitList = s.waitList := by rw [h.only]; rfl
theorem table (h : Received s u f k e d v) : u.table = s.table := by rw [h.only]; rfl
theorem comps (h : Received s u f k e d v) : u.comps = s.comps := by rw [h.only]; rfl
theorem uptime (h : Received s u f k e d v) : u.uptime = s.uptime := by rw [h.only]; rfl
theorem sdu (h : Received s u f k e d v) : u.sdu = s.noteValidFrame.sdu := by rw [h.only]

theorem isActive (h : Received s u f k e d v) (i : SpotId) : u.isActive i = s.isActive i := by
  rw [State.isActive, State.isActive, h.spot]

theorem boundRecord (h : Received s u f k e d v) (i : SpotId) : u.boundRecord i = s.boundRecord i := by
  rw [State.boundRecord, State.boundRecord, h.manifest]

theorem sameCar (h : Received s u f k e d v) (i : SpotId) (chars : List Byte) : u.sameCar i chars = s.sameCar i chars := by
  rw [State.sameCar, State.sameCar, h.boundRecord]

theorem unknownTag (h : Received s u f k e d v) (i : SpotId) : (u.values i).unknownTag = (s.values i).unknownTag := by
  rw [h.values]
  split <;> rfl

/-- The entries of the other roles are found as they were. -/
theorem findRole (h : Received s u f k e d v) (hr : Rising s.imap) (entry : entryAt s.imap k = some e) {r : Role}
    (other : e.role ≠ r) (w : Nat) : findRole u.imap r w = findRole s.imap r w := by
  rcases findRole_of_shapes h.shapes r w with ⟨before, after⟩ | ⟨j, a, b, before, after, _⟩
  · rw [before, after]
  · have ha : entryAt s.imap j = some a := entryAt_of_findRole hr before
    have hb : entryAt u.imap j = some b := entryAt_of_findRole (rising_of_shapes h.shapes hr) after
    have hj : j ≠ k := by
      rintro rfl
      rw [entry] at ha
      cases ha
      exact other (findRole_role before).1
    rw [h.others j hj, ha] at hb
    cases hb
    rw [before, after]

theorem carPressure (h : Received s u f k e d v) (hr : Rising s.imap) (entry : entryAt s.imap k = some e)
    (other : e.role ≠ .pCar) (i : SpotId) : u.carPressure i = s.carPressure i := by
  rw [State.carPressure, State.carPressure, State.spotEntry, State.spotEntry, h.findRole hr entry other]

end Received

/-- An end of a transfer, seen from a state with the same context, manifest and car pressure. -/
theorem Ended.since {s u t : State} {i : SpotId} {o : Ending} {st : SpotState} (h : Ended u t i o st)
    (spot : u.spot i = s.spot i) (manifest : u.manifest = s.manifest) (pressure : u.carPressure i = s.carPressure i) :
    Ended s t i o st := by
  obtain ⟨state, demand, grant, causes, saved, sub, timers, figures, link, record⟩ := h
  rw [spot] at figures
  rw [manifest] at link record
  refine ⟨state, demand, grant, causes, saved, sub, timers, figures, link, fun p hp => ?_⟩
  obtain ⟨r, e, found, done, ends⟩ := record p hp
  obtain ⟨spot', outcome, credited, rejected, gross, net, mass, remaining, passes, final, clamped, short, excess, heel⟩ := ends
  rw [spot] at credited rejected gross net mass remaining passes clamped short excess heel
  exact ⟨r, e, found, done, spot', outcome, credited, rejected, gross, net, mass, remaining, passes, final.trans pressure,
    clamped, short, excess, heel⟩

/-! ## What a tag makes of a spot -/

theorem deliverTag_vacant {s : State} {i : SpotId} (h : (s.spot i).state = .vacant) (chars : List Byte) :
    s.deliverTag i chars = s.matchTag i chars := by
  unfold State.deliverTag
  rw [h]

theorem deliverTag_holding {s : State} {i : SpotId} (h : (s.spot i).state = .identified ∨ (s.spot i).state = .ready)
    (chars : List Byte) : s.deliverTag i chars =
      if s.sameCar i chars then s else ((s.unbind i).changeState i .vacant).matchTag i chars := by
  unfold State.deliverTag
  rcases h with h | h <;> rw [h]

theorem deliverTag_active {s : State} {i : SpotId} (h : s.isActive i = true) (chars : List Byte) :
    s.deliverTag i chars = if s.sameCar i chars then s else s.faultSpot i .faultCarMismatch := by
  unfold State.isActive at h
  unfold State.deliverTag
  generalize (s.spot i).state = st at h
  cases st with
  | opening | pressurising | unloading | liquidClosing | recovery | closing | suspended => rfl
  | disabled | vacant | identified | ready | complete | faulted => cases h

theorem deliverTag_deaf {s : State} {i : SpotId}
    (h : (s.spot i).state = .disabled ∨ (s.spot i).state = .complete ∨ (s.spot i).state = .faulted) (chars : List Byte) :
    s.deliverTag i chars = s := by
  unfold State.deliverTag
  rcases h with h | h | h <;> rw [h]

theorem tagMatched_of_taken {s t : State} {i : SpotId} {chars : List Byte} (h : TagTaken s t i chars)
    (state : (s.spot i).state = .vacant) : TagMatched s.manifest i chars t := by
  unfold TagMatched
  cases found : bindFirst s.manifest i chars with
  | none =>
    obtain ⟨manifest, tag, spot⟩ := h.free found
    exact ⟨manifest, tag, by rw [spot, state]⟩
  | some m => exact h.bound m found

theorem lastHeld_of_taken {s t : State} {i : SpotId} {chars : List Byte} (h : TagTaken s t i chars)
    (clear : (s.spot i).lastHeld = none) : (t.spot i).lastHeld = none := by
  cases found : bindFirst s.manifest i chars with
  | none => rw [(h.free found).2.2, clear]
  | some m => exact (h.bound m found).2.2.1

theorem anew_of_unbind (s : State) (i : SpotId) (chars : List Byte) :
    ((((s.unbind i).changeState i .vacant).matchTag i chars).spot i).lastHeld = none ∧
      TagMatched (changeBound s.manifest i (fun c => { c with status := .waiting })) i chars
        (((s.unbind i).changeState i .vacant).matchTag i chars) := by
  have vacated := spot_changeState (s.unbind i) i i .vacant
  have manifest : ((s.unbind i).changeState i .vacant).manifest =
      changeBound s.manifest i (fun c => { c with status := .waiting }) :=
    (onlySpots_changeState (s.unbind i) i .vacant).manifest
  have rematched := tagTaken_matchTag ((s.unbind i).changeState i .vacant) i chars
  rw [if_pos rfl] at vacated
  rw [← manifest]
  refine ⟨lastHeld_of_taken rematched ?_, tagMatched_of_taken rematched (by rw [vacated])⟩
  rw [vacated, State.unbind, spot_modSpot_same]

theorem idle_of_state {s : State} {i : SpotId} {st : SpotState} (h : (s.spot i).state = st) (idle : st.active = false) :
    s.isActive i = false := by
  rw [State.isActive, h]
  exact idle

/-- What a match leaves, the scan leaves. -/
theorem tagMatched_endScan {m : List CarRecord} {s : State} {i : SpotId} {chars : List Byte} (h : TagMatched m i chars s)
    (idle : s.isActive i = false) : TagMatched m i chars s.endScan := by
  obtain ⟨conditions, manifest⟩ := endScan_aside s
  obtain ⟨g, p, spot⟩ := spot_endScan_idle idle
  unfold TagMatched at h ⊢
  rw [manifest, values_of_conditions conditions, allConnected_of_conditions conditions, spot]
  exact h

theorem idle_of_tagMatched {m : List CarRecord} {s : State} {i : SpotId} {chars : List Byte} (h : TagMatched m i chars s) :
    s.isActive i = false := by
  unfold TagMatched at h
  split at h
  · obtain ⟨_, _, _, state⟩ := h
    rw [State.isActive, state]
    split <;> rfl
  · exact idle_of_state h.2.2 rfl

/-- Settles O15: the tag acts on the spot as it stands once the sample is stored, and the scan leaves what it makes of it. -/
theorem tagsBindCars : Obligations.TagsBindCars := by
  unfold Obligations.TagsBindCars
  refine ⟨fun m m' i chars => ?_, fun s f k e d chars i h role owner => ?_⟩
  · rw [bindFirst_eq_some_iff]
    simp only [CarRecord.awaits, and_assoc]
  have received := received_of h
  have rising := rising_of_shapes received.shapes h.rising
  have path := exec_accepted h
  have delivery : atDelivery s f k e d (.tag chars) = Machine.received s f k e d (.tag chars) := by
    rw [atDelivery_eq, role]
    split <;> rfl
  rw [delivery, concernedSpots_of_spot (by rw [role]; exact .inl rfl) owner] at path
  change exec (.frameArrival f) s = .next (((Machine.received s f k e d (.tag chars)).deliverTag i chars).endScan.modRpu _) at path
  have pressure := received.carPressure h.rising h.entry (by rw [role]; nofun) i
  generalize Machine.received s f k e d (.tag chars) = u at *
  have spot := received.spot i
  have rests (idle : u.isActive i = false) : (u.endScan.spot i).state = (s.spot i).state ∧ u.endScan.manifest = s.manifest ∧
      (u.endScan.values i).unknownTag = (s.values i).unknownTag := by
    obtain ⟨conditions, manifest⟩ := endScan_aside u
    obtain ⟨g, p, e⟩ := spot_endScan_idle idle
    rw [e, spot, manifest, received.manifest, values_of_conditions conditions, received.unknownTag]
    exact ⟨rfl, rfl, rfl⟩
  refine ⟨_, path, fun vacant => ?_, fun holding => ⟨fun same => ?_, fun other => ?_⟩, fun active => ⟨fun other => ?_, fun same => ?_⟩,
    fun deaf => ?_⟩
  · have vacant' : (u.spot i).state = .vacant := by rw [spot]; exact vacant
    have matched := tagMatched_of_taken (tagTaken_matchTag u i chars) vacant'
    rw [deliverTag_vacant vacant', ← received.manifest]
    exact tagMatched_endScan matched (idle_of_tagMatched matched)
  · have holding' := holding
    rw [← spot] at holding'
    rw [deliverTag_holding holding', received.sameCar, same, if_pos rfl]
    exact rests (by rcases holding' with h | h <;> exact idle_of_state h rfl)
  · have holding' := holding
    rw [← spot] at holding'
    obtain ⟨lastHeld, matched⟩ := anew_of_unbind u i chars
    rw [deliverTag_holding holding', received.sameCar, other, if_neg Bool.false_ne_true, ← received.manifest]
    obtain ⟨g, p, e⟩ := spot_endScan_idle (idle_of_tagMatched matched)
    exact ⟨(congrArg SpotContext.lastHeld e).trans lastHeld, tagMatched_endScan matched (idle_of_tagMatched matched)⟩
  · have active' := (received.isActive i).trans active
    rw [deliverTag_active active', received.sameCar, other, if_neg Bool.false_ne_true, faultSpot_active active']
    exact (((ended_endTransfer rising i .faultCarMismatch .faulted).endScan nofun).since spot received.manifest pressure).congr rfl rfl
  · rw [deliverTag_active ((received.isActive i).trans active), received.sameCar, same, if_pos rfl]
    refine ⟨(endScan_aside u).2.trans received.manifest, fun absent => ?_⟩
    obtain ⟨p, e⟩ := spot_endScan_unlisted (s := u) (j := i) (by rw [received.waitList]; exact absent)
    exact (congrArg SpotContext.state e).trans (congrArg SpotContext.state spot :)
  · have deaf' := deaf
    rw [← spot] at deaf'
    rw [deliverTag_deaf deaf']
    exact rests (by rcases deaf' with h | h | h <;> exact idle_of_state h rfl)

end Sys2Proof.Machine
end

section
/-! Causes that come and go at one spot (R89 to R93), and spots told one after another (R28, R30): the laws the deliveries and the
stale entries share. -/

namespace Sys2Proof.Machine

/-! ## A change of the cause set -/

theorem changeCauses_same {s : State} {i : SpotId} {f : Causes → Causes} (same : f (s.spot i).causes = (s.spot i).causes) :
    s.changeCauses i f = s := by
  unfold State.changeCauses
  simp only [same, if_true]
  split <;> rfl

theorem changeCauses_idle {s : State} {i : SpotId} (idle : s.isActive i = false) (f : Causes → Causes) :
    s.changeCauses i f = s := if_neg (by rw [idle]; nofun)

theorem freshSpot_clear {s : State} {i : SpotId} (clear : (s.spot i).causes.staleInput = false) : s.freshSpot i = s := by
  unfold State.freshSpot
  split
  · rfl
  · exact changeCauses_same (by rw [← clear])

theorem others_of_any {c : Causes} (h : c.any = false) : c.others = false := by
  simp only [Causes.any, Causes.others, Causes.withCompressor, Bool.or_eq_false_iff] at h ⊢
  simp [h]

theorem any_of_others {c : Causes} (h : c.others = true) : c.any = true := by
  by_contra none
  rw [others_of_any (Bool.eq_false_iff.mpr none)] at h
  cases h

/-- A change of the cause set writes the causes but for NO_COMPRESSOR, and no figure (R89). -/
theorem figures_changeCauses {s : State} {i : SpotId} (active : s.isActive i = true) (f : Causes → Causes) :
    ((s.changeCauses i f).spot i).figures = ((s.spot i).causedBy f).figures := by
  unfold State.changeCauses
  rw [if_pos active]
  simp only
  split
  · next same =>
    have stays : (s.spot i).causedBy f = s.spot i := by rw [SpotContext.causedBy, same]
    rw [stays]
  · have self := spot_modSpot_same s i fun x => { x with causes := f x.causes }
    generalize s.modSpot i _ = u at *
    change u.spot i = (s.spot i).causedBy f at self
    rw [← self]
    unfold State.causeTest
    simp only
    split
    · split
      · next v _ =>
        obtain ⟨d, g, same⟩ := spot_enterSuspended u i v
        rw [same]
        rfl
      · rfl
    · split
      · next held =>
        cases saved : (u.spot i).saved with
        | none =>
          rw [State.returnAttempt, saved]
        | some v => exact (attempted_returnAttempt u i v saved held).figures
      · rfl

/-- The figures hold every cause but NO_COMPRESSOR. -/
theorem causes_of_figures {x y : SpotContext} (h : y.figures = x.figures) :
    y.causes.withCompressor false = x.causes.withCompressor false := (congrArg SpotContext.causes h :)

/-- A spot SUSPENDED by a cause beside NO_COMPRESSOR. -/
structure HeldBack (w : Saved) (x : SpotContext) : Prop where
  state : x.state = .suspended
  saved : x.saved = some w
  kept  : x.causes.others = true

theorem heldBack_keeps {s : State} {i : SpotId} {w : Saved} (h : HeldBack w (s.spot i)) :
    (s.endScan.spot i).state = .suspended ∧ (s.endScan.spot i).saved = some w := by
  obtain ⟨d, g, b, e⟩ := heldBack_endScan h.state h.kept
  rw [e]
  exact ⟨h.state, h.saved⟩

theorem active_of_saves {x : SpotContext} {w : Saved} (saves : savedOf x.state x.sub = some w) : x.state.active = true := by
  generalize x.state = st at saves
  cases st with
  | pressurising | unloading | recovery => rfl
  | opening | liquidClosing | closing | suspended | disabled | vacant | identified | ready | complete | faulted => cases saves

/-- The first cause of a running transfer suspends it (R89). -/
theorem heldBack_changeCauses {s : State} {i : SpotId} {f : Causes → Causes} {w : Saved}
    (clear : (s.spot i).causes.any = false) (comes : (f (s.spot i).causes).others = true)
    (saves : savedOf (s.spot i).state (s.spot i).sub = some w) : HeldBack w ((s.changeCauses i f).spot i) := by
  have caused := caused_changeCauses (active_of_saves saves : s.isActive i = true) (any_of_others comes)
  obtain ⟨state, saved⟩ := caused.suspends (fun same => by
    rw [same, others_of_any clear] at comes
    cases comes) saves
  exact ⟨state, saved, by rw [caused.causes]; exact comes⟩

/-- The last cause that goes makes the return attempt (R89, R100). -/
theorem returning_changeCauses {s : State} {i : SpotId} {f : Causes → Causes} {w : Saved}
    (held : (s.spot i).state = .suspended) (saved : (s.spot i).saved = some w)
    (had : (s.spot i).causes.any = true) (goes : (f (s.spot i).causes).any = false) :
    Returning w ((s.changeCauses i f).spot i) := by
  have changed : f (s.spot i).causes ≠ (s.spot i).causes := fun same => by
    rw [same, had] at goes
    cases goes
  have active : s.isActive i = true := by
    rw [State.isActive, held]
    rfl
  unfold State.changeCauses
  rw [if_pos active]
  simp only [changed, if_false]
  have self := spot_modSpot_same s i fun x => { x with causes := f x.causes }
  exact returning_causeTest (by rw [self]; exact held) (by rw [self]; exact saved) (by rw [self]; exact goes)

/-! ## Spots told one after another -/

/-- What is done at another spot leaves of a spot: its context but for the pass timer, its place on the wait list, and what the
conditions read. -/
structure Apart (i : SpotId) (s t : State) : Prop where
  spot   : t.spot i = { s.spot i with pass := (t.spot i).pass }
  pass   : ¬ (s.spot i).inPass → (t.spot i).pass = (s.spot i).pass
  list   : i ∈ t.waitList ↔ i ∈ s.waitList
  sensed : Unsensed s t

namespace Apart

variable {i : SpotId} {s t u : State}

theorem refl (i : SpotId) (s : State) : Apart i s s := ⟨rfl, fun _ => rfl, Iff.rfl, .refl s⟩

theorem trans (h : Apart i s t) (k : Apart i t u) : Apart i s u := by
  refine ⟨by rw [k.spot, h.spot], fun outside => ?_, k.list.trans h.list, h.sensed.trans k.sensed⟩
  rw [k.pass (by rw [h.spot]; exact outside), h.pass outside]

theorem isActive (h : Apart i s t) : t.isActive i = s.isActive i := by rw [State.isActive, h.spot]; rfl

theorem figures (h : Apart i s t) : (t.spot i).figures = (s.spot i).figures := by rw [h.spot]; rfl

theorem heldBack (h : Apart i s t) {w : Saved} (k : HeldBack w (s.spot i)) : HeldBack w (t.spot i) := by
  rw [h.spot]
  exact ⟨k.state, k.saved, k.kept⟩

theorem returning (h : Apart i s t) {w : Saved} (k : Returning w (s.spot i)) : Returning w (t.spot i) := by
  rw [h.spot]
  exact ⟨k.clean, k.place⟩

end Apart

theorem Beside.apart {i j : SpotId} {s t : State} (h : Beside j s t) (other : i ≠ j) (table : t.table = s.table) : Apart i s t :=
  ⟨h.spots i other, h.pass i other, h.mem_waitList other, h.unsensed table⟩

section

variable {f : State → SpotId → State}

theorem apart_sweep (apart : ∀ u i j, i ≠ j → Apart i u (f u j)) {i : SpotId} {l : List SpotId} (absent : i ∉ l) (s : State) :
    Apart i s (l.foldl f s) := by
  induction l generalizing s with
  | nil => exact .refl i s
  | cons j l ih =>
    obtain ⟨other, later⟩ := not_or.mp (fun h => absent (List.mem_cons.mpr h))
    exact (apart s i j other).trans (ih later _)

/-- A spot of the list has its turn once; before and after it is left alone. -/
theorem turn_of_sweep (apart : ∀ u i j, i ≠ j → Apart i u (f u j)) {i : SpotId} {l : List SpotId} (nodup : l.Nodup)
    (mem : i ∈ l) (s : State) : ∃ u, Apart i s u ∧ Apart i (f u i) (l.foldl f s) := by
  induction l generalizing s with
  | nil => cases mem
  | cons j l ih =>
    obtain ⟨fresh, nodup'⟩ := List.nodup_cons.mp nodup
    by_cases here : i = j
    · subst here
      exact ⟨s, .refl i s, apart_sweep apart fresh _⟩
    · obtain ⟨u, before, after⟩ := ih nodup' ((List.mem_cons.mp mem).resolve_left here) (f s j)
      exact ⟨u, (apart s i j here).trans before, after⟩

theorem manifest_sweep (still : ∀ u j, (f u j).manifest = u.manifest) (l : List SpotId) (s : State) :
    (l.foldl f s).manifest = s.manifest := by
  induction l generalizing s with
  | nil => rfl
  | cons j l ih => exact (ih _).trans (still s j)

end

theorem nodup_concernedSpots (s : State) (r : Role) (w : Nat) : (concernedSpots s r w).Nodup := by
  have all : allSpots.Nodup := by decide
  unfold concernedSpots
  split
  exacts [all.filter _, all.filter _, all.filter _, .nil]

/-- The spots of a tank are the ones its entries concern. -/
theorem mem_concernedSpots_of_tank {s : State} {i : SpotId} {k : Nat} {e : MapEntry} (tank : e.role.ownerKind = .tank)
    (found : s.tankEntry e.role i = some (k, e)) : i ∈ concernedSpots s e.role e.owner := by
  unfold State.tankEntry at found
  split at found
  · next rec record =>
    have owner := (findRole_role found).2
    unfold concernedSpots
    rw [tank]
    simp only [List.mem_filter, State.recordField, record, owner]
    exact ⟨mem_allSpots i, by simp⟩
  · cases found

theorem apart_changeCauses (f : Causes → Causes) (u : State) (i j : SpotId) (other : i ≠ j) : Apart i u (u.changeCauses j f) :=
  (beside_changeCauses u j f).apart other (inner_changeCauses u j f).table

theorem apart_freshSpot (u : State) (i j : SpotId) (other : i ≠ j) : Apart i u (u.freshSpot j) :=
  (beside_freshSpot u j).apart other (inner_freshSpot u j).table

theorem apart_deliverTankPressure (u : State) (i j : SpotId) (other : i ≠ j) : Apart i u (u.deliverTankPressure j) :=
  (beside_deliverTankPressure u j).apart other (inner_deliverTankPressure u j).table

/-! ## Pressures read -/

theorem SameReadings.carPressure {s t : State} (h : SameReadings s t) (hr : Rising s.imap) (i : SpotId) :
    t.carPressure i = s.carPressure i := by
  rw [State.carPressure, State.carPressure, State.spotEntry, State.spotEntry, (h.role hr .pCar _).2]

theorem SameReadings.tankPressure {s t : State} (h : SameReadings s t) (hr : Rising s.imap) (table : t.table = s.table)
    (i : SpotId) : t.tankPressure i = s.tankPressure i := by
  rw [State.tankPressure, State.tankPressure, (h.tank hr table .pTank i).2]

namespace Received

variable {s u : State} {f : Frame} {k : Nat} {e : MapEntry} {d : Dynamic} {v : Value}

/-- The entry written is found where it was. -/
theorem found (h : Received s u f k e d v) (hr : Rising s.imap) {r : Role} {w : Nat}
    (found : Machine.findRole s.imap r w = some (k, e)) :
    Machine.findRole u.imap r w = some (k, { e with body := .input (acceptInto d e.role f.tag v s.uptime) }) := by
  rcases findRole_of_shapes h.shapes r w with ⟨before, _⟩ | ⟨j, a, b, before, after, _⟩
  · rw [before] at found
    cases found
  · rw [before] at found
    cases found
    have hb : entryAt u.imap k = some b := entryAt_of_findRole (rising_of_shapes h.shapes hr) after
    rw [h.entry] at hb
    cases hb
    exact after

theorem foundTank (h : Received s u f k e d v) (hr : Rising s.imap) {r : Role} {i : SpotId}
    (found : s.tankEntry r i = some (k, e)) :
    u.tankEntry r i = some (k, { e with body := .input (acceptInto d e.role f.tag v s.uptime) }) := by
  unfold State.tankEntry State.record at *
  rw [h.table]
  split at found
  · exact h.found hr found
  · cases found

theorem tankPressure (h : Received s u f k e d v) (hr : Rising s.imap) (entry : entryAt s.imap k = some e)
    (other : e.role ≠ .pTank) (i : SpotId) : u.tankPressure i = s.tankPressure i := by
  unfold State.tankPressure State.tankEntry State.record
  rw [h.table]
  split
  · rw [h.findRole hr entry other]
  · rfl

theorem recordField (h : Received s u f k e d v) (i : SpotId) (g : SpotRecord → Nat) : u.recordField i g = s.recordField i g :=
  recordField_of_table h.table i g

end Received

/-- What the condition sets read of an entry just written. -/
theorem lastOf_written {k : Nat} {e : MapEntry} {d : Dynamic} {q : Byte} {v : Value} {n : Nat} (other : e.role ≠ .meter) :
    lastOf (some (k, { e with body := .input (acceptInto d e.role q v n) })) = some (clampValue v) := by
  simp [lastOf, MapEntry.lastValue, acceptInto, other]

theorem goodDiscrete_written {k : Nat} {e : MapEntry} {d : Dynamic} {q : Byte} {b : Discrete} {n : Nat} (other : e.role ≠ .meter) :
    goodDiscrete (some (k, { e with body := .input (acceptInto d e.role q (.discrete b) n) })) = decide (b = .normal) := by
  rw [goodDiscrete, lastOf_written other]
  simp [staleEntry, MapEntry.isStale, clampValue, acceptInto]

theorem highTank_written {k : Nat} {e : MapEntry} {d : Dynamic} {q : Byte} {b : Discrete} {n : Nat} (other : e.role ≠ .meter) :
    highTank (some (k, { e with body := .input (acceptInto d e.role q (.discrete b) n) })) = decide (b = .abnormal) := by
  rw [highTank, lastOf_written other]
  simp [staleEntry, MapEntry.isStale, clampValue, acceptInto]

end Sys2Proof.Machine
end

section
/-! Deliveries (R28): bond and arms (R62, R80), gas (R173), and the hand-overs to the Metering Unit, the travel timer and the
Coordinator. -/

namespace Sys2Proof.Machine

variable {s u : State} {f : Frame} {k : Nat} {e : MapEntry} {d : Dynamic}

/-- A sample whose role has no freshness of its own is delivered as it is received (R28). -/
theorem atDelivery_received {v : Value} (kind : e.role ≠ .meter ∧ e.role ≠ .tempLiq ∧ e.role ≠ .pCar ∧ e.role ≠ .pTank) :
    atDelivery s f k e d v = received s f k e d v := by
  rw [atDelivery_eq]
  split
  · unfold State.tellFresh
    obtain ⟨meter, temp, car, tank⟩ := kind
    split
    · next role => exact absurd role meter
    · next role => exact absurd role temp
    · next role => exact absurd role car
    · next role => exact absurd role tank
    · rfl
  · rfl

theorem owner_of_spotEntry {r : Role} {i : SpotId} (found : s.spotEntry r i = some (k, e)) : e.role = r ∧ spotId e.owner = some i := by
  obtain ⟨role, owner⟩ := findRole_role found
  exact ⟨role, by rw [owner, spotId_spotNumber]⟩

/-! ## Bond and arms -/

/-- The roles of bond and arms (R62). -/
def Role.connects (r : Role) : Prop := r = .bond ∨ r = .armLiq ∨ r = .armVap

/-- The ending a lost connection gives (R80). -/
def Role.lostEnding (r : Role) : Ending := if r = .bond then .faultBond else .faultArm

theorem deliver_connection {i : SpotId} {b : Discrete} (role : e.role.connects) :
    s.deliver k e [i] (.discrete b) = s.connectionReport i
      (if e.role = .bond then (s.values i).bondOk else if e.role = .armLiq then (s.values i).armLiq else (s.values i).armVap)
      e.role.lostEnding := by
  unfold State.deliver Role.lostEnding
  rcases role with role | role | role <;> rw [role] <;> rfl

/-- A reading of bond or arm as the conditions give it (R31). -/
theorem values_connection {i : SpotId} {b : Discrete} (h : Received s u f k e d (.discrete b)) (hr : Rising s.imap)
    (concerned : i ∈ concernedSpots s e.role e.owner) (role : e.role.connects) (found : s.spotEntry e.role i = some (k, e)) :
    (e.role = .bond → (u.values i).bondOk = decide (b = .normal)) ∧
    (e.role = .armLiq → (u.values i).armLiq = decide (b = .normal)) ∧
    (e.role = .armVap → (u.values i).armVap = decide (b = .normal)) := by
  have other : e.role ≠ .meter := by rcases role with h | h | h <;> rw [h] <;> nofun
  have written : u.spotEntry e.role i = _ := h.found hr found
  have good : goodDiscrete (u.spotEntry e.role i) = decide (b = .normal) := by
    rw [written]
    exact goodDiscrete_written other
  have values := h.values i
  rw [if_pos concerned] at values
  rw [values]
  exact ⟨fun role => by rw [← good, role]; rfl, fun role => by rw [← good, role]; rfl, fun role => by rw [← good, role]; rfl⟩

theorem readiness_ready {i : SpotId} (h : (s.spot i).state = .identified ∨ (s.spot i).state = .ready) :
    ((s.readiness i).spot i).state = if s.allConnected i then .ready else .identified := by
  rcases h with h | h
  · obtain ⟨_, _, _, spot⟩ := readiness_identified h
    rw [spot, if_pos rfl]
  · unfold State.readiness
    rw [h]
    simp only
    split
    · exact h
    · exact state_changeState s i .identified

theorem readiness_other {i : SpotId} (h : (s.spot i).state ≠ .identified) (h' : (s.spot i).state ≠ .ready) :
    s.readiness i = s := by
  unfold State.readiness
  split
  · next state => exact absurd state h
  · next state => exact absurd state h'
  · rfl

theorem connectionReport_active {i : SpotId} (active : s.isActive i = true) (b : Bool) (o : Ending) :
    s.connectionReport i b o = if b then s else s.faultSpot i o := if_pos active

theorem connectionReport_idle {i : SpotId} (idle : s.isActive i = false) (b : Bool) (o : Ending) :
    s.connectionReport i b o = s.readiness i := if_neg (by rw [idle]; nofun)

/-- A bond or arm reading reaches its spot (R62, R80). -/
theorem connections_delivered {b : Discrete} {i : SpotId} (h : Accepts s f k e d (.discrete b))
    (role : e.role = .bond ∨ e.role = .armLiq ∨ e.role = .armVap) (found : s.spotEntry e.role i = some (k, e)) :
    ∃ t, exec (.frameArrival f) s = .next t ∧
      (s.isActive i = true → b = .abnormal →
        Ended s t i (if e.role = .bond then .faultBond else .faultArm) .faulted) ∧
      (s.isActive i = true → b = .normal → t.manifest = s.manifest ∧
        (i ∉ s.waitList → (t.spot i).state = (s.spot i).state)) ∧
      ((s.spot i).state = .identified ∨ (s.spot i).state = .ready →
        (t.spot i).state = if t.allConnected i then .ready else .identified) ∧
      ((s.spot i).state = .vacant ∨ (s.spot i).state = .disabled ∨ (s.spot i).state = .complete ∨
        (s.spot i).state = .faulted → (t.spot i).state = (s.spot i).state) ∧
      (e.role = .bond → (t.values i).bondOk = decide (b = .normal)) ∧
      (e.role = .armLiq → (t.values i).armLiq = decide (b = .normal)) ∧
      (e.role = .armVap → (t.values i).armVap = decide (b = .normal)) := by
  have got := received_of h
  have rising := rising_of_shapes got.shapes h.rising
  have owner := (owner_of_spotEntry found).2
  have concerned : concernedSpots s e.role e.owner = [i] := concernedSpots_of_spot (by
    rcases role with h | h | h <;> rw [h] <;> exact .inl rfl) owner s
  have path := exec_accepted h
  have values := values_connection got h.rising (by rw [concerned]; exact List.mem_singleton.mpr rfl) role found
  have pressure := got.carPressure h.rising h.entry (by rcases role with h | h | h <;> rw [h] <;> nofun) i
  rw [atDelivery_received (by rcases role with h | h | h <;> rw [h] <;> exact ⟨nofun, nofun, nofun, nofun⟩), concerned] at path
  change exec (.frameArrival f) s = .next ((((received s f k e d (.discrete b)).deliver k e [i] (.discrete b)).endScan).modRpu _) at path
  generalize received s f k e d (.discrete b) = u at *
  have spot := got.spot i
  have holds : (if e.role = .bond then (u.values i).bondOk else if e.role = .armLiq then (u.values i).armLiq
      else (u.values i).armVap) = decide (b = .normal) := by
    obtain ⟨bond, liquid, vapour⟩ := values
    rcases role with role | role | role
    · rw [if_pos role, bond role]
    · rw [if_neg (by rw [role]; nofun), if_pos role, liquid role]
    · rw [if_neg (by rw [role]; nofun), if_neg (by rw [role]; nofun), vapour role]
  rw [deliver_connection role, holds] at path
  have sensed := (unsensed_connectionReport u i (decide (b = .normal)) e.role.lostEnding).trans (unsensed_endScan _)
  have kept : (u.connectionReport i (decide (b = .normal)) e.role.lostEnding).endScan.values i = u.values i :=
    values_of_conditions sensed.conditions i
  refine ⟨_, path, fun active lost => ?_, fun active fine => ?_, fun holding => ?_, fun deaf => ?_, ?_⟩
  · have active' := (got.isActive i).trans active
    rw [connectionReport_active active', lost]
    change Ended s ((u.faultSpot i e.role.lostEnding).endScan.modRpu _) i e.role.lostEnding .faulted
    rw [faultSpot_active active']
    exact (((ended_endTransfer rising i _ .faulted).endScan nofun).since spot got.manifest pressure).congr rfl rfl
  · rw [connectionReport_active ((got.isActive i).trans active), fine]
    refine ⟨(endScan_aside u).2.trans got.manifest, fun absent => ?_⟩
    obtain ⟨p, e⟩ := spot_endScan_unlisted (s := u) (j := i) (by rw [got.waitList]; exact absent)
    exact (congrArg SpotContext.state e).trans (congrArg SpotContext.state spot :)
  · rw [← spot] at holding
    have idle : u.isActive i = false := by rcases holding with h | h <;> exact idle_of_state h rfl
    rw [connectionReport_idle idle]
    have state := readiness_ready holding
    have rested : (u.readiness i).isActive i = false := by
      rw [State.isActive, state]
      split <;> rfl
    obtain ⟨g, p, e⟩ := spot_endScan_idle rested
    have connected : (u.readiness i).endScan.allConnected i = u.allConnected i :=
      allConnected_of_conditions ((unsensed_readiness u i).trans (unsensed_endScan _)).conditions i
    change ((u.readiness i).endScan.spot i).state = if (u.readiness i).endScan.allConnected i then _ else _
    rw [connected, e]
    exact state
  · rw [← spot] at deaf ⊢
    have idle : u.isActive i = false := by rcases deaf with h | h | h | h <;> exact idle_of_state h rfl
    rw [connectionReport_idle idle, readiness_other (by rcases deaf with h | h | h | h <;> rw [h] <;> nofun)
      (by rcases deaf with h | h | h | h <;> rw [h] <;> nofun)]
    obtain ⟨g, p, e⟩ := spot_endScan_idle idle
    exact (congrArg SpotContext.state e :)
  · change (_ → (State.values (State.endScan _) i).bondOk = _) ∧ (_ → (State.values (State.endScan _) i).armLiq = _) ∧
      (_ → (State.values (State.endScan _) i).armVap = _)
    rw [kept]
    exact values

/-! ## Gas -/

theorem union_causeGas (t : TripCauses) : t.union causeGas = { t with gas := true } := by
  simp [TripCauses.union, causeGas, TripCauses.empty]

/-- The hand-offs of a trip, seen from before the sample that caused it. -/
theorem HandedOff.since {v : Value} {t : State} (h : HandedOff u t) (got : Received s u f k e d v) (accepts : Accepts s f k e d v)
    (other : e.role ≠ .pCar) : HandedOff s t := by
  have comp := comp_of_comps got.comps
  have field : ∀ c, u.compField c (·.startTimeout) = s.compField c (·.startTimeout) := fun c => compField_congr (by rw [comp]) _
  have outputs : ∀ j a o, entryAt s.imap j = some a → a.body = .output o → entryAt u.imap j = some a := fun j a o ha ho => by
    have hj : j ≠ k := by
      rintro rfl
      rw [accepts.entry] at ha
      cases ha
      rw [accepts.input] at ho
      cases ho
    rw [got.others j hj, ha]
  exact ⟨fun i active => (h.ended i ((got.isActive i).trans active)).since (got.spot i) got.manifest
      (got.carPressure accepts.rising accepts.entry other i),
    fun i idle => by rw [← got.spot, ← got.manifest]; exact h.kept i ((got.isActive i).trans idle), h.list, h.comps,
    fun c runs => by rw [← got.uptime, ← field]; exact h.stopped c (by rw [comp]; exact runs),
    fun c rests => by rw [← comp]; exact h.resting c (by rw [comp]; exact rests),
    fun j a o ha ho => by rw [← got.uptime]; exact h.outputs j a o (outputs j a o ha ho) ho,
    fun a g ha hg j b o hb ho => h.offered a g (got.port.address.trans ha) (got.port.sending g hg) j b o (outputs j b o hb ho) ho⟩

theorem stillPort_forwardFrame (k : Nat) (f : Frame) (r : Rpu) : StillPort k r (forwardFrame f r) := by
  unfold forwardFrame
  split
  · have buffered : StillPort k r { r with forward := r.forward ++ [sealFrame { f with hops := f.hops - 1 }] } :=
      ⟨fun _ h => ⟨h, rfl⟩, fun h => ⟨h, rfl⟩⟩
    exact buffered.trans (stillPort_kick k _)
  · exact .refl k r

theorem sameParts_modRpu (s : State) (g : Rpu → Rpu) : SameParts s (s.modRpu g) :=
  ⟨rfl, rfl, rfl, rfl, rfl, rfl, rfl, rfl, rfl, rfl, rfl, rfl, rfl, rfl, rfl⟩

/-- A gas reading reaches the Shutdown Unit (R173). -/
theorem gas_delivered {b : Discrete} (h : Accepts s f k e d (.discrete b)) (role : e.role = .gas) :
    ∃ t, exec (.frameArrival f) s = .next t ∧
      (b = .abnormal → s.sdu.device = .run → TripEntered s t causeGas) ∧
      (b = .abnormal → s.sdu.device = .tripped →
        t.sdu = { s.noteValidFrame.sdu with causes := { s.sdu.causes with gas := true } }) ∧
      (b = .normal → t.sdu = s.noteValidFrame.sdu) := by
  have got := received_of h
  have rising := rising_of_shapes got.shapes h.rising
  have path := exec_accepted h
  rw [atDelivery_received (by rw [role]; exact ⟨nofun, nofun, nofun, nofun⟩)] at path
  generalize received s f k e d (.discrete b) = u at *
  have delivered : u.deliver k e (concernedSpots s e.role e.owner) (clampValue (.discrete b)) =
      if b = .abnormal then u.addTripCause causeGas else u := by
    unfold State.deliver
    rw [role]
    rfl
  rw [delivered] at path
  refine ⟨_, path, fun alarm run => ?_, fun alarm tripped => ?_, fun fine => ?_⟩
  · have run' : u.sdu.device = .run := by rw [got.sdu]; exact run
    rw [if_pos alarm, addTripCause_of_run run']
    have mark := marked_tripEntry u causeGas
    have handed := handedOff_tripEntry rising causeGas
    have sends := (got.port.sending · ·)
    have still := (inner_tripHandOffs (u.tripMark causeGas) causeGas).port
    rw [← tripEntry_eq] at still
    generalize u.tripEntry causeGas = w at *
    rw [endScan_empty handed.list]
    refine tripEntered_of ⟨mark.device, mark.causes.trans (by rw [got.sdu]; rfl), mark.uptime.trans got.uptime, mark.line⟩ ?_
    exact (handed.since got h (by rw [role]; nofun)).answered (sameParts_modRpu w _)
      (fun j => stillPort_forwardFrame j f w.rpu) fun g hg => still.sending g (sends g hg)
  · have tripped' : u.sdu.device = .tripped := by rw [got.sdu]; exact tripped
    rw [if_pos alarm, addTripCause_of_tripped tripped']
    change (State.endScan _).sdu = _
    rw [(inner_endScan _).sdu, got.sdu, union_causeGas]
    rfl
  · rw [fine, if_neg nofun]
    change u.endScan.sdu = _
    rw [(inner_endScan u).sdu, got.sdu]

/-! ## Hand-overs -/

/-- A meter count goes to the Metering Unit (R109). -/
theorem count_delivered {n t : Word16} {i : SpotId} (h : Accepts s f k e d (.count n t)) (owner : spotId e.owner = some i) :
    exec (.frameArrival f) s =
      .next ((((atDelivery s f k e d (.count n t)).meterSample k i n t).endScan).modRpu (forwardFrame f)) := by
  have kind := h.role_kind
  have spot : e.role.ownerKind = .spot := by
    cases role : e.role <;> rw [role] at kind <;> cases kind
    rfl
  have path := exec_accepted h
  rw [concernedSpots_of_spot (.inl spot) owner] at path
  exact path

/-- A valve position goes to the travel timer of its spot (R66). -/
theorem position_delivered {p : Position} {i : SpotId} (h : Accepts s f k e d (.position p)) (owner : spotId e.owner = some i) :
    exec (.frameArrival f) s =
      .next ((((atDelivery s f k e d (.position p)).deliverPosition i e.role p).endScan).modRpu (forwardFrame f)) := by
  have kind := h.role_kind
  have spot : e.role.ownerKind = .spot := by cases role : e.role <;> rw [role] at kind <;> cases kind <;> rfl
  have path := exec_accepted h
  rw [concernedSpots_of_spot (.inl spot) owner] at path
  exact path

/-- A compressor report goes to the Coordinator (R138). -/
theorem report_delivered {r : CompReading} {c : CompId} (h : Accepts s f k e d (.compressor r)) (role : e.role = .compState)
    (owner : compId e.owner = some c) :
    exec (.frameArrival f) s = .next
      ((((s.noteValidFrame.setBody k (.input (acceptInto d .compState f.tag (.compressor r) s.uptime))).stateReport c
        r).endScan).modRpu (forwardFrame f)) := by
  have path := exec_accepted h
  have none : concernedSpots s e.role e.owner = [] := by
    unfold concernedSpots
    rw [role]
    rfl
  have delivered (x : State) : x.deliver k e [] (.compressor r) = x.stateReport c r := by
    unfold State.deliver
    simp only [owner]
  rw [atDelivery_received (by rw [role]; exact ⟨nofun, nofun, nofun, nofun⟩), none] at path
  unfold received at path
  rw [none, role] at path
  exact path.trans (by rw [show clampValue (.compressor r) = .compressor r from rfl, delivered]; rfl)

end Sys2Proof.Machine
end

section
/-! Deliveries (R28): car pressures (R69, R93, R128), tank switches (R91) and tank pressures (R69); O16. -/

namespace Sys2Proof.Machine

variable {s u : State} {f : Frame} {k : Nat} {e : MapEntry} {d : Dynamic} {i : SpotId} {p : Int} {r : CarRecord}

/-! ## A car pressure at its spot -/

theorem deliverCarPressure_eq (bound : s.boundRecord i = some r) (p : Int) : s.deliverCarPressure i p =
    if (s.spot i).state = .pressurising ∧ ((s.changeCauses i (pressureCause r.maxPressure p)).spot i).state = .pressurising then
      (s.changeCauses i (pressureCause r.maxPressure p)).differentialTest i
    else if (s.spot i).state = .recovery ∧ ((s.changeCauses i (pressureCause r.maxPressure p)).spot i).state = .recovery ∧
        ((s.changeCauses i (pressureCause r.maxPressure p)).spot i).sub = some .pass ∧ p ≤ (r.residual : Int) then
      (s.changeCauses i (pressureCause r.maxPressure p)).endPass i
    else s.changeCauses i (pressureCause r.maxPressure p) := by
  unfold State.deliverCarPressure
  rw [bound]

theorem spot_differentialTest (s : State) (i : SpotId) : (s.differentialTest i).spot i = s.spot i ∨
    (s.differentialTest i).spot i = (s.spot i).unloads (s.uptime + s.recordField i (·.travelLimit)) := by
  unfold State.differentialTest
  split
  · split
    · exact .inr (enterUnloading_eq s i).2.1
    · exact .inl rfl
  · exact .inl rfl

/-- The causes after a car pressure: PRESSURE_HIGH as R93 gives it, the others but NO_COMPRESSOR as they were. -/
theorem causes_deliverCarPressure (active : s.isActive i = true) (bound : s.boundRecord i = some r) (p : Int) :
    ((s.deliverCarPressure i p).spot i).causes.withCompressor false =
      (pressureCause r.maxPressure p (s.spot i).causes).withCompressor false := by
  have changed : ((s.changeCauses i (pressureCause r.maxPressure p)).spot i).causes.withCompressor false =
      (pressureCause r.maxPressure p (s.spot i).causes).withCompressor false :=
    causes_of_figures (figures_changeCauses active (pressureCause r.maxPressure p))
  rw [deliverCarPressure_eq bound]
  generalize s.changeCauses i (pressureCause r.maxPressure p) = t at *
  rw [← changed]
  split
  · rcases spot_differentialTest t i with same | same
    · rw [same]
    · rw [same]
      rfl
  · split
    · obtain ⟨g, _, same⟩ := spot_endPass t i
      rw [same]
      rfl
    · rfl

theorem pressureCause_high {n : Nat} (high : (n : Int) < p) (c : Causes) : pressureCause n p c = { c with pressureHigh := true } :=
  if_pos high

theorem pressureCause_clear {n : Nat} (low : p ≤ (n : Int)) {c : Causes} (clear : c.pressureHigh = false) :
    pressureCause n p c = c := by
  unfold pressureCause
  rw [if_neg (Int.not_lt.mpr low)]
  split
  · rw [← clear]
  · rfl

theorem pressureCause_back {n : Nat} (back : p ≤ (n : Int) - 20) (c : Causes) :
    pressureCause n p c = { c with pressureHigh := false } := by
  unfold pressureCause
  rw [if_neg (by omega), if_pos back]

theorem clear_of_any {c : Causes} (h : c.any = false) : c.pressureHigh = false ∧ c.staleInput = false ∧ c.tankHigh = false := by
  simp only [Causes.any, Bool.or_eq_false_iff] at h
  simp [h]

/-- Above the maximum a running transfer is suspended (R93). -/
theorem heldBack_deliverCarPressure {w : Saved} (bound : s.boundRecord i = some r) (clear : (s.spot i).causes.any = false)
    (high : (r.maxPressure : Int) < p) (saves : savedOf (s.spot i).state (s.spot i).sub = some w) :
    HeldBack w ((s.deliverCarPressure i p).spot i) := by
  have held : HeldBack w ((s.changeCauses i (pressureCause r.maxPressure p)).spot i) :=
    heldBack_changeCauses clear (by rw [pressureCause_high high]; simp [Causes.others, Causes.withCompressor, Causes.any]) saves
  rw [deliverCarPressure_eq bound, if_neg fun run => ?_, if_neg fun run => ?_]
  · exact held
  · rw [held.state] at run
    cases run.2.1
  · rw [held.state] at run
    cases run.2

/-- At or below the maximum with no cause in the set, the tests of the state alone are made (R69, R128). -/
theorem deliverCarPressure_calm (bound : s.boundRecord i = some r) (clear : (s.spot i).causes.any = false)
    (low : p ≤ (r.maxPressure : Int)) : s.deliverCarPressure i p =
      if (s.spot i).state = .pressurising then s.differentialTest i
      else if (s.spot i).state = .recovery ∧ (s.spot i).sub = some .pass ∧ p ≤ (r.residual : Int) then s.endPass i else s := by
  rw [deliverCarPressure_eq bound, changeCauses_same (pressureCause_clear low (clear_of_any clear).1)]
  simp only [and_self, and_self_left]

/-- 20 kPa below the maximum a transfer PRESSURE_HIGH alone holds attempts the return (R93, R100). -/
theorem returning_deliverCarPressure {w : Saved} (bound : s.boundRecord i = some r) (held : (s.spot i).state = .suspended)
    (saved : (s.spot i).saved = some w) (alone : (s.spot i).causes = { Causes.empty with pressureHigh := true })
    (back : p ≤ (r.maxPressure : Int) - 20) : Returning w ((s.deliverCarPressure i p).spot i) := by
  have returning : Returning w ((s.changeCauses i (pressureCause r.maxPressure p)).spot i) :=
    returning_changeCauses held saved (by rw [alone]; rfl) (by rw [pressureCause_back back, alone]; rfl)
  rw [deliverCarPressure_eq bound, if_neg fun run => ?_, if_neg fun run => ?_]
  · exact returning
  · rw [held] at run
    cases run.1
  · rw [held] at run
    cases run.1

/-- The state a differential test gives in PRESSURISING (R69). -/
def differentialState (start : Nat) (car tank : Option Int) : SpotState :=
  match car, tank with
  | some p, some q => if (start : Int) ≤ p - q then .unloading else .pressurising
  | _, _ => .pressurising

theorem state_differentialTest (pressurising : (s.spot i).state = .pressurising) :
    ((s.differentialTest i).spot i).state =
      differentialState (s.recordField i (·.dpStart)) (s.carPressure i) (s.tankPressure i) := by
  unfold State.differentialTest differentialState
  cases s.carPressure i with
  | none => exact pressurising
  | some p =>
    cases s.tankPressure i with
    | none => exact pressurising
    | some q =>
      simp only
      split
      · rw [(enterUnloading_eq s i).2.1]
        rfl
      · exact pressurising

theorem waitList_differentialTest (s : State) (i : SpotId) : (s.differentialTest i).waitList = s.waitList := by
  unfold State.differentialTest
  split
  · split
    · exact (enterUnloading_eq s i).1.waitList
    · rfl
  · rfl

theorem Returning.outcome {w : Saved} {x : SpotContext} (h : Returning w x) :
    (x.state = w.state ∧ x.saved = none) ∨ (x.state = .suspended ∧ x.saved = some w ∧ x.causes.noCompressor = true) :=
  h.place.imp (fun ⟨state, _, saved, _⟩ => ⟨state, saved⟩) id

/-- The pass that has ended stays so through the scan (R128, R129). -/
theorem endPass_endScan (state : (s.spot i).state = .recovery) : let t := (s.endPass i).endScan
    (t.spot i).state = .recovery ∧ (t.spot i).sub = some .settle ∧ (t.spot i).passCount = (s.spot i).passCount + 1 ∧
      (t.spot i).pass = none ∧ (t.spot i).demand = .none ∧
      (t.spot i).settle = some (s.uptime + s.recordField i (·.settleTime)) := by
  obtain ⟨g, _, same⟩ := spot_endPass s i
  obtain ⟨d, g', b, q, hd, hq, _, _, e⟩ := quiet_endScan (s := s.endPass i) (j := i)
    (by rw [same]; exact fun h => nomatch state.symm.trans h) (by rw [same]; rfl)
  rw [same] at hd hq e
  have outside : q = none := hq fun inside => nomatch inside.2
  have demand : d = .none := hd.elim id id
  simp only
  rw [e, outside, demand]
  exact ⟨state, rfl, rfl, rfl, rfl, rfl⟩

theorem active_saved (w : Saved) : w.state.active = true := by
  have saves := savedOf_saved w
  exact active_of_saves (x := { SpotContext.initial with state := w.state, sub := w.sub }) saves

theorem active_changeCauses (active : s.isActive i = true) (g : Causes → Causes) : (s.changeCauses i g).isActive i = true := by
  by_cases any : (g (s.spot i).causes).any = true
  · cases caused_changeCauses active any with
    | stays _ same => rw [State.isActive, same]; exact active
    | held _ _ _ _ _ same => rw [State.isActive, same]; rfl
  · unfold State.changeCauses
    rw [if_pos active]
    simp only
    split
    · exact active
    · have self := spot_modSpot_same s i fun x => { x with causes := g x.causes }
      generalize s.modSpot i _ = u at *
      have clear : ¬ (u.spot i).causes.any = true := by rw [self]; exact any
      have stays : (u.spot i).state = (s.spot i).state := by rw [self]
      unfold State.causeTest
      simp only
      rw [if_neg clear]
      split
      · next held =>
        cases saved : (u.spot i).saved with
        | none =>
          rw [State.returnAttempt, saved, State.isActive, stays]
          exact active
        | some w =>
          rw [State.isActive]
          cases attempted_returnAttempt u i w saved held with
          | free _ back => rw [back.1]; exact active_saved w
          | back _ back => rw [back.1]; exact active_saved w
          | waits _ _ same => rw [same]; exact (congrArg SpotState.active held :)
      · rw [State.isActive, stays]
        exact active

/-- A spot that is fresh again keeps its activity and every cause but STALE_INPUT and NO_COMPRESSOR (R30). -/
theorem freshSpot_keeps (active : s.isActive i = true) : (s.freshSpot i).isActive i = true ∧
    ((s.freshSpot i).spot i).causes.pressureHigh = (s.spot i).causes.pressureHigh := by
  unfold State.freshSpot
  split
  · exact ⟨active, rfl⟩
  · exact ⟨active_changeCauses active _,
      (congrArg Causes.pressureHigh (causes_of_figures (figures_changeCauses active fun c => { c with staleInput := false })) :)⟩

/-- A car pressure reaches its spot (R69, R93, R128). -/
theorem carPressure_delivered {v : Value} (h : Accepts s f k e d v) (value : clampValue v = .pressure p)
    (found : s.spotEntry .pCar i = some (k, e)) (active : s.isActive i = true) (bound : s.boundRecord i = some r) :
    ∃ t, exec (.frameArrival f) s = .next t ∧ t.manifest = s.manifest ∧
      (t.spot i).causes.pressureHigh = (if (r.maxPressure : Int) < p then true
        else if p ≤ (r.maxPressure : Int) - 20 then false else (s.spot i).causes.pressureHigh) ∧
      ((s.spot i).causes.any = false → (r.maxPressure : Int) < p →
        ∀ w, savedOf (s.spot i).state (s.spot i).sub = some w →
          (t.spot i).state = .suspended ∧ (t.spot i).saved = some w) ∧
      ((s.spot i).causes.any = false → p ≤ (r.maxPressure : Int) → (s.spot i).state = .recovery →
        (s.spot i).sub = some .pass →
        (p ≤ (r.residual : Int) → (t.spot i).state = .recovery ∧ (t.spot i).sub = some .settle ∧
          (t.spot i).passCount = (s.spot i).passCount + 1 ∧ (t.spot i).pass = none ∧ (t.spot i).demand = .none ∧
          (t.spot i).settle = some (s.uptime + s.recordField i (·.settleTime))) ∧
        ((r.residual : Int) < p → i ∉ s.waitList → (t.spot i).state = .recovery ∧ (t.spot i).sub = some .pass ∧
          (t.spot i).passCount = (s.spot i).passCount)) ∧
      ((s.spot i).causes.any = false → p ≤ (r.maxPressure : Int) → (s.spot i).state = .pressurising →
        i ∉ s.waitList → (t.spot i).state = (match s.tankPressure i with
          | some q => if (s.recordField i (·.dpStart) : Int) ≤ p - q then .unloading else .pressurising
          | none => .pressurising)) ∧
      (∀ w, (s.spot i).state = .suspended → (s.spot i).saved = some w →
        (s.spot i).causes = { Causes.empty with pressureHigh := true } → p ≤ (r.maxPressure : Int) - 20 →
        ((t.spot i).state = w.state ∧ (t.spot i).saved = none) ∨
          ((t.spot i).state = .suspended ∧ (t.spot i).saved = some w ∧ (t.spot i).causes.noCompressor = true)) := by
  have got := received_of h
  have rising := rising_of_shapes got.shapes h.rising
  obtain ⟨role, owner⟩ := owner_of_spotEntry found
  have other : e.role ≠ .meter := by rw [role]; nofun
  have path := exec_accepted h
  rw [concernedSpots_of_spot (.inl (by rw [role]; rfl)) owner, value] at path
  have fresh : atDelivery s f k e d v = received s f k e d v ∨ atDelivery s f k e d v = (received s f k e d v).freshSpot i := by
    rw [atDelivery_eq, concernedSpots_of_spot (.inl (by rw [role]; rfl)) owner, role]
    split
    · exact .inr rfl
    · exact .inl rfl
  generalize atDelivery s f k e d v = x at *
  generalize received s f k e d v = u at *
  have delivered : x.deliver k e [i] (.pressure p) = x.deliverCarPressure i p := by
    unfold State.deliver
    simp only [role, if_true]
    rfl
  rw [delivered] at path
  have spot := got.spot i
  have besides : Beside i u x := by
    rcases fresh with rfl | rfl
    exacts [.refl i _, beside_freshSpot u i]
  have boundX : x.boundRecord i = some r := by
    rw [State.boundRecord, besides.manifest]
    exact (got.boundRecord i).trans bound
  have causes : x.isActive i = true ∧ (x.spot i).causes.pressureHigh = (s.spot i).causes.pressureHigh := by
    have activeU := (got.isActive i).trans active
    rw [← spot]
    rcases fresh with rfl | rfl
    exacts [⟨activeU, rfl⟩, freshSpot_keeps activeU]
  have same (clear : (s.spot i).causes.staleInput = false) : x = u := by
    rcases fresh with rfl | rfl
    exacts [rfl, freshSpot_clear (by rw [spot]; exact clear)]
  have car : u.carPressure i = some p := by
    rw [State.carPressure, State.spotEntry, got.found h.rising found, lastOf_written other, value]
    rfl
  have tank := got.tankPressure h.rising h.entry (by rw [role]; nofun) i
  refine ⟨_, path, (endScan_aside _).2.trans ((beside_deliverCarPressure x i p).manifest.trans (besides.manifest.trans got.manifest)),
    ?_, fun clear high w saves => ?_, fun clear low state sub => ?_, fun clear low state absent => ?_,
    fun w held saved alone back => ?_⟩
  · have after : ((x.deliverCarPressure i p).endScan.spot i).causes.withCompressor false =
        (pressureCause r.maxPressure p (x.spot i).causes).withCompressor false :=
      (causes_of_figures (figures_endScan (x.deliverCarPressure i p) i)).trans (causes_deliverCarPressure causes.1 boundX p)
    refine (congrArg Causes.pressureHigh after :).trans ?_
    rw [← causes.2]
    unfold pressureCause
    split
    · rfl
    · split <;> rfl
  · rw [same (clear_of_any clear).2.1] at boundX ⊢
    rw [← spot] at clear saves
    exact heldBack_keeps (heldBack_deliverCarPressure boundX clear high saves)
  · rw [same (clear_of_any clear).2.1] at boundX ⊢
    rw [← spot] at clear state sub ⊢
    rw [deliverCarPressure_calm boundX clear low, if_neg (by rw [state]; nofun)]
    refine ⟨fun target => ?_, fun above absent => ?_⟩
    · rw [if_pos ⟨state, sub, target⟩, ← got.uptime, ← got.recordField]
      exact endPass_endScan state
    · rw [if_neg fun pass => Int.not_lt.mpr pass.2.2 above]
      obtain ⟨q, stays⟩ := spot_endScan_unlisted (s := u) (j := i) (by rw [got.waitList]; exact absent)
      change (u.endScan.spot i).state = _ ∧ (u.endScan.spot i).sub = _ ∧ (u.endScan.spot i).passCount = _
      rw [stays]
      exact ⟨state, sub, rfl⟩
  · rw [same (clear_of_any clear).2.1] at boundX ⊢
    rw [← spot] at clear state
    rw [deliverCarPressure_calm boundX clear low, if_pos state]
    have tested := state_differentialTest state
    obtain ⟨q, stays⟩ := spot_endScan_unlisted (s := u.differentialTest i) (j := i)
      (by rw [waitList_differentialTest, got.waitList]; exact absent)
    refine (congrArg SpotContext.state stays).trans (tested.trans ?_)
    rw [car, tank, got.recordField]
    cases s.tankPressure i <;> rfl
  · rw [same (by rw [alone]; rfl)] at boundX ⊢
    rw [← spot] at held saved alone
    exact (returning_endScan (returning_deliverCarPressure boundX held saved alone back)).outcome

/-! ## Tank switches (R91) -/

theorem apart_tankReport (u : State) (i j : SpotId) (other : i ≠ j) : Apart i u (u.tankReport j) :=
  apart_changeCauses _ u i j other

/-- A tank switch reaches every spot of the tank (R91). -/
theorem tankSwitch_delivered {b : Discrete} (h : Accepts s f k e d (.discrete b)) (role : e.role = .tankHigh) :
    ∃ t, exec (.frameArrival f) s = .next t ∧ t.manifest = s.manifest ∧
      ∀ i, s.tankEntry .tankHigh i = some (k, e) →
        (t.values i).tankHigh = decide (b = .abnormal) ∧
        (s.isActive i = true → (t.spot i).causes.tankHigh = decide (b = .abnormal)) ∧
        ((s.spot i).causes.any = false → b = .abnormal →
          ∀ w, savedOf (s.spot i).state (s.spot i).sub = some w →
            (t.spot i).state = .suspended ∧ (t.spot i).saved = some w) ∧
        (∀ w, (s.spot i).state = .suspended → (s.spot i).saved = some w →
          (s.spot i).causes = { Causes.empty with tankHigh := true } → b = .normal →
          ((t.spot i).state = w.state ∧ (t.spot i).saved = none) ∨
            ((t.spot i).state = .suspended ∧ (t.spot i).saved = some w ∧
              (t.spot i).causes.noCompressor = true)) := by
  have got := received_of h
  have path := exec_accepted h
  have delivered (x : State) (l : List SpotId) : x.deliver k e l (.discrete b) = l.foldl State.tankReport x := by
    unfold State.deliver
    rw [role]
  have nodup := nodup_concernedSpots s e.role e.owner
  rw [atDelivery_received (by rw [role]; exact ⟨nofun, nofun, nofun, nofun⟩),
    show clampValue (.discrete b) = .discrete b from rfl, delivered] at path
  generalize received s f k e d (.discrete b) = u at *
  refine ⟨_, path, (endScan_aside _).2.trans ((manifest_sweep (fun u j => (beside_changeCauses u j _).manifest) _ u).trans
    got.manifest), fun i found => ?_⟩
  have concerned : i ∈ concernedSpots s e.role e.owner :=
    mem_concernedSpots_of_tank (by rw [role]; rfl) (by rw [role]; exact found)
  have high : (u.values i).tankHigh = decide (b = .abnormal) := by
    rw [got.values, if_pos concerned]
    change highTank (u.tankEntry .tankHigh i) = _
    rw [got.foundTank h.rising found]
    exact highTank_written (by rw [role]; nofun)
  obtain ⟨x, before, after⟩ := turn_of_sweep apart_tankReport nodup concerned u
  have spot := got.spot i
  have sensed := ((before.sensed.trans (unsensed_changeCauses x i _)).trans after.sensed).trans (unsensed_endScan _)
  have values : x.values i = u.values i := values_of_conditions before.sensed.conditions i
  have turn : x.tankReport i = x.changeCauses i (fun c => { c with tankHigh := decide (b = .abnormal) }) := by
    rw [State.tankReport, values, high]
  have shown : x.spot i = { s.spot i with pass := (x.spot i).pass } := by rw [before.spot, spot]
  generalize (concernedSpots s e.role e.owner).foldl State.tankReport u = y at *
  rw [turn] at after
  refine ⟨(congrArg Conditions.tankHigh (values_of_conditions sensed.conditions i)).trans high, fun active => ?_,
    fun clear alarm w saves => ?_, fun w held saved alone fine => ?_⟩
  · have activeX : x.isActive i = true := before.isActive.trans ((got.isActive i).trans active)
    have figures := (figures_endScan y i).trans (after.figures.trans (figures_changeCauses activeX _))
    exact (congrArg Causes.tankHigh (causes_of_figures figures) :)
  · have held : HeldBack w ((x.changeCauses i (fun c => { c with tankHigh := decide (b = .abnormal) })).spot i) :=
      heldBack_changeCauses (by rw [shown]; exact clear) (by rw [alarm]; simp [Causes.others, Causes.withCompressor, Causes.any])
        (by rw [shown]; exact saves)
    exact heldBack_keeps (after.heldBack held)
  · have returning : Returning w ((x.changeCauses i (fun c => { c with tankHigh := decide (b = .abnormal) })).spot i) :=
      returning_changeCauses (by rw [shown]; exact held) (by rw [shown]; exact saved) (by rw [shown]; simp only; rw [alone]; rfl)
        (by rw [shown, fine]; simp only; rw [alone]; rfl)
    exact (returning_endScan (after.returning returning)).outcome

/-! ## Tank pressures (R69) -/

theorem manifest_deliverTankPressure (u : State) (j : SpotId) : (u.deliverTankPressure j).manifest = u.manifest :=
  (beside_deliverTankPressure u j).manifest

/-- A tank pressure is tested at every spot of the tank in PRESSURISING (R69). -/
theorem tankPressure_delivered {v : Value} (h : Accepts s f k e d v) (value : clampValue v = .pressure p) (role : e.role = .pTank) :
    ∃ t, exec (.frameArrival f) s = .next t ∧ t.manifest = s.manifest ∧
      t = (((concernedSpots s .pTank e.owner).foldl
        (fun u i => if (u.spot i).state = .pressurising then u.differentialTest i else u)
        (atDelivery s f k e d v)).endScan).modRpu (forwardFrame f) ∧
      ∀ i, s.tankEntry .pTank i = some (k, e) → (s.spot i).state = .pressurising → (s.spot i).causes.any = false →
        i ∉ s.waitList → (t.spot i).state = (match s.carPressure i with
          | some q => if (s.recordField i (·.dpStart) : Int) ≤ q - p then .unloading else .pressurising
          | none => .pressurising) := by
  have got := received_of h
  have rising := rising_of_shapes got.shapes h.rising
  have path := exec_accepted h
  have delivered (x : State) (l : List SpotId) : x.deliver k e l (.pressure p) = l.foldl State.deliverTankPressure x := by
    unfold State.deliver
    simp only
    rw [if_neg (by rw [role]; nofun)]
  have nodup := nodup_concernedSpots s e.role e.owner
  have fresh : atDelivery s f k e d v = received s f k e d v ∨
      atDelivery s f k e d v = (concernedSpots s e.role e.owner).foldl State.freshSpot (received s f k e d v) := by
    rw [atDelivery_eq]
    split
    · exact .inr (by rw [role]; rfl)
    · exact .inl rfl
  rw [value, delivered] at path
  refine ⟨_, path, ?_, by rw [role]; rfl, fun i found pressurising clear absent => ?_⟩
  · refine (endScan_aside _).2.trans ((manifest_sweep manifest_deliverTankPressure _ _).trans ?_)
    rcases fresh with e | e
    · rw [e, got.manifest]
    · rw [e]
      exact (manifest_sweep (fun u j => (beside_freshSpot u j).manifest) _ _).trans got.manifest
  · have concerned : i ∈ concernedSpots s e.role e.owner :=
      mem_concernedSpots_of_tank (by rw [role]; rfl) (by rw [role]; exact found)
    generalize received s f k e d v = u at *
    have spot := got.spot i
    have told : Apart i u (atDelivery s f k e d v) := by
      rcases fresh with e | e
      · rw [e]
        exact .refl i u
      · obtain ⟨x, before, after⟩ := turn_of_sweep apart_freshSpot nodup concerned u
        rw [freshSpot_clear (by rw [before.spot, spot]; exact (clear_of_any clear).2.1)] at after
        rw [e]
        exact before.trans after
    generalize atDelivery s f k e d v = y at *
    obtain ⟨x, before, after⟩ := turn_of_sweep apart_deliverTankPressure nodup concerned y
    have apart := told.trans before
    have shown : (x.spot i).state = .pressurising := by
      rw [apart.spot, spot]
      exact pressurising
    have readings := (apart.sensed.entries rising).sameReadings
    have car : x.carPressure i = s.carPressure i :=
      (readings.carPressure rising i).trans (got.carPressure h.rising h.entry (by rw [role]; nofun) i)
    have tank : x.tankPressure i = some p := by
      rw [readings.tankPressure rising apart.sensed.table, State.tankPressure, got.foundTank h.rising found,
        lastOf_written (by rw [role]; nofun), value]
      rfl
    have start : x.recordField i (·.dpStart) = s.recordField i (·.dpStart) :=
      (recordField_of_table apart.sensed.table i _).trans (got.recordField i _)
    have tested := state_differentialTest shown
    have unlisted : i ∉ ((concernedSpots s e.role e.owner).foldl State.deliverTankPressure y).waitList := fun listed => by
      have here := after.list.mp listed
      rw [State.deliverTankPressure, if_pos shown, waitList_differentialTest] at here
      have was := apart.list.mp here
      rw [got.waitList] at was
      exact absent was
    rw [State.deliverTankPressure, if_pos shown] at after
    generalize (concernedSpots s e.role e.owner).foldl State.deliverTankPressure y = z at *
    obtain ⟨q, stays⟩ := spot_endScan_unlisted unlisted
    have state : (z.spot i).state = ((x.differentialTest i).spot i).state := by
      rw [after.spot]
    refine (congrArg SpotContext.state stays).trans (state.trans (tested.trans ?_))
    rw [car, tank, start]
    cases s.carPressure i <;> rfl

/-- Settles O16: the delivery of each role, behind the sample stored and before the frame goes on. -/
theorem deliveriesReachTheirOwners : Obligations.DeliveriesReachTheirOwners := by
  unfold Obligations.DeliveriesReachTheirOwners
  exact ⟨fun _ _ _ _ _ _ _ h role found => connections_delivered h role found,
    fun _ _ _ _ _ _ _ _ _ h value found active bound => carPressure_delivered h value found active bound,
    fun _ _ _ _ _ _ h role => tankSwitch_delivered h role,
    fun _ _ _ _ _ _ h role => gas_delivered h role,
    fun _ _ _ _ _ _ _ _ h owner => count_delivered h owner,
    fun _ _ _ _ _ _ _ h owner => position_delivered h owner,
    fun _ _ _ _ _ _ _ h value role => tankPressure_delivered h value role,
    fun _ _ _ _ _ _ _ h role owner => report_delivered h role owner⟩

end Sys2Proof.Machine
end

section
/-! Entries that go stale (R29, R30, R91, R92, R139, R173): what the owner is told, and what stands after the scan; O17. -/

namespace Sys2Proof.Machine

/-! ## The owner told (R30) -/

def Causes.staleComes (c : Causes) : Causes := { c with staleInput := true }
def Causes.tankComes (c : Causes) : Causes := { c with tankHigh := true }

/-- The roles whose staleness is a cause at their spots (R92). -/
def Role.feeds (r : Role) : Prop := r = .meter ∨ r = .tempLiq ∨ r = .pCar ∨ r = .pTank

theorem tellStale_feeds {r : Role} (h : r.feeds) (s : State) (w : Nat) (l : List SpotId) :
    s.tellStale r w l = l.foldl (fun u i => u.changeCauses i Causes.staleComes) s := by
  rcases h with rfl | rfl | rfl | rfl <;> rfl

theorem tellStale_connects {r : Role} (h : r.connects) (s : State) (w : Nat) (l : List SpotId) :
    s.tellStale r w l = l.foldl (fun u i => u.connectionLost i r.lostEnding) s := by
  rcases h with rfl | rfl | rfl <;> rfl

theorem unsensed_checkUsable (s : State) (c : CompId) : Unsensed s (s.checkUsable c) := by
  unfold State.checkUsable
  split
  exacts [unsensed_enterUnavailable s c, .refl s]

theorem unsensed_tellStale {r : Role} (gas : r ≠ .gas) (s : State) (w : Nat) (l : List SpotId) :
    Unsensed s (s.tellStale r w l) := by
  have lost (o : Ending) : Unsensed s (l.foldl (fun u i => u.connectionLost i o) s) :=
    Unsensed.foldl (fun u i => unsensed_connectionLost u i o) l s
  have caused (f : Causes → Causes) : Unsensed s (l.foldl (fun u i => u.changeCauses i f) s) :=
    Unsensed.foldl (fun u i => unsensed_changeCauses u i f) l s
  cases r with
  | bond | armLiq | armVap => exact lost _
  | tankHigh | meter | tempLiq | pCar | pTank => exact caused _
  | gas => exact absurd rfl gas
  | compState =>
    unfold State.tellStale
    simp only
    split
    exacts [unsensed_checkUsable s _, .refl s]
  | liqPos | vapPos | tag | liqCmd | vapCmd | compRun | compDir => exact .refl s

/-- Telling an owner leaves every input entry (R30). -/
theorem input_tellStale {s : State} (hr : Rising s.imap) (r : Role) (w : Nat) (l : List SpotId) {k : Nat} {e : MapEntry}
    {d : Dynamic} (entry : entryAt s.imap k = some e) (input : e.body = .input d) :
    entryAt (s.tellStale r w l).imap k = some e ∧ Rising (s.tellStale r w l).imap := by
  by_cases gas : r = .gas
  · subst gas
    exact ⟨input_addTripCause hr causeGas entry input, (heeds_addTripCause hr causeGas).rising hr⟩
  · have entries := (unsensed_tellStale gas s w l).entries hr
    exact ⟨entries.input entry input, entries.rising hr⟩

/-! ## Causes told to spots one after another -/

theorem told_causes {s : State} {i : SpotId} {l : List SpotId} (nodup : l.Nodup) (mem : i ∈ l) (f : Causes → Causes) :
    (s.isActive i = true → ((l.foldl (fun u i => u.changeCauses i f) s).spot i).causes.withCompressor false =
      (f (s.spot i).causes).withCompressor false) ∧
    ((s.spot i).causes.any = false → (f (s.spot i).causes).others = true →
      ∀ w, savedOf (s.spot i).state (s.spot i).sub = some w →
        HeldBack w ((l.foldl (fun u i => u.changeCauses i f) s).spot i)) := by
  obtain ⟨x, before, after⟩ := turn_of_sweep (apart_changeCauses f) nodup mem s
  refine ⟨fun active => ?_, fun clear comes w saves => after.heldBack (heldBack_changeCauses ?_ ?_ ?_)⟩
  · refine (causes_of_figures (after.figures.trans (figures_changeCauses (before.isActive.trans active) f))).trans ?_
    rw [before.spot]
    rfl
  · rw [before.spot]; exact clear
  · rw [before.spot]; exact comes
  · rw [before.spot]; exact saves

theorem others_staleComes (c : Causes) : c.staleComes.others = true := by
  simp [Causes.staleComes, Causes.others, Causes.withCompressor, Causes.any]

theorem others_tankComes (c : Causes) : c.tankComes.others = true := by
  simp [Causes.tankComes, Causes.others, Causes.withCompressor, Causes.any]

theorem connectionLost_active {s : State} {i : SpotId} (active : s.isActive i = true) (o : Ending) :
    s.connectionLost i o = s.endTransfer i o .faulted true := by
  rw [State.connectionLost, if_pos active, faultSpot_active active]

/-! ## The expiry -/

theorem exec_stalenessExpiry {s : State} (on : s.powered = true) (k : Nat) :
    exec (.stalenessExpiry k) s = .next (s.stalenessExpiry k) := whenPowered_on s (fun s => s.stalenessExpiry k) on

theorem stalenessExpiry_due {s : State} {k : Nat} {e : MapEntry} {d : Dynamic} {n : Nat} (entry : entryAt s.imap k = some e)
    (input : e.body = .input d) (fresh : d.stale = false) (limit : e.limit ≠ 0) (accepted : d.acceptedAt = some n)
    (passed : n + e.limit ≤ s.uptime) : s.stalenessExpiry k = s.goStale k e d := by
  have timer : stalenessDeadline e = some (n + e.limit) := by
    simp [stalenessDeadline, input, fresh, limit, accepted]
  unfold State.stalenessExpiry
  rw [entry]
  simp only [input, timer, due_some passed, if_true]

theorem stalenessExpiry_idle {s : State} {k : Nat} (idle : entryAt s.imap k = none ∨
    (∃ e o, entryAt s.imap k = some e ∧ e.body = .output o) ∨
      (∃ e d, entryAt s.imap k = some e ∧ e.body = .input d ∧
        (d.stale = true ∨ e.limit = 0 ∨ d.acceptedAt = none ∨ ∃ u, d.acceptedAt = some u ∧ s.uptime < u + e.limit))) :
    s.stalenessExpiry k = s := by
  unfold State.stalenessExpiry
  rcases idle with missing | ⟨e, o, entry, output⟩ | ⟨e, d, entry, input, why⟩
  · rw [missing]
  · rw [entry]
    simp only [output]
  · have timer : due (stalenessDeadline e) s.uptime = false := by
      refine not_due ?_
      rcases why with stale | zero | never | ⟨n, accepted, early⟩
      · exact .inl (by simp [stalenessDeadline, input, stale])
      · exact .inl (by simp [stalenessDeadline, input, zero])
      · exact .inl (by simp [stalenessDeadline, input, never])
      · by_cases off : (d.stale || e.limit == 0) = true
        · exact .inl (by simp only [stalenessDeadline, input, off, if_true])
        · exact .inr ⟨n + e.limit, by simp [stalenessDeadline, input, off, accepted], early⟩
    rw [entry]
    simp only [input, timer]
    rfl

/-! ## What stands after an entry has gone stale -/

section

variable {s : State} {k : Nat} {e : MapEntry} {d : Dynamic}

/-- The part with the entry stale and its owner told, before the conditions are re-evaluated (R29, R30). -/
def State.staleTold (s : State) (k : Nat) (e : MapEntry) (d : Dynamic) : State :=
  (s.setBody k (.input { d with stale := true })).tellStale e.role e.owner (concernedSpots s e.role e.owner)

theorem goStale_eq (s : State) (k : Nat) (e : MapEntry) (d : Dynamic) : s.goStale k e d =
    ((s.staleTold k e d).reevaluateAll (concernedSpots s e.role e.owner)).endScan := by
  unfold State.goStale State.staleTold
  simp only [concernedSpots_of_table (onlyMap_setBody s k (.input { d with stale := true })).table]

/-- The context of a spot after the expiry is what the scan makes of the one its owner left. -/
theorem spot_reevaluated (s : State) (l : List SpotId) (i : SpotId) : (s.reevaluateAll l).spot i = s.spot i :=
  (onlyConditions_reevaluateAll s l).spot i

theorem told_kept {s : State} (l : List SpotId) (i : SpotId) :
    ((s.reevaluateAll l).endScan.spot i).causes.withCompressor false = (s.spot i).causes.withCompressor false := by
  rw [causes_of_figures (figures_endScan (s.reevaluateAll l) i), spot_reevaluated]

theorem told_held {s : State} {i : SpotId} {w : Saved} (h : HeldBack w (s.spot i)) (l : List SpotId) :
    ((s.reevaluateAll l).endScan.spot i).state = .suspended ∧ ((s.reevaluateAll l).endScan.spot i).saved = some w :=
  heldBack_keeps (by rw [spot_reevaluated]; exact h)

theorem staleTold_entry (hr : Rising s.imap) (entry : entryAt s.imap k = some e) (input : e.body = .input d) :
    entryAt (s.staleTold k e d).imap k = some { e with body := .input { d with stale := true } } ∧
      Rising (s.staleTold k e d).imap :=
  input_tellStale ((does_setInput (o := true) (c := false) s k e d { d with stale := true } (fun _ => entry) input).rising hr) _ _ _
    (entryAt_setBody_same entry (.input { d with stale := true })) rfl

theorem spot_stored (s : State) (k : Nat) (b : EntryBody) (i : SpotId) : (s.setBody k b).spot i = s.spot i :=
  (onlyMap_setBody s k b).spot i

/-- A spot that loses its bond or an arm ends its transfer (R30, R80). -/
theorem staleTold_connects {i : SpotId} (hr : Rising s.imap) (entry : entryAt s.imap k = some e) (input : e.body = .input d)
    (role : e.role.connects) (owner : spotId e.owner = some i) (active : s.isActive i = true) :
    ((s.staleTold k e d).spot i).state = .faulted := by
  have rising := (does_setInput (o := true) (c := false) s k e d { d with stale := true } (fun _ => entry) input).rising hr
  have concerned : concernedSpots s e.role e.owner = [i] := concernedSpots_of_spot (by
    rcases role with h | h | h <;> rw [h] <;> exact .inl rfl) owner s
  have spot := spot_stored s k (.input { d with stale := true }) i
  unfold State.staleTold
  rw [concerned, tellStale_connects role]
  generalize s.setBody k (.input { d with stale := true }) = u at *
  change ((u.connectionLost i e.role.lostEnding).spot i).state = _
  rw [connectionLost_active (by rw [State.isActive, spot]; exact active)]
  exact (ended_endTransfer rising i e.role.lostEnding .faulted).state

/-- What the causes told make of a spot the entry concerns (R30, R91, R92). -/
theorem staleTold_causes {i : SpotId} {f : Causes → Causes} (concerned : i ∈ concernedSpots s e.role e.owner)
    (told : ∀ (u : State) (l : List SpotId), u.tellStale e.role e.owner l = l.foldl (fun u i => u.changeCauses i f) u)
    (comes : ∀ c, (f c).others = true) :
    (s.isActive i = true → ((s.staleTold k e d).spot i).causes.withCompressor false =
      (f (s.spot i).causes).withCompressor false) ∧
    ((s.spot i).causes.any = false → ∀ w, savedOf (s.spot i).state (s.spot i).sub = some w →
      HeldBack w ((s.staleTold k e d).spot i)) := by
  have spot := spot_stored s k (.input { d with stale := true }) i
  unfold State.staleTold
  rw [told]
  generalize s.setBody k (.input { d with stale := true }) = u at *
  obtain ⟨causes, held⟩ := told_causes (s := u) (nodup_concernedSpots s e.role e.owner) concerned f
  rw [State.isActive, spot] at causes
  rw [spot] at held
  exact ⟨causes, fun clear => held clear (comes _)⟩

/-- A compressor without its report is down (R139). -/
theorem staleTold_comp {c : CompId} (hr : Rising s.imap) (entry : entryAt s.imap k = some e) (input : e.body = .input d)
    (role : e.role = .compState) (found : s.compEntry .compState c = some (k, e)) :
    ((s.staleTold k e d).comp c).level = .unavailable := by
  have stored := does_setInput (o := true) (c := false) s k e d { d with stale := true } (fun _ => entry) input
  have written := entryAt_setBody_same entry (.input { d with stale := true })
  have shapes := (stored False nofun).shapes hr
  have owner : compId e.owner = some c := by
    have own := (findRole_role found).2
    rw [own, compId_compNumber]
  have told (u : State) (l : List SpotId) : u.tellStale .compState e.owner l = u.checkUsable c := by
    unfold State.tellStale
    simp only [owner]
  unfold State.staleTold
  rw [role, told]
  generalize s.setBody k (.input { d with stale := true }) = u at *
  have useless : unusable u c = true := by
    have stale : staleEntry (u.compEntry .compState c) = true := by
      rcases findRole_of_shapes shapes .compState (compNumber c) with ⟨before, _⟩ | ⟨j, a, b, before, after, _⟩
      · rw [State.compEntry, before] at found
        cases found
      · rw [State.compEntry, before] at found
        cases found
        have hb : entryAt u.imap k = some b := entryAt_of_findRole (rising_of_shapes shapes hr) after
        rw [written] at hb
        cases hb
        rw [State.compEntry, after]
        rfl
    simp [unusable, unavailability, stale]
  rw [down_of_unusable useless]
  split
  · next level => exact level
  · rfl

end

/-- Settles O17: the owner is told of the stale entry, and neither the re-evaluation nor the scan takes it back. -/
theorem staleEntriesAreTold : Obligations.StaleEntriesAreTold := by
  unfold Obligations.StaleEntriesAreTold
  refine ⟨fun s k e d n on hr entry input fresh limit accepted passed => ?_, fun s k on idle => by
    rw [exec_stalenessExpiry on, stalenessExpiry_idle idle]⟩
  have path := exec_stalenessExpiry on k
  rw [stalenessExpiry_due entry input fresh limit accepted passed, goStale_eq] at path
  obtain ⟨stale, rising⟩ := staleTold_entry hr entry input
  have connects {i : SpotId} := staleTold_connects (i := i) hr entry input
  have causes {i : SpotId} {f : Causes → Causes} := staleTold_causes (s := s) (k := k) (e := e) (d := d) (i := i) (f := f)
  have comp {c : CompId} := staleTold_comp (c := c) hr entry input
  have gas : e.role = .gas → (s.staleTold k e d).sdu.device = .tripped ∧ (s.staleTold k e d).sdu.causes.gas = true := fun role => by
    have tripped := sdu_addTripCause (s.setBody k (.input { d with stale := true })) causeGas
    unfold State.staleTold
    rw [role]
    refine ⟨tripped.1, (congrArg TripCauses.gas tripped.2).trans ?_⟩
    rw [union_causeGas]
  generalize s.staleTold k e d = v at *
  have one {i : SpotId} (kind : e.role.ownerKind = .spot) (owner : spotId e.owner = some i) :
      i ∈ concernedSpots s e.role e.owner := by
    rw [concernedSpots_of_spot (.inl kind) owner]
    exact List.mem_singleton.mpr rfl
  have fed {i : SpotId} (role : e.role.feeds) (concerned : i ∈ concernedSpots s e.role e.owner) :=
    causes (f := Causes.staleComes) concerned (fun u l => tellStale_feeds role u _ l) others_staleComes
  have switched {i : SpotId} (role : e.role = .tankHigh) (concerned : i ∈ concernedSpots s e.role e.owner) :=
    causes (f := Causes.tankComes) concerned (fun u l => by rw [role]; rfl) others_tankComes
  have feeds : e.role = .meter ∨ e.role = .tempLiq ∨ e.role = .pCar → e.role.feeds ∧ e.role.ownerKind = .spot := fun h => by
    rcases h with h | h | h <;> rw [h]
    exacts [⟨.inl rfl, rfl⟩, ⟨.inr (.inl rfl), rfl⟩, ⟨.inr (.inr (.inl rfl)), rfl⟩]
  refine ⟨_, path, ?_, fun i owner active => ⟨fun role => ?_, fun role => ?_⟩, fun i found active => ⟨fun role => ?_, fun role => ?_⟩,
    fun i told clear w saves => ?_, fun i concerned => ?_, fun role => ?_, fun c role found => ?_⟩
  · have same := (onlyConditions_reevaluateAll v (concernedSpots s e.role e.owner)).imap
    refine ((unsensed_endScan _).entries (by rw [same]; exact rising)).input ?_ rfl
    rw [same]
    exact stale
  · have faulted := connects role owner active
    have idle : (v.reevaluateAll (concernedSpots s e.role e.owner)).isActive i = false := by
      rw [State.isActive, spot_reevaluated, faulted]
      rfl
    obtain ⟨g, p, same⟩ := spot_endScan_idle idle
    rw [same, spot_reevaluated]
    exact faulted
  · obtain ⟨feeding, kind⟩ := feeds role
    exact (congrArg Causes.staleInput ((told_kept _ i).trans ((fed feeding (one kind owner)).1 active)) :)
  · have concerned := mem_concernedSpots_of_tank (by rw [role]; rfl) found
    exact (congrArg Causes.staleInput ((told_kept _ i).trans ((fed (.inr (.inr (.inr role))) concerned).1 active)) :)
  · have concerned := mem_concernedSpots_of_tank (by rw [role]; rfl) found
    exact (congrArg Causes.tankHigh ((told_kept _ i).trans ((switched role concerned).1 active)) :)
  · rcases told with ⟨owner, role⟩ | ⟨found, role | role⟩
    · obtain ⟨feeding, kind⟩ := feeds role
      exact told_held ((fed feeding (one kind owner)).2 clear w saves) _
    · have concerned := mem_concernedSpots_of_tank (by rw [role]; rfl) found
      exact told_held ((fed (.inr (.inr (.inr role))) concerned).2 clear w saves) _
    · have concerned := mem_concernedSpots_of_tank (by rw [role]; rfl) found
      exact told_held ((switched role concerned).2 clear w saves) _
  · have only := onlyConditions_reevaluateAll v (concernedSpots s e.role e.owner)
    have values := values_reevaluateAll (concernedSpots s e.role e.owner) v i
    rw [if_pos concerned] at values
    have current : Current (v.reevaluateAll (concernedSpots s e.role e.owner)) i := by
      rw [Current, values, conditionSet_congr only.imap only.table]
      rfl
    exact ((unsensed_endScan _).heeds (by rw [only.imap]; exact rising)).current i current
  · rw [(inner_endScan _).sdu, (onlyConditions_reevaluateAll v _).sdu]
    exact gas role
  · have level : ((v.reevaluateAll (concernedSpots s e.role e.owner)).comp c).level = .unavailable := by
      rw [comp_of_comps (onlyConditions_reevaluateAll v _).comps]
      exact comp role found
    obtain ⟨l, _, same⟩ := down_endScan _ c level
    rw [same]
    exact level

end Sys2Proof.Machine
end
